-- ==== Sys2Proof/Word.lean ====
section
/-! DEFINITION. The plain types every other file speaks of: bytes, keys, node addresses, car numbers, the two ports, timers. -/

namespace Sys2Proof

/-- One byte on a link or in the stored image. -/
abbrev Byte := BitVec 8

/-- A management key: four bytes (12.4). -/
abbrev Key := BitVec 32

/-- A node address, 0 to 63 (00, Units and conventions). -/
abbrev Node := Fin 64

/-- A car. Cars are numbered 1 to 16; the index of car n is n - 1. -/
abbrev CarIx := Fin 16

/-- The two link ports (chapter 10): the G-port faces the dispatcher's segment, the C-port the car bus. -/
inductive PortId where
  | g
  | c
deriving DecidableEq, Repr

/-- A timer in ticks of 0.1 s: `none` is stopped, `some n` is running with n ticks left. -/
abbrev Timer := Option Nat

/-- The car number of an index, 1 to 16. -/
def carNo (i : CarIx) : Nat := i.val + 1

/-- The index of a car number, if it names a car. -/
def carIx? (n : Nat) : Option CarIx :=
  if h : 1 ≤ n ∧ n ≤ 16 then some ⟨n - 1, by omega⟩ else none

/-- A number as a byte, its low eight bits. -/
def byteOf (n : Nat) : Byte := BitVec.ofNat 8 n

/-- All car indexes, in car-number order. -/
def allCars : List CarIx := [0, 1, 2, 3, 4, 5, 6, 7, 8, 9, 10, 11, 12, 13, 14, 15]

end Sys2Proof
end

