-- ==== Sys2Proof/Syntax.lean ====
section
/-! DEFINITION. The commands of the part: one constructor per row of spec/opcode_table.json, in the table's order. -/

namespace Sys2Proof

/-- The commands. Every row of the table is one whole and indivisible step (95, What each step holds). A row whose frame is
taken from a receive FIFO has no operand of its own: it takes the head of that FIFO. A row that is one management request
carries the requesting node and the request's fields. -/
inductive Instr where
  /-- POWER_ON_RESET (R1). -/
  | powerOnReset
  /-- RESET_N (R1). -/
  | resetN
  /-- RESTART_RESET (R164). -/
  | restartReset
  /-- IMAGE_LOAD_COMPLETE (R159). -/
  | imageLoadComplete
  /-- XFER_EMERG_TAKEN_ASSERTED (R5). -/
  | xferEmergTakenAsserted
  /-- XFER_EMERG_TAKEN_NEGATED (R5). -/
  | xferEmergTakenNegated
  /-- GEN_READY_TAKEN_ASSERTED (R4). -/
  | genReadyTakenAsserted
  /-- GEN_READY_TAKEN_NEGATED (R5). -/
  | genReadyTakenNegated
  /-- GEN_DERATE_TAKEN (R15): the level taken. -/
  | genDerateTaken (asserted : Bool)
  /-- TRANSFER_SETTLE_EXPIRY (R4). -/
  | transferSettleExpiry
  /-- ADOPTION_EXPIRY (R6). -/
  | adoptionExpiry
  /-- MODE_REPEAT_EXPIRY (R16). -/
  | modeRepeatExpiry
  /-- RECALL_WORK_EMPTIES (R11). -/
  | recallWorkEmpties
  /-- COMMITMENT_LIST_EMPTIES (R13). -/
  | commitmentListEmpties
  /-- CAR_REPORT (R27): the head of the C-port FIFO. -/
  | carReport
  /-- REPORT_TIMER_EXPIRY (R36). -/
  | reportTimerExpiry (car : CarIx)
  /-- START_REQUEST (R93): the head of the C-port FIFO. -/
  | startRequest
  /-- START_CANCEL (R98): the head of the C-port FIFO. -/
  | startCancel
  /-- GRANT_TIMER_EXPIRY (R62). -/
  | grantTimerExpiry (car : CarIx)
  /-- ACCELERATION_TIMER_EXPIRY (R60). -/
  | accelerationTimerExpiry (car : CarIx)
  /-- RUN_TIMER_EXPIRY (R64). -/
  | runTimerExpiry (car : CarIx)
  /-- SILENT_RELEASE_EXPIRY (R66). -/
  | silentReleaseExpiry (car : CarIx)
  /-- SETTLE_TIMER_EXPIRY (R81). -/
  | settleTimerExpiry
  /-- ORDER_RESEND_EXPIRY (R101). -/
  | orderResendExpiry (car : CarIx)
  /-- DOOR_TIMER_EXPIRY (R117). -/
  | doorTimerExpiry (car : CarIx)
  /-- DISPATCH_ORDER (R138): the head of the G-port FIFO. -/
  | dispatchOrder
  /-- RELAYED_FRAME (R134): the head of the named port's FIFO. -/
  | relayedFrame (port : PortId)
  /-- FRAME_END (R145): the bytes that followed the frame's first byte, up to the ending gap. -/
  | frameEnd (port : PortId) (rest : List Byte)
  /-- NEXT_FRAME_BEGINS (R146): the first byte of the new frame. -/
  | nextFrameBegins (port : PortId) (first : Byte)
  /-- HOLD_IN_CHANGE (R149): the new level of the hold-off input. -/
  | holdInChange (port : PortId) (asserted : Bool)
  /-- FRAME_SEND_START (R149). -/
  | frameSendStart (port : PortId)
  /-- FRAME_SENT (R148). -/
  | frameSent (port : PortId)
  /-- LINE_FAULT (R150). -/
  | lineFault (port : PortId)
  /-- LINE_UP (R150). -/
  | lineUp (port : PortId)
  /-- MANAGEMENT_REQUEST_PART (R166): the head of the G-port FIFO. -/
  | managementRequestPart
  /-- READ_PLAN (R155). -/
  | readPlan (src : Node)
  /-- READ_CARS (R155). -/
  | readCars (src : Node) (start count : Byte)
  /-- READ_QUEUE (R155). -/
  | readQueue (src : Node)
  /-- READ_COMMITMENTS (R155). -/
  | readCommitments (src : Node)
  /-- READ_LINK (R151). -/
  | readLink (src : Node)
  /-- WRITE_CARS (R157): the bytes of the car records. -/
  | writeCars (src : Node) (start count : Byte) (records : List Byte)
  /-- WRITE_PLAN (R157): the bytes of the plan record. -/
  | writePlan (src : Node) (record : List Byte)
  /-- COMMIT (R158). -/
  | commit (src : Node)
  /-- DISCARD (R158). -/
  | discard (src : Node)
  /-- SELECT (R125): the form byte and the car numbers. -/
  | select (src : Node) (form : Byte) (cars : List Byte)
  /-- RETRY_CAR (R164). -/
  | retryCar (src : Node) (car : Byte)
  /-- RESTART (R164). -/
  | restart (src : Node)
  /-- UNLOCK (R161). -/
  | unlock (src : Node) (level : Byte) (key : Key)
  /-- LOCK (R161). -/
  | lock (src : Node)
  /-- SET_KEY (R162). -/
  | setKey (src : Node) (level : Byte) (key : Key)
  /-- FREEZE (R162). -/
  | freeze (src : Node)
  /-- WIPE_PREPARE (R163). -/
  | wipePrepare (src : Node)
  /-- WIPE (R163). -/
  | wipe (src : Node)
  /-- IDLE_TIMER_EXPIRY (R161). -/
  | idleTimerExpiry
  /-- STORE_WRITE_COMPLETE (R160): whether the read-back matched. -/
  | storeWriteComplete (matched : Bool)
  /-- ERASE_COMPLETE (R163): whether the image read back blank. -/
  | eraseComplete (blank : Bool)
  /-- RESPONSE_PART_PLACED (R154). -/
  | responsePartPlaced
  /-- FIRST_BYTE_AFTER_IDLE_LINE (R145): the byte. -/
  | firstByteAfterIdleLine (port : PortId) (first : Byte)
deriving DecidableEq, Repr

end Sys2Proof
end

