-- ==== Sys2Proof/Config.lean ====
section
/-! DEFINITION. What the part fixes for good (sizes, lengths, thresholds), and the values the spec leaves open, as opaque
constants that nothing can evaluate. -/

namespace Sys2Proof.Config

/-- Frames a receive FIFO holds (R146). -/
def fifoDepth : Nat := 16

/-- Places of the relayed share of a transmit queue (R148). -/
def relayedPlaces : Nat := 16

/-- Places of the own share of a transmit queue (R148). -/
def ownPlaces : Nat := 8

/-- Held frames at which the hold-off output is asserted (R147). -/
def holdOffHigh : Nat := 14

/-- Held frames at which the hold-off output is negated (R147). -/
def holdOffLow : Nat := 8

/-- The largest payload of a frame (12.1). -/
def maxPayload : Nat := 32

/-- Bytes of the longest frame (12.1). -/
def maxFrame : Nat := 38

/-- The mode-repeat period in ticks (R16). -/
def modeRepeat : Nat := 10

/-- Bytes of the management request buffer (R166). -/
def requestBuffer : Nat := 248

/-- Bytes of the stored image (12.6). -/
def imageLength : Nat := 233

/-- Ticks in a minute, for the management idle interval. -/
def ticksPerMinute : Nat := 600

/-- Samples of 10 ms in a tick of 0.1 s. -/
def samplesPerTick : Nat := 10

/-- The key attempt counter after a power-on reset (R161). -/
def keyAttempts : Nat := 5

/-- The broadcast address. -/
def broadcast : Nat := 63

/-- FREE VALUE: the byte the part puts where the spec states none (assumption 14). Applied to a counter of State that
advances at each use, so that nothing links two uses. -/
opaque freeByte : Nat → Byte

end Sys2Proof.Config
end

