-- ==== Sys2Proof/Machine/State.lean ====
section
/-! DEFINITION. Every piece of state the spec gives the part, as plain data, with the state right after a power-on reset. -/

namespace Sys2Proof.Machine

/-- The plan (R1). -/
inductive Plan where
  | adopt
  | normal
  | transferWait
  | recall
  | service
  | mainsReturn
deriving DecidableEq, Repr

/-- One power line input (R2): the level at the pin, the last 10 ms sample since the reset, and the taken level. -/
structure Line where
  pin   : Bool
  last  : Option Bool
  taken : Bool
deriving DecidableEq, Repr

/-- The drive kind of a car (R20). -/
inductive Drive where
  | resistor
  | ret
deriving DecidableEq, Repr

/-- How a car's binding is made (R20). -/
inductive BindMode where
  | firstHeard
  | assigned
deriving DecidableEq, Repr

/-- A car's relay mode (R20). -/
inductive RelayMode where
  | forward
  | listen
  | blocked
  | disabled
deriving DecidableEq, Repr

/-- The configured part of a car record (R20). -/
structure CarConf where
  present  : Bool
  pm       : Nat
  s        : Nat
  f        : Nat
  b        : Nat
  drive    : Drive
  r        : Nat
  cls      : Nat
  recallLanding : Nat
  lowest   : Nat
  highest  : Nat
  bind     : BindMode
  assigned : Nat
  relay    : RelayMode
deriving DecidableEq, Repr

/-- The writable cells of the relay action table (R135); true is PASS. -/
structure RelayTable where
  dispatchNormal : Bool
  reportNormal   : Bool
  reportEmergency : Bool
  mgmtNormal     : Bool
  mgmtEmergency  : Bool
  otherNormal    : Bool
  otherEmergency : Bool
deriving DecidableEq, Repr

/-- The plan record (R157), its fields in the order of the table. -/
structure PlanRecord where
  tGen     : Nat
  tSettle  : Nat
  tGrant   : Nat
  tAccel   : Nat
  tRun     : Nat
  tSilent  : Nat
  tRelease : Nat
  tDoor    : Nat
  a        : Nat
  dr       : Nat
  q        : Nat
  k        : Nat
  m        : Nat
  skipLimit    : Nat
  attemptLimit : Nat
  serviceCount : Nat
  deratedCount : Nat
  ownNode      : Nat
  idleMinutes  : Nat
  relay    : RelayTable
  mirror   : Bool
deriving DecidableEq, Repr

/-- A car table and plan record: the active table (R21) and the pending table (R156) are of this form. -/
structure Table where
  cars : Vector CarConf 16
  plan : PlanRecord
deriving DecidableEq, Repr

/-- A load (2.2): percent of rated load, or UNKNOWN. -/
inductive Load where
  | known (n : Nat)
  | unknown
deriving DecidableEq, Repr

/-- A car's reported motion (2.2). -/
inductive Motion where
  | stopped
  | starting
  | running
deriving DecidableEq, Repr

/-- The direction of a run (R42). -/
inductive Dir where
  | up
  | down
deriving DecidableEq, Repr

/-- A car's door state (2.2). -/
inductive Door where
  | closed
  | moving
  | opened
deriving DecidableEq, Repr

/-- A controller's operating mode (2.2). -/
inductive CarMode where
  | automatic
  | firefighter
  | inspection
  | independent
  | outOfService
deriving DecidableEq, Repr

/-- The power mode of a mode frame (R16). -/
inductive PowerMode where
  | normal
  | emergency
deriving DecidableEq, Repr

/-- The learned part of a car record (2.2). A direction of `none` is NONE. -/
structure Learned where
  heard   : Bool
  landing : Nat
  between : Bool
  motion  : Motion
  dir     : Option Dir
  door    : Door
  load    : Load
  mode    : CarMode
  fault   : Byte
  ackMode : PowerMode
  silent  : Bool
  reportTimer  : Timer
  firstForeign : Option Nat
deriving DecidableEq, Repr

/-- The sixteen restoration states, in the order of the table of 7.1. -/
inductive RState where
  | vacant
  | unheard
  | inGroup
  | standing
  | recallPending
  | recalling
  | diverting
  | landed
  | parked
  | parkedAway
  | serving
  | firefighter
  | heldOut
  | excluded
  | failed
  | conflict
deriving DecidableEq, Repr

/-- Why a car is FAILED (R105, R119); `none` in every other state. -/
inductive Reason where
  | none
  | attempts
  | tooLarge
  | regen
  | runLimit
  | silent
  | unauthorized
  | fault
deriving DecidableEq, Repr

/-- A car order (R90): RECALL and DIVERT name a landing. -/
inductive CarOrder where
  | recall (landing : Nat)
  | divert (landing : Nat)
  | serve
deriving DecidableEq, Repr

/-- A frame: its envelope without the check, which is computed from the rest (R165). -/
structure Frame where
  dst     : Byte
  src     : Byte
  kind    : Byte
  payload : List Byte
deriving DecidableEq, Repr

/-- A held-order slot (R140). -/
inductive Slot where
  | closed
  | empty
  | holding (order : Frame)
deriving DecidableEq, Repr

/-- All the part keeps for one car outside the active table: the learned part and binding (chapter 2), the restoration record
and the selected flag (R105, R124), the start protocol's two items (R91), the marks of an order held back or not yet sent
(R132, R101), and the held-order slot (R140). -/
structure Car where
  learned  : Learned
  bound    : Option Nat
  foreign  : List Nat
  state    : RState
  reason   : Reason
  attempts : Nat
  order    : Option CarOrder
  doorTimer : Timer
  doorAlarm : Bool
  faultSeen : Bool
  selected  : Bool
  orderDeferred : Bool
  serveUnsent   : Bool
  resendTimer   : Timer
  lastTag  : Option Byte
  slot     : Slot
deriving DecidableEq, Repr

/-- The kind of a queue entry or commitment (R54, R72). -/
inductive RunKind where
  | recall
  | divert
  | service
  | firefighter
  | other
  | adopted
deriving DecidableEq, Repr

/-- The phase of a commitment (R54). -/
inductive Phase where
  | granted
  | starting
  | running
  | adopted
deriving DecidableEq, Repr

/-- The three figures of a run, in 0.1 kW (R41). -/
structure Figures where
  ds : Int
  dh : Int
  dl : Int
deriving DecidableEq, Repr

/-- A commitment's run timer (R64). -/
inductive RunTimer where
  | stopped
  | running (left : Nat)
  | expired
deriving DecidableEq, Repr

/-- A commitment record (R54). -/
structure Commitment where
  car    : CarIx
  kind   : RunKind
  phase  : Phase
  fig    : Figures
  upper  : Int
  lower  : Int
  target : Option Nat
  tag    : Option Byte
  slowStart    : Bool
  unauthorized : Bool
  silentHold   : Bool
  grantTimer   : Timer
  accelTimer   : Timer
  runTimer     : RunTimer
  releaseTimer : Timer
deriving DecidableEq, Repr

/-- A start queue entry (R72). -/
structure Entry where
  car      : CarIx
  kind     : RunKind
  cls      : Nat
  target   : Nat
  dir      : Dir
  load     : Load
  fig      : Figures
  skip     : Nat
  blocking : Bool
  tag      : Byte
deriving DecidableEq, Repr

/-- The assembly buffer of a port (R145, R146). -/
inductive Assembly where
  | empty
  | building (bytes : List Byte)
  | waiting (frame : Frame)
deriving DecidableEq, Repr

/-- A frame in a transmit queue: which share its place belongs to (R148), and whether it is the answer to a RESTART (R164). -/
structure TxItem where
  own     : Bool
  frame   : Frame
  restart : Bool
deriving DecidableEq, Repr

/-- The kinds of an error summary (R151). -/
inductive ErrKind where
  | check
  | length
  | truncated
  | overrun
  | lineFault
  | txDiscard
  | noticeLost
deriving DecidableEq, Repr

/-- An error summary (R151): which kinds have been recorded. -/
structure ErrorSummary where
  check      : Bool
  length     : Bool
  truncated  : Bool
  overrun    : Bool
  lineFault  : Bool
  txDiscard  : Bool
  noticeLost : Bool
deriving DecidableEq, Repr

/-- A link port (chapter 10). -/
structure Port where
  rx       : List Frame
  assembly : Assembly
  holdOut  : Bool
  holdIn   : Bool
  tx       : List TxItem
  sending  : Bool
  up       : Bool
  errors   : ErrorSummary
deriving DecidableEq, Repr

/-- An access level (R161). -/
inductive Level where
  | opened
  | maintenance
  | commission
deriving DecidableEq, Repr

/-- The request buffer (R166): the node, the number of the next part, and the request data so far. -/
structure RequestBuffer where
  node : Node
  next : Nat
  data : List Byte
deriving DecidableEq, Repr

/-- The nonvolatile image (12.6): its bytes, or an image that fails its check and whose bytes the spec does not give (R160,
R163, assumption 12). -/
inductive Image where
  | bytes (b : List Byte)
  | failing
deriving DecidableEq, Repr

/-- What the Plan Store is doing (R158, R160, R163): nothing, writing an image for a COMMIT, or erasing for a WIPE, each with
the node to answer. -/
inductive StoreOp where
  | idle
  | writing (image : List Byte) (requester : Node)
  | erasing (requester : Node)
deriving DecidableEq, Repr

/-- The Management Unit and the Plan Store (chapter 11). -/
structure Mgmt where
  level       : Level
  keyCounter  : Nat
  frozen      : Bool
  prepare     : Bool
  idleTimer   : Timer
  request     : Option RequestBuffer
  response    : List Frame
  storeAnswer : List Frame
  maintKey    : Option Key
  commKey     : Option Key
  image       : Image
  storeOp     : StoreOp
deriving DecidableEq, Repr

/-- Everything the part holds, without the queue of commands. The fields `arbDue`, `evalDue`, `subTick` and `freeCount` are the
model's own (assumptions 6, 7, 3, 14). -/
structure Block where
  plan          : Plan
  xfer          : Line
  gen           : Line
  derate        : Line
  transferTimer : Timer
  genSettled    : Bool
  adoptionTimer : Timer
  modeTimer     : Timer
  aEff          : Nat
  recallReports : Nat
  listReports   : Nat
  active        : Table
  fallback      : Bool
  pendingTable  : Table
  loaded        : Bool
  cars          : Vector Car 16
  commitments   : List Commitment
  queue         : List Entry
  settleTimer   : Timer
  manual        : Option (List CarIx)
  gport         : Port
  cport         : Port
  mgmt          : Mgmt
  arbDue        : Bool
  evalDue       : Bool
  subTick       : Nat
  freeCount     : Nat
deriving DecidableEq, Repr

/-- The state: the block, and the commands that wait, first in first out. -/
structure State extends Block where
  pending : List Instr
deriving DecidableEq, Repr

/-- The reasons the machine can stop. There are none: the spec names no condition that stops the part (INVENTORY, Faults), so
this type has no constructor. -/
inductive Fault where
deriving DecidableEq, Repr

/-- The refusals of the model. -/
inductive Refusal where
  /-- Raised by an arm of `exec` whose command has no meaning yet; no arm raises it now. Safe: the machine stops. -/
  | notModelled (mnemonic : String)
deriving DecidableEq, Repr

/-- A configured part in fallback mode, before the car's first accepted report (R22). The assigned node is the default record's
(assumption 24). -/
def CarConf.fallbackPart : CarConf :=
  { present := false, pm := 0, s := 0, f := 0, b := 0, drive := .resistor, r := 0, cls := 1, recallLanding := 0,
    lowest := 0, highest := 127, bind := .firstHeard, assigned := 1, relay := .forward }

/-- A default car record of the pending table (R156). -/
def CarConf.default : CarConf :=
  { present := false, pm := 1, s := 100, f := 5, b := 50, drive := .resistor, r := 0, cls := 1, recallLanding := 0,
    lowest := 0, highest := 127, bind := .firstHeard, assigned := 1, relay := .forward }

/-- Every writable cell PASS (R135). -/
def RelayTable.default : RelayTable :=
  { dispatchNormal := true, reportNormal := true, reportEmergency := true, mgmtNormal := true, mgmtEmergency := true,
    otherNormal := true, otherEmergency := true }

/-- The default plan record (R157). -/
def PlanRecord.default : PlanRecord :=
  { tGen := 50, tSettle := 20, tGrant := 30, tAccel := 60, tRun := 600, tSilent := 20, tRelease := 300, tDoor := 150,
    a := 1000, dr := 70, q := 0, k := 0, m := 1, skipLimit := 3, attemptLimit := 3, serviceCount := 1, deratedCount := 1,
    ownNode := 62, idleMinutes := 10, relay := RelayTable.default, mirror := false }

/-- The active table in fallback mode (R22, R159). -/
def Table.fallbackTable : Table :=
  { cars := Vector.replicate 16 CarConf.fallbackPart, plan := PlanRecord.default }

/-- The default pending table (R156). -/
def Table.default : Table :=
  { cars := Vector.replicate 16 CarConf.default, plan := PlanRecord.default }

/-- The learned part after a reset (R23). -/
def Learned.reset : Learned :=
  { heard := false, landing := 0, between := false, motion := .stopped, dir := none, door := .closed, load := .unknown,
    mode := .automatic, fault := 0, ackMode := .normal, silent := false, reportTimer := none, firstForeign := none }

/-- A car after a reset, before the image load completes (R23, R91, R105, R124, R140). -/
def Car.reset : Car :=
  { learned := Learned.reset, bound := none, foreign := [], state := .vacant, reason := .none, attempts := 0, order := none,
    doorTimer := none, doorAlarm := false, faultSeen := false, selected := false, orderDeferred := false,
    serveUnsent := false, resendTimer := none, lastTag := none, slot := .closed }

/-- An empty error summary (R151). -/
def ErrorSummary.empty : ErrorSummary :=
  { check := false, length := false, truncated := false, overrun := false, lineFault := false, txDiscard := false,
    noticeLost := false }

/-- A port after a reset (R152); the level of its hold-off input is the partner's. -/
def Port.reset (holdIn : Bool) : Port :=
  { rx := [], assembly := .empty, holdOut := false, holdIn := holdIn, tx := [], sending := false, up := true,
    errors := ErrorSummary.empty }

/-- A line input after a reset (R3); the level at its pin is the outside's. -/
def Line.reset (pin : Bool) : Line := { pin := pin, last := none, taken := false }

/-- An erased image: every byte all ones (12.6). -/
def Image.blank : Image := .bytes (List.replicate Config.imageLength 0xFF)

/-- The Management Unit and Plan Store after a power-on reset (table of 11.9), with the image they are left. -/
def Mgmt.reset (image : Image) : Mgmt :=
  { level := .opened, keyCounter := Config.keyAttempts, frozen := false, prepare := false, idleTimer := none,
    request := none, response := [], storeAnswer := [], maintKey := none, commKey := none, image := image,
    storeOp := .idle }

/-- The part after a reset: plan ADOPT, lists and queues empty, the image load begun. What belongs to the outside or outlasts
the reset is given: the levels at the five input pins, the Management Unit and Plan Store, and the free-value counter. -/
def Block.afterReset (xferPin genPin deratePin gHoldIn cHoldIn : Bool) (mgmt : Mgmt) (freeCount : Nat) : Block :=
  { plan := .adopt, xfer := Line.reset xferPin, gen := Line.reset genPin, derate := Line.reset deratePin,
    transferTimer := none, genSettled := false, adoptionTimer := none, modeTimer := none, aEff := PlanRecord.default.a,
    recallReports := 0, listReports := 0, active := Table.fallbackTable, fallback := true, pendingTable := Table.default,
    loaded := false, cars := Vector.replicate 16 Car.reset, commitments := [], queue := [], settleTimer := none,
    manual := none, gport := Port.reset gHoldIn, cport := Port.reset cHoldIn, mgmt := mgmt, arbDue := false,
    evalDue := false, subTick := 0, freeCount := freeCount }

/-- The machine right after its first power-on reset: a new part with a blank image (assumption 11), every input pin negated
(assumption 26), no command waiting. -/
def State.reset : State :=
  { toBlock := Block.afterReset false false false false false (Mgmt.reset Image.blank) 0, pending := [] }

end Sys2Proof.Machine
end

