-- ==== Sys2Proof/Machine/Frames.lean ====
section
/-! DEFINITION. Frames on a link: the check, the envelope, and the code of every value a frame or record carries (12.1, 12.2). -/

namespace Sys2Proof.Machine

/-- One bit of the check register for x^16 + x^12 + x^5 + 1 (R165). -/
def crcShift (r : BitVec 16) : BitVec 16 :=
  if r.msb then (r <<< 1) ^^^ 0x1021#16 else r <<< 1

/-- One byte into the check register, most significant bit first (R165). -/
def crcByte (r : BitVec 16) (x : Byte) : BitVec 16 :=
  let r := r ^^^ ((x.setWidth 16) <<< 8)
  crcShift (crcShift (crcShift (crcShift (crcShift (crcShift (crcShift (crcShift r)))))))

/-- The check over a run of bytes: register preset to all ones, no inversion of the result (R165). -/
def checkOf (bytes : List Byte) : BitVec 16 := bytes.foldl crcByte 0xFFFF#16

/-- A 16-bit quantity as two bytes, most significant first (chapter 12). -/
def be16 (n : Nat) : List Byte := [byteOf (n / 256), byteOf n]

/-- A signed quantity in two bytes of two's complement. -/
def be16s (z : Int) : List Byte :=
  let w := BitVec.ofInt 16 z
  [(w >>> 8).setWidth 8, w.setWidth 8]

/-- A signed quantity in four bytes of two's complement. -/
def be32s (z : Int) : List Byte :=
  let w := BitVec.ofInt 32 z
  [(w >>> 24).setWidth 8, (w >>> 16).setWidth 8, (w >>> 8).setWidth 8, w.setWidth 8]

/-- A flag as a bit of weight 2^n. -/
def bitOf (x : Bool) (n : Nat) : Nat := if x then 2 ^ n else 0

/-- The bytes the check of a frame is taken over: destination to last payload byte (12.1). -/
def Frame.body (f : Frame) : List Byte :=
  f.dst :: f.src :: f.kind :: byteOf f.payload.length :: f.payload

/-- The frame as it stands on the line, its check high byte first (12.1). -/
def Frame.wire (f : Frame) : List Byte := f.body ++ be16 (checkOf f.body).toNat

/-- The frame kinds of 12.2. -/
inductive FrameKind where
  | carReport
  | startRequest
  | startCancel
  | startGrant
  | startWait
  | startRefusal
  | carOrder
  | modeFrame
  | dispatchOrder
  | orderNotice
  | planNotice
  | mgmtRequest
  | mgmtResponse
deriving DecidableEq, Repr

/-- The code of a frame kind (12.2). -/
def FrameKind.code : FrameKind → Byte
  | .carReport => 1
  | .startRequest => 2
  | .startCancel => 3
  | .startGrant => 4
  | .startWait => 5
  | .startRefusal => 6
  | .carOrder => 7
  | .modeFrame => 8
  | .dispatchOrder => 16
  | .orderNotice => 17
  | .planNotice => 18
  | .mgmtRequest => 32
  | .mgmtResponse => 33

/-- The payload length of a frame kind (12.3); requests and responses have none of their own. -/
def FrameKind.payloadLength : FrameKind → Option Nat
  | .carReport => some 10
  | .startRequest => some 4
  | .startCancel => some 2
  | .startGrant => some 3
  | .startWait => some 3
  | .startRefusal => some 3
  | .carOrder => some 3
  | .modeFrame => some 1
  | .dispatchOrder => some 2
  | .orderNotice => some 3
  | .planNotice => some 4
  | .mgmtRequest => none
  | .mgmtResponse => none

/-- Every frame kind. -/
def FrameKind.all : List FrameKind :=
  [.carReport, .startRequest, .startCancel, .startGrant, .startWait, .startRefusal, .carOrder, .modeFrame, .dispatchOrder,
    .orderNotice, .planNotice, .mgmtRequest, .mgmtResponse]

/-- The kind a frame is handled as: none for an unknown kind byte, and for a known kind of the wrong length (R165). -/
def Frame.kind? (f : Frame) : Option FrameKind :=
  match FrameKind.all.find? (fun k => k.code == f.kind) with
  | none => none
  | some k =>
    match k.payloadLength with
    | none => some k
    | some n => if f.payload.length = n then some k else none

/-- The code of a plan state (12.2). -/
def Plan.code : Plan → Byte
  | .adopt => 1
  | .normal => 2
  | .transferWait => 3
  | .recall => 4
  | .service => 5
  | .mainsReturn => 6

/-- The code of a restoration state, 1 to 16 in the order of 7.1 (12.2). -/
def RState.code : RState → Byte
  | .vacant => 1
  | .unheard => 2
  | .inGroup => 3
  | .standing => 4
  | .recallPending => 5
  | .recalling => 6
  | .diverting => 7
  | .landed => 8
  | .parked => 9
  | .parkedAway => 10
  | .serving => 11
  | .firefighter => 12
  | .heldOut => 13
  | .excluded => 14
  | .failed => 15
  | .conflict => 16

/-- The code of a failure reason (12.2). -/
def Reason.code : Reason → Byte
  | .none => 0
  | .attempts => 1
  | .tooLarge => 2
  | .regen => 3
  | .runLimit => 4
  | .silent => 5
  | .unauthorized => 6
  | .fault => 7

/-- The reasons a plan notice carries (12.2). -/
inductive NoticeReason where
  | failure (r : Reason)
  | doorAlarm
  | heard
  | linkFault
  | linkUp
deriving DecidableEq, Repr

/-- The code of a plan notice reason (12.2). -/
def NoticeReason.code : NoticeReason → Byte
  | .failure r => r.code
  | .doorAlarm => 8
  | .heard => 9
  | .linkFault => 10
  | .linkUp => 11

/-- The reasons of a start refusal (12.2). -/
inductive RefusalReason where
  | notEmergency
  | mainsReturn
  | unknownCar
  | excluded
  | conflict
  | failed
  | parked
  | busy
  | wrongTarget
  | outOfRange
  | noRun
  | tooLarge
  | regen
  | powerLost
  | lapsed
  | cancelled
  | tooLate
deriving DecidableEq, Repr

/-- The code of a refusal reason (12.2). -/
def RefusalReason.code : RefusalReason → Byte
  | .notEmergency => 1
  | .mainsReturn => 2
  | .unknownCar => 3
  | .excluded => 4
  | .conflict => 5
  | .failed => 6
  | .parked => 7
  | .busy => 8
  | .wrongTarget => 9
  | .outOfRange => 10
  | .noRun => 11
  | .tooLarge => 12
  | .regen => 13
  | .powerLost => 14
  | .lapsed => 15
  | .cancelled => 16
  | .tooLate => 17

/-- The code of an order kind (12.2). -/
def orderKindCode : Option CarOrder → Byte
  | none => 0
  | some (.recall _) => 1
  | some (.divert _) => 2
  | some .serve => 3

/-- The outcomes an order notice announces (12.2). -/
inductive NoticeOutcome where
  | held
  | replaced
  | released
  | dropped
deriving DecidableEq, Repr

/-- The code of an order notice outcome (12.2). -/
def NoticeOutcome.code : NoticeOutcome → Byte
  | .held => 1
  | .replaced => 2
  | .released => 3
  | .dropped => 4

/-- The code of an entry or commitment kind (12.2). -/
def RunKind.code : RunKind → Byte
  | .recall => 1
  | .divert => 2
  | .service => 3
  | .firefighter => 4
  | .other => 5
  | .adopted => 6

/-- The code of a commitment phase (12.2). -/
def Phase.code : Phase → Byte
  | .granted => 1
  | .starting => 2
  | .running => 3
  | .adopted => 4

/-- The code of a motion (12.2). -/
def Motion.code : Motion → Byte
  | .stopped => 0
  | .starting => 1
  | .running => 2

/-- The code of a direction (12.2). -/
def dirCode : Option Dir → Byte
  | none => 0
  | some .up => 1
  | some .down => 2

/-- The code of a door state (12.2). -/
def Door.code : Door → Byte
  | .closed => 0
  | .moving => 1
  | .opened => 2

/-- The code of a car mode (12.2). -/
def CarMode.code : CarMode → Byte
  | .automatic => 0
  | .firefighter => 1
  | .inspection => 2
  | .independent => 3
  | .outOfService => 4

/-- The code of a power mode (12.2). -/
def PowerMode.code : PowerMode → Byte
  | .normal => 0
  | .emergency => 1

/-- The code of a load (12.2): 255 is UNKNOWN. -/
def Load.code : Load → Byte
  | .known n => byteOf n
  | .unknown => 255

/-- The code of an access level (12.2). -/
def Level.code : Level → Byte
  | .opened => 0
  | .maintenance => 1
  | .commission => 2

/-- A node address, or 255 for none (12.5). -/
def nodeOrNone : Option Nat → Byte
  | none => 255
  | some n => byteOf n

/-- The response codes (12.5). -/
inductive RespCode where
  | done
  | doneNew
  | doneReplaced
  | notFound
  | level
  | planState
  | frozen
  | lockout
  | noPrepare
  | storeBusy
  | storeFault
  | badField
  | badRequest
deriving DecidableEq, Repr

/-- The code of a response code (12.5). -/
def RespCode.code : RespCode → Byte
  | .done => 0
  | .doneNew => 1
  | .doneReplaced => 2
  | .notFound => 16
  | .level => 17
  | .planState => 18
  | .frozen => 19
  | .lockout => 20
  | .noPrepare => 21
  | .storeBusy => 22
  | .storeFault => 23
  | .badField => 24
  | .badRequest => 25

end Sys2Proof.Machine
end

