-- ==== Sys2Proof/Machine/Operands.lean ====
section
/-! DEFINITION. The operands of the commands, read from bytes: the fields of a car report with the treatment of R26, loads,
keys, car records, plan records, and whole management requests (12.3, 12.4). -/

namespace Sys2Proof.Machine

/-- A learned load: above 150 is taken as 150, 255 is UNKNOWN (R26, R44). -/
def Load.ofByte (x : Byte) : Load :=
  if x = 255 then .unknown else .known (min x.toNat 150)

/-- A learned motion: an undefined code is taken as RUNNING (R26). -/
def Motion.ofByte (x : Byte) : Motion :=
  if x = 0 then .stopped else if x = 1 then .starting else .running

/-- A learned direction: an undefined code is taken as NONE (R26). -/
def dirOfByte (x : Byte) : Option Dir :=
  if x = 1 then some .up else if x = 2 then some .down else none

/-- A learned door state: an undefined code is taken as CLOSED (R26). -/
def Door.ofByte (x : Byte) : Door :=
  if x = 1 then .moving else if x = 2 then .opened else .closed

/-- A learned car mode: an undefined code is taken as OUT_OF_SERVICE (R26). -/
def CarMode.ofByte (x : Byte) : CarMode :=
  if x = 0 then .automatic else if x = 1 then .firefighter else if x = 2 then .inspection
  else if x = 3 then .independent else .outOfService

/-- A learned power mode: an undefined code is taken as NORMAL (R26). -/
def PowerMode.ofByte (x : Byte) : PowerMode := if x = 1 then .emergency else .normal

/-- A learned landing: above 127 is taken as 127, and 127 with between set as between 126 and 127 (R26). -/
def landingOf (landing between : Byte) : Nat :=
  let p := min landing.toNat 127
  if between ≠ 0 ∧ p = 127 then 126 else p

/-- The fields of a car report after its car number, treated as R26 gives, over a learned part: everything but the heard flag,
SILENT, the report timer and the first foreign node. -/
def Learned.learn (l : Learned) : List Byte → Learned
  | [landing, between, motion, dir, door, load, mode, fault, ack] =>
    { l with
      landing := landingOf landing between, between := between ≠ 0, motion := Motion.ofByte motion, dir := dirOfByte dir,
      door := Door.ofByte door, load := Load.ofByte load, mode := CarMode.ofByte mode, fault := fault,
      ackMode := PowerMode.ofByte ack }
  | _ => l

/-- A 16-bit quantity sent most significant byte first. -/
def word16 (hi lo : Byte) : Nat := hi.toNat * 256 + lo.toNat

/-- Four key bytes as a key. -/
def keyOf (k0 k1 k2 k3 : Byte) : Key := k0 ++ k1 ++ k2 ++ k3

/-- The four bytes of a key. -/
def keyBytes (k : Key) : List Byte :=
  [(k >>> 24).setWidth 8, (k >>> 16).setWidth 8, (k >>> 8).setWidth 8, k.setWidth 8]

/-- The relay mode of bits 4 and 3 of a car record's first byte (12.4). -/
def relayModeOf (n : Nat) : RelayMode :=
  match n % 4 with
  | 0 => .forward
  | 1 => .listen
  | 2 => .blocked
  | _ => .disabled

/-- The code of a relay mode (12.4). -/
def RelayMode.number : RelayMode → Nat
  | .forward => 0
  | .listen => 1
  | .blocked => 2
  | .disabled => 3

/-- A car record of twelve bytes (12.4); none for any other length. -/
def CarConf.decode : List Byte → Option CarConf
  | [x0, pm1, pm0, s1, s0, f, b, r, rl, lo, hi, node] =>
    some
      { present := x0.getLsbD 7, pm := word16 pm1 pm0, s := word16 s1 s0, f := f.toNat, b := b.toNat,
        drive := if x0.getLsbD 6 then .ret else .resistor, r := r.toNat, cls := x0.toNat % 8, recallLanding := rl.toNat,
        lowest := lo.toNat, highest := hi.toNat, bind := if x0.getLsbD 5 then .assigned else .firstHeard,
        assigned := node.toNat, relay := relayModeOf (x0.toNat / 8) }
  | _ => none

/-- The twelve bytes of a car record (12.4). -/
def CarConf.encode (c : CarConf) : List Byte :=
  byteOf (bitOf c.present 7 + bitOf (c.drive = .ret) 6 + bitOf (c.bind = .assigned) 5 + c.relay.number * 8 + c.cls) ::
    (be16 c.pm ++ be16 c.s ++ [byteOf c.f, byteOf c.b, byteOf c.r, byteOf c.recallLanding, byteOf c.lowest,
      byteOf c.highest, byteOf c.assigned])

/-- Every field of a car record lies in the range of R20, and the landings are in order (R157). -/
def CarConf.inRange (c : CarConf) : Bool :=
  decide (1 ≤ c.pm ∧ c.pm ≤ 2500 ∧ 100 ≤ c.s ∧ c.s ≤ 300 ∧ 5 ≤ c.f ∧ c.f ≤ 40 ∧ 30 ≤ c.b ∧ c.b ≤ 60 ∧ c.r ≤ 100 ∧
    c.cls ≤ 7 ∧ c.recallLanding ≤ 127 ∧ c.lowest ≤ 127 ∧ c.highest ≤ 127 ∧ 1 ≤ c.assigned ∧ c.assigned ≤ 61 ∧
    c.lowest ≤ c.recallLanding ∧ c.recallLanding ≤ c.highest)

/-- A car record claims a node: it is present with bind mode ASSIGNED (R157). -/
def CarConf.claims (c : CarConf) (node : Nat) : Bool :=
  c.present && decide (c.bind = .assigned) && decide (c.assigned = node)

/-- A car record is valid beside a plan record with this own node address (R157). -/
def CarConf.valid (c : CarConf) (own : Nat) : Bool := c.inRange && !c.claims own

/-- The writable cells of the relay byte (12.4). -/
def RelayTable.ofByte (x : Byte) : RelayTable :=
  { dispatchNormal := x.getLsbD 0, reportNormal := x.getLsbD 1, reportEmergency := x.getLsbD 2, mgmtNormal := x.getLsbD 3,
    mgmtEmergency := x.getLsbD 4, otherNormal := x.getLsbD 5, otherEmergency := x.getLsbD 6 }

/-- The relay byte of a relay action table; bit 7 is written as 0 (assumption 13). -/
def RelayTable.byte (t : RelayTable) : Byte :=
  byteOf (bitOf t.dispatchNormal 0 + bitOf t.reportNormal 1 + bitOf t.reportEmergency 2 + bitOf t.mgmtNormal 3 +
    bitOf t.mgmtEmergency 4 + bitOf t.otherNormal 5 + bitOf t.otherEmergency 6)

/-- A plan record of 28 bytes (12.4), with its mirror byte as sent; none for any other length. -/
def PlanRecord.decode : List Byte → Option (PlanRecord × Byte)
  | [g1, g0, settle, grant, accel, run1, run0, sil, rel1, rel0, dr1, dr0, a1, a0, der, q1, q0, k1, k0, m, skip, att, svc, dsvc,
      own, idle, relay, mirror] =>
    some
      ({ tGen := word16 g1 g0, tSettle := settle.toNat, tGrant := grant.toNat, tAccel := accel.toNat, tRun := word16 run1 run0,
         tSilent := sil.toNat, tRelease := word16 rel1 rel0, tDoor := word16 dr1 dr0, a := word16 a1 a0, dr := der.toNat,
         q := word16 q1 q0, k := word16 k1 k0, m := m.toNat, skipLimit := skip.toNat, attemptLimit := att.toNat,
         serviceCount := svc.toNat, deratedCount := dsvc.toNat, ownNode := own.toNat, idleMinutes := idle.toNat,
         relay := RelayTable.ofByte relay, mirror := decide (mirror = 1) }, mirror)
  | _ => none

/-- The 28 bytes of a plan record (12.4). -/
def PlanRecord.encode (p : PlanRecord) : List Byte :=
  be16 p.tGen ++ [byteOf p.tSettle, byteOf p.tGrant, byteOf p.tAccel] ++ be16 p.tRun ++ [byteOf p.tSilent] ++
    be16 p.tRelease ++ be16 p.tDoor ++ be16 p.a ++ [byteOf p.dr] ++ be16 p.q ++ be16 p.k ++
    [byteOf p.m, byteOf p.skipLimit, byteOf p.attemptLimit, byteOf p.serviceCount, byteOf p.deratedCount, byteOf p.ownNode,
      byteOf p.idleMinutes, p.relay.byte, if p.mirror then 1 else 0]

/-- Whether each field of a plan record is valid, in the order of the table of R157. The own node address is also invalid when
a present ASSIGNED car record of the table claims it; the mirror byte is valid only as 0 or 1 (R167). -/
def PlanRecord.checks (p : PlanRecord) (mirrorByte : Byte) (claimed : Bool) : List Bool :=
  [decide (5 ≤ p.tGen ∧ p.tGen ≤ 600), decide (p.tSettle ≤ 255), decide (10 ≤ p.tGrant ∧ p.tGrant ≤ 100),
    decide (10 ≤ p.tAccel ∧ p.tAccel ≤ 254), decide (100 ≤ p.tRun ∧ p.tRun ≤ 2550),
    decide (5 ≤ p.tSilent ∧ p.tSilent ≤ 127), decide (50 ≤ p.tRelease ∧ p.tRelease ≤ 2550),
    decide (20 ≤ p.tDoor ∧ p.tDoor ≤ 600), decide (p.a ≤ 65535), decide (p.dr ≤ 100), decide (p.q ≤ 65535),
    decide (p.k ≤ 65535), decide (1 ≤ p.m ∧ p.m ≤ 16), decide (p.skipLimit ≤ 15),
    decide (1 ≤ p.attemptLimit ∧ p.attemptLimit ≤ 7), decide (p.serviceCount ≤ 16), decide (p.deratedCount ≤ 16),
    decide (1 ≤ p.ownNode ∧ p.ownNode ≤ 62) && !claimed, decide (1 ≤ p.idleMinutes ∧ p.idleMinutes ≤ 255), true,
    decide (mirrorByte = 0 ∨ mirrorByte = 1)]

/-- The position, counted from 1, of the first false in a list. -/
def firstFalse : List Bool → Nat → Option Nat
  | [], _ => none
  | true :: xs, n => firstFalse xs (n + 1)
  | false :: _, n => some n

/-- A present ASSIGNED record of a table claims this node (R157). -/
def Table.claims (t : Table) (node : Nat) : Bool := allCars.any (fun i => (t.cars.get i).claims node)

/-- Cut a run of bytes into car records of twelve bytes. -/
def carRecords : Nat → List Byte → List (List Byte)
  | 0, _ => []
  | n + 1, bytes => bytes.take 12 :: carRecords n (bytes.drop 12)

/-- A management request (12.4). A request of unknown kind, or whose data is not of its kind's length, is malformed and keeps
only its kind byte. -/
inductive Request where
  | readPlan
  | readCars (start count : Byte)
  | readQueue
  | readCommitments
  | readLink
  | writeCars (start count : Byte) (records : List Byte)
  | writePlan (record : List Byte)
  | commit
  | discard
  | select (form : Byte) (cars : List Byte)
  | retryCar (car : Byte)
  | restart
  | unlock (level : Byte) (key : Key)
  | lock
  | setKey (level : Byte) (key : Key)
  | freeze
  | wipePrepare
  | wipe
  | malformed (kind : Byte)
deriving DecidableEq, Repr

/-- The kind byte a request is answered with (12.4, 12.5). -/
def Request.kindByte : Request → Byte
  | .readPlan => 1
  | .readCars _ _ => 2
  | .readQueue => 3
  | .readCommitments => 4
  | .readLink => 5
  | .writeCars _ _ _ => 8
  | .writePlan _ => 9
  | .commit => 10
  | .discard => 11
  | .select _ _ => 16
  | .retryCar _ => 17
  | .restart => 18
  | .unlock _ _ => 24
  | .lock => 25
  | .setKey _ _ => 26
  | .freeze => 27
  | .wipePrepare => 28
  | .wipe => 29
  | .malformed k => k

/-- A WRITE_CARS request: malformed unless the records take 12 bytes each of the count (12.4). -/
def Request.ofWriteCars (start count : Byte) (records : List Byte) : Request :=
  if records.length = 12 * count.toNat then .writeCars start count records else .malformed 8

/-- A WRITE_PLAN request: malformed unless the record has 28 bytes (12.4). -/
def Request.ofWritePlan (record : List Byte) : Request :=
  if record.length = 28 then .writePlan record else .malformed 9

/-- A SELECT request: form 0 alone, or form 1 with 0 to 16 car numbers; anything else is malformed (12.4, R167). -/
def Request.ofSelect (form : Byte) (cars : List Byte) : Request :=
  if (form = 0 ∧ cars = []) ∨ (form = 1 ∧ cars.length ≤ 16) then .select form cars else .malformed 16

/-- The request that the assembled request data spell; the first byte is the request kind (12.4). -/
def Request.parse : List Byte → Request
  | [] => .malformed 0
  | k :: data =>
    match k.toNat, data with
    | 1, [] => .readPlan
    | 2, [start, count] => .readCars start count
    | 3, [] => .readQueue
    | 4, [] => .readCommitments
    | 5, [] => .readLink
    | 8, start :: count :: records => Request.ofWriteCars start count records
    | 9, record => Request.ofWritePlan record
    | 10, [] => .commit
    | 11, [] => .discard
    | 16, form :: cars => Request.ofSelect form cars
    | 17, [car] => .retryCar car
    | 18, [] => .restart
    | 24, [level, k0, k1, k2, k3] => .unlock level (keyOf k0 k1 k2 k3)
    | 25, [] => .lock
    | 26, [level, k0, k1, k2, k3] => .setKey level (keyOf k0 k1 k2 k3)
    | 27, [] => .freeze
    | 28, [] => .wipePrepare
    | 29, [] => .wipe
    | _, _ => .malformed k

end Sys2Proof.Machine
end

