-- ==== Sys2Proof/Machine/Ops.lean ====
section
/-! DEFINITION. The operations every block's rules are written with: reading and changing one car, one port, the queue or the
commitment list; placing frames; the free value. -/

namespace Sys2Proof.Machine

/-! ### One car -/

/-- The record of a car. -/
def Block.car (b : Block) (i : CarIx) : Car := b.cars.get i

/-- The configured part of a car (R20). -/
def Block.conf (b : Block) (i : CarIx) : CarConf := b.active.cars.get i

/-- Change the record of one car. -/
def Block.modCar (b : Block) (i : CarIx) (f : Car → Car) : Block :=
  { b with cars := b.cars.set i.val (f (b.car i)) i.isLt }

/-- The part's own node address in force (R158). -/
def Block.own (b : Block) : Byte := byteOf b.active.plan.ownNode

/-- The use of a free value: the byte, and the counter advanced (assumption 14). -/
def Block.free (b : Block) : Block × Byte :=
  ({ b with freeCount := b.freeCount + 1 }, Config.freeByte b.freeCount)

/-! ### Ports (chapter 10) -/

/-- One of the two ports. -/
def Block.port (b : Block) : PortId → Port
  | .g => b.gport
  | .c => b.cport

/-- Change one port. -/
def Block.modPort (b : Block) (p : PortId) (f : Port → Port) : Block :=
  match p with
  | .g => { b with gport := f b.gport }
  | .c => { b with cport := f b.cport }

/-- The port on the other side of the part. -/
def opposite : PortId → PortId
  | .g => .c
  | .c => .g

/-- Own places in use (R148). -/
def Port.ownCount (p : Port) : Nat := (p.tx.filter (fun x => x.own)).length

/-- Relayed places in use (R148). -/
def Port.relayedCount (p : Port) : Nat := (p.tx.filter (fun x => !x.own)).length

/-- An own frame can be placed: the port is UP and an own place is free (R148). -/
def Port.roomOwn (p : Port) : Bool := p.up && decide (p.ownCount < Config.ownPlaces)

/-- A relayed frame can be placed (R148). -/
def Port.roomRelayed (p : Port) : Bool := p.up && decide (p.relayedCount < Config.relayedPlaces)

/-- A frame joins the transmit queue behind every frame already in it (R148). -/
def Port.push (p : Port) (x : TxItem) : Port := { p with tx := p.tx ++ [x] }

/-- A kind is added to an error summary (R151). -/
def ErrorSummary.add (e : ErrorSummary) : ErrKind → ErrorSummary
  | .check => { e with check := true }
  | .length => { e with length := true }
  | .truncated => { e with truncated := true }
  | .overrun => { e with overrun := true }
  | .lineFault => { e with lineFault := true }
  | .txDiscard => { e with txDiscard := true }
  | .noticeLost => { e with noticeLost := true }

/-- A kind is recorded at a port (R151). -/
def Port.record (p : Port) (k : ErrKind) : Port := { p with errors := p.errors.add k }

/-- Frames the receive FIFO holds for the hold-off, a waiting frame counted as held (R147). -/
def Port.held (p : Port) : Nat :=
  p.rx.length + (match p.assembly with | .waiting _ => 1 | _ => 0)

/-- The hold-off output follows the held frames: asserted at 14 or more, negated at 8 or fewer, kept between (R147). -/
def Port.updateHold (p : Port) : Port :=
  { p with holdOut :=
      if Config.holdOffHigh ≤ p.held then true else if p.held ≤ Config.holdOffLow then false else p.holdOut }

/-- A good frame enters the FIFO, or waits in the assembly buffer when all sixteen places are full (R146). -/
def Port.deliver (p : Port) (f : Frame) : Port :=
  Port.updateHold
    (if p.rx.length < Config.fifoDepth then { p with rx := p.rx ++ [f], assembly := .empty }
     else { p with assembly := .waiting f })

/-- The head of the FIFO is taken; a waiting frame enters the place that frees (R146). -/
def Port.takeHead (p : Port) : Port :=
  Port.updateHold
    (match p.assembly with
     | .waiting f => { p with rx := p.rx.tail ++ [f], assembly := .empty }
     | _ => { p with rx := p.rx.tail })

/-- An own frame is placed if there is room; whether it was (R148). `restart` marks the answer to a RESTART (R164). -/
def Block.placeOwn (b : Block) (p : PortId) (f : Frame) (restart : Bool := false) : Block × Bool :=
  if (b.port p).roomOwn then (b.modPort p (fun q => q.push { own := true, frame := f, restart := restart }), true)
  else (b, false)

/-- A frame is offered to a port's relayed share, and discarded with TX_DISCARD if it finds no room or the port in FAULT
(R148). -/
def Block.relayTo (b : Block) (p : PortId) (f : Frame) : Block :=
  if (b.port p).roomRelayed then b.modPort p (fun q => q.push { own := false, frame := f, restart := false })
  else b.modPort p (fun q => q.record .txDiscard)

/-- While the mirror is on, an own frame placed on the C-port is copied to node 0 on the G-port if there is room (R144). -/
def Block.mirrorCopy (b : Block) (f : Frame) : Block :=
  if b.active.plan.mirror then (b.placeOwn .g { f with dst := 0, src := b.own }).1 else b

/-- One of the part's own frames for the car bus: placed and mirrored, or not placed; whether it was (R102, R144). -/
def Block.sendCar (b : Block) (dst : Byte) (k : FrameKind) (payload : List Byte) : Block × Bool :=
  let f : Frame := { dst := dst, src := b.own, kind := k.code, payload := payload }
  let r := b.placeOwn .c f
  if r.2 then (r.1.mirrorCopy f, true) else (r.1, false)

/-- A frame for the car bus whose loss is recorded as NOTICE_LOST in the C-port summary: grants sent again, waits, refusals
(R102). -/
def Block.sendCarOrLose (b : Block) (dst : Byte) (k : FrameKind) (payload : List Byte) : Block :=
  let r := b.sendCar dst k payload
  if r.2 then r.1 else r.1.modPort .c (fun q => q.record .noticeLost)

/-- A notice for the G-port; its loss is recorded as NOTICE_LOST in the G-port summary (R142, R143). -/
def Block.sendNotice (b : Block) (dst : Byte) (k : FrameKind) (payload : List Byte) : Block :=
  let r := b.placeOwn .g { dst := dst, src := b.own, kind := k.code, payload := payload }
  if r.2 then r.1 else r.1.modPort .g (fun q => q.record .noticeLost)

/-- A plan notice that names no car (R143). -/
def Block.planNotice (b : Block) (r : NoticeReason) : Block :=
  b.sendNotice 0 .planNotice [b.plan.code, 0, 0, r.code]

/-- A plan notice that names a car and its restoration state (R143). -/
def Block.carNotice (b : Block) (i : CarIx) (r : NoticeReason) : Block :=
  b.sendNotice 0 .planNotice [b.plan.code, byteOf (carNo i), (b.car i).state.code, r.code]

/-- An order notice to the source of a dispatch order; none when the source is broadcast (R142). -/
def Block.orderNotice (b : Block) (src : Byte) (car landing : Byte) (o : NoticeOutcome) : Block :=
  if src.toNat = Config.broadcast then b else b.sendNotice src .orderNotice [car, landing, o.code]

/-- The node a frame for a car goes to: its bound node. Where the car has none the spec names no node for a grant or refusal,
and the address is a free value (assumption 14). -/
def Block.boundNode (b : Block) (i : CarIx) : Block × Byte :=
  match (b.car i).bound with
  | some n => (b, byteOf n)
  | none => b.free

/-- A start refusal (R90). -/
def Block.refuse (b : Block) (dst : Byte) (i : CarIx) (tag : Byte) (r : RefusalReason) : Block :=
  b.sendCarOrLose dst .startRefusal [byteOf (carNo i), tag, r.code]

/-- A start refusal sent unasked, to the car's bound node (R99). -/
def Block.refuseBound (b : Block) (i : CarIx) (tag : Byte) (r : RefusalReason) : Block :=
  let x := b.boundNode i
  x.1.refuse x.2 i tag r

/-- The landing byte of a car order; 0 for SERVE (12.3). -/
def CarOrder.landingByte : CarOrder → Byte
  | .recall p => byteOf p
  | .divert p => byteOf p
  | .serve => 0

/-- The node a car order goes to: the bound node, or broadcast while the car is unbound (R100). -/
def Block.orderDst (b : Block) (i : CarIx) : Byte :=
  match (b.car i).bound with
  | some n => byteOf n
  | none => byteOf Config.broadcast

/-- The marks after a RECALL or DIVERT order has been sent or skipped: the order-resend timer starts (R101, R102). -/
def Car.orderTried (c : Car) (tSilent : Nat) : Car :=
  { c with resendTimer := some tSilent, orderDeferred := false }

/-- The marks after a SERVE order has been sent (timer stopped) or skipped (timer started) (R101, R102). -/
def Car.serveTried (c : Car) (sent : Bool) (tSilent : Nat) : Car :=
  { c with resendTimer := if sent then none else some tSilent, serveUnsent := !sent }

/-- Send the car's current order, or skip it for want of room; nothing when it has none (R100, R101, R102). -/
def Block.sendOrder (b : Block) (i : CarIx) : Block :=
  match (b.car i).order with
  | none => b
  | some o =>
    let r := b.sendCar (b.orderDst i) .carOrder [byteOf (carNo i), orderKindCode (some o), o.landingByte]
    match o with
    | .serve => r.1.modCar i (fun c => c.serveTried r.2 b.active.plan.tSilent)
    | _ => r.1.modCar i (fun c => c.orderTried b.active.plan.tSilent)

/-! ### The commitment list (chapter 4) -/

/-- The commitment a car holds. -/
def Block.commitment? (b : Block) (i : CarIx) : Option Commitment := b.commitments.find? (fun c => c.car = i)

/-- Change a car's commitment. -/
def Block.modCommitment (b : Block) (i : CarIx) (f : Commitment → Commitment) : Block :=
  { b with commitments := b.commitments.map (fun c => if c.car = i then f c else c) }

/-- The upper total ΣU (R55). -/
def Block.sumUpper (b : Block) : Int := (b.commitments.map (fun c => c.upper)).sum

/-- The lower total ΣL (R55). -/
def Block.sumLower (b : Block) : Int := (b.commitments.map (fun c => c.lower)).sum

/-- A commitment holds the start slot: it is in GRANTED or STARTING (R57). -/
def Commitment.holdsSlot (c : Commitment) : Bool := decide (c.phase = .granted) || decide (c.phase = .starting)

/-- The holder of the start slot, or none when it is free (R57, R80). -/
def Block.slotHolder (b : Block) : Option CarIx :=
  (b.commitments.find? (fun c => c.holdsSlot)).map (fun c => c.car)

/-- An arbitration trigger is raised (R83); it is taken when the step's other effects are done (assumption 6). -/
def Block.trigger (b : Block) : Block := { b with arbDue := true }

/-- A commitment leaves the list other than by voiding: its record and timers go, the Start Arbiter is told, and the list's
emptying is reported to the Plan Controller (R61, R62, R63, R66). -/
def Block.dropCommitment (b : Block) (i : CarIx) : Block :=
  let left := b.commitments.filter (fun c => c.car ≠ i)
  { b with
    commitments := left
    listReports := if left = [] then b.listReports + 1 else b.listReports
    arbDue := true }

/-- The slot is freed with settle: the settle timer starts at T_settle, unless T_settle is 0 (R57, R81). -/
def Block.freeWithSettle (b : Block) : Block :=
  { b with settleTimer := if b.active.plan.tSettle = 0 then b.settleTimer else some b.active.plan.tSettle }

/-! ### The start queue (chapter 5) -/

/-- The entry of a car. -/
def Block.entry? (b : Block) (i : CarIx) : Option Entry := b.queue.find? (fun e => e.car = i)

/-- The place of an entry in the queue, behind the entries of its own class or higher (R75, R77). -/
def insertEntry (e : Entry) : List Entry → List Entry
  | [] => [e]
  | x :: xs => if e.cls ≤ x.cls then x :: insertEntry e xs else e :: x :: xs

/-- The position of a car's entry, counted from 1 at the head. -/
def queuePosition (i : CarIx) : List Entry → Nat
  | [] => 1
  | x :: xs => if x.car = i then 1 else queuePosition i xs + 1

/-- An entry leaves the queue other than by grant or flush: a trigger (R78). -/
def Block.removeEntry (b : Block) (i : CarIx) : Block :=
  { b with queue := b.queue.filter (fun e => e.car ≠ i), arbDue := true }

/-- The effective class of an entry (R73). -/
def Block.effectiveClass (b : Block) (i : CarIx) : RunKind → Nat
  | .firefighter => 7
  | .other => 1
  | _ => (b.conf i).cls

/-- An entry's kind is set; a change of effective class gives it a new place, skip count 0, and is a trigger (R77). -/
def Block.setEntryKind (b : Block) (i : CarIx) (k : RunKind) : Block :=
  match b.entry? i with
  | none => b
  | some e =>
    let cls := b.effectiveClass i k
    if cls = e.cls then
      { b with queue := b.queue.map (fun x => if x.car = i then { x with kind := k } else x) }
    else
      let moved := { e with kind := k, cls := cls, skip := 0, blocking := decide (b.active.plan.skipLimit = 0) }
      { b with queue := insertEntry moved (b.queue.filter (fun x => x.car ≠ i)), arbDue := true }

/-! ### Restoration states -/

/-- The four states that hold recall open (7.1, R11). -/
def RState.holdsRecall : RState → Bool
  | .recallPending => true
  | .recalling => true
  | .diverting => true
  | .landed => true
  | _ => false

/-- The number of cars that hold recall open (R11, R18). -/
def Block.recallWork (b : Block) : Nat := (allCars.filter (fun i => (b.car i).state.holdsRecall)).length

/-- The plan is one of the four emergency plan states (00, R17). -/
def Plan.emergency : Plan → Bool
  | .transferWait => true
  | .recall => true
  | .service => true
  | .mainsReturn => true
  | _ => false

/-- The car is selected-awaiting (R131). -/
def Block.awaiting (b : Block) (i : CarIx) : Bool :=
  decide (b.plan = .service) && (match b.manual with | none => false | some l => l.contains i) &&
    (b.car i).state.holdsRecall

/-- A node is barred: some car's foreign set holds it (R29). -/
def Block.barred (b : Block) (node : Nat) : Bool := allCars.any (fun i => (b.car i).foreign.contains node)

end Sys2Proof.Machine
end

