-- ==== Sys2Proof/Machine/Demand.lean ====
section
/-! DEFINITION. The Demand Calculator (chapter 3): the figures of a run, the fit verdict, the unfit-alone tests. -/

namespace Sys2Proof.Machine

/-- The direction of a requested run from the learned position and the target; none is NO_RUN (R42, R28). -/
def runDir (l : Learned) (target : Nat) : Option Dir :=
  if l.between then (if target ≤ l.landing then some .down else some .up)
  else if l.landing < target then some .up
  else if target < l.landing then some .down
  else none

/-- A quotient rounded up. -/
def ceilDiv (n d : Nat) : Nat := (n + d - 1) / d

/-- The effective load for the demand side (R44). -/
def effHigh (load : Load) (d : Dir) : Int :=
  match load, d with
  | .known n, _ => (min n 150 : Nat)
  | .unknown, .up => 150
  | .unknown, .down => 0

/-- The effective load for the returned side (R44). -/
def effLow (load : Load) (d : Dir) : Int :=
  match load, d with
  | .known n, _ => (min n 150 : Nat)
  | .unknown, .up => 0
  | .unknown, .down => 150

/-- The directed imbalance (R45). -/
def imbalance (c : CarConf) (d : Dir) (e : Int) : Int :=
  match d with
  | .up => e - c.b
  | .down => c.b - e

/-- The running percentage of a directed imbalance (R46). -/
def runPercent (c : CarConf) (j : Int) : Int :=
  if 0 ≤ j then c.f + (ceilDiv (j.toNat * (100 - c.f)) (100 - c.b) : Nat)
  else match c.drive with
    | .resistor => c.f
    | .ret => c.f - (j.natAbs * c.r / (100 - c.b) : Nat)

/-- The power of a running percentage (R47). -/
def powerOf (c : CarConf) (r : Int) : Int :=
  if 0 ≤ r then (ceilDiv (c.pm * r.toNat) 100 : Nat) else -(c.pm * r.natAbs / 100 : Nat)

/-- The surge term of the start figure (R48). -/
def surge (c : CarConf) : Int := (ceilDiv (c.pm * c.s) 100 : Nat)

/-- The figures of a run in a known direction (R44 to R48). -/
def figuresDir (c : CarConf) (load : Load) (d : Dir) : Figures :=
  let dh := powerOf c (runPercent c (imbalance c d (effHigh load d)))
  let dl := powerOf c (runPercent c (imbalance c d (effLow load d)))
  { ds := max dh (surge c), dh := dh, dl := dl }

/-- The figures of an adopted run: at the worst of both directions when the report names none (R43). -/
def figuresAdopted (c : CarConf) (load : Load) : Option Dir → Figures
  | some d => figuresDir c load d
  | none =>
    let u := figuresDir c load .up
    let w := figuresDir c load .down
    { ds := max u.ds w.ds, dh := max u.dh w.dh, dl := min u.dl w.dl }

/-- The figures of fallback mode (R53). -/
def zeroFigures : Figures := { ds := 0, dh := 0, dl := 0 }

/-- The figures of a requested run of a car (R41, R53). -/
def Block.figuresRequested (b : Block) (i : CarIx) (load : Load) (d : Dir) : Figures :=
  if b.fallback then zeroFigures else figuresDir (b.conf i) load d

/-- The figures of an adopted run of a car, from what its report left in the learned part (R41, R53). -/
def Block.figuresOfReport (b : Block) (i : CarIx) : Figures :=
  if b.fallback then zeroFigures
  else figuresAdopted (b.conf i) (b.car i).learned.load (b.car i).learned.dir

/-- The lower figure of a commitment, the same in every phase (R49). -/
def Figures.lower (f : Figures) : Int := min f.dl 0

/-- The upper figure of a commitment that runs or was adopted (R49). -/
def Figures.runningUpper (f : Figures) : Int := max f.dh 0

/-- The verdicts of the fit test (R50). -/
inductive Verdict where
  | fits
  | upper
  | lower
  | count
deriving DecidableEq, Repr

/-- The fit test in configured mode (R50). -/
def fitVerdict (p : PlanRecord) (aEff : Nat) (n : Nat) (sumU sumL : Int) (f : Figures) : Verdict :=
  if ¬(sumU + f.ds ≤ aEff ∧ (p.k = 0 ∨ f.ds ≤ p.k)) then .upper
  else if ¬(-(p.q : Int) ≤ sumL + f.lower) then .lower
  else if n < p.m then .fits
  else .count

/-- The verdict for an entry at the moment of a pass; in fallback mode one car moves at a time (R50, R53). -/
def Block.verdict (b : Block) (e : Entry) : Verdict :=
  if b.fallback then (if b.commitments.length < 1 then .fits else .count)
  else fitVerdict b.active.plan b.aEff b.commitments.length b.sumUpper b.sumLower e.fig

/-- Upper-alone unfit (R51); no test in fallback mode (R53). -/
def Block.upperUnfit (b : Block) (f : Figures) : Bool :=
  !b.fallback && (decide ((b.active.plan.a : Int) < f.ds) || (decide (b.active.plan.k ≠ 0) && decide ((b.active.plan.k : Int) < f.ds)))

/-- Lower-alone unfit (R52); no test in fallback mode (R53). -/
def Block.lowerUnfit (b : Block) (f : Figures) : Bool :=
  !b.fallback && decide (f.lower < -(b.active.plan.q : Int))

end Sys2Proof.Machine
end

