-- ==== Sys2Proof/Machine/Flags.lean ====
section
/-! DEFINITION. The status outputs, and every flag and summary byte that management reads (R17, R18, 12.2, 12.5). -/

namespace Sys2Proof.Machine

/-- The EMERG_ACTIVE output (R17). -/
def Block.emergActive (b : Block) : Bool := b.plan.emergency

/-- The ALL_RECALLED output (R18). -/
def Block.allRecalled (b : Block) : Bool := decide (b.plan = .service) && decide (b.recallWork = 0)

/-- The busy flag of the Plan Store (R158, R160, R163). -/
def Mgmt.busy (m : Mgmt) : Bool := decide (m.storeOp ≠ .idle)

/-- The bits of an error summary (12.2). -/
def ErrorSummary.byte (e : ErrorSummary) : Byte :=
  byteOf (bitOf e.check 0 + bitOf e.length 1 + bitOf e.truncated 2 + bitOf e.overrun 3 + bitOf e.lineFault 4 +
    bitOf e.txDiscard 5 + bitOf e.noticeLost 6)

/-- The flags byte of a READ_PLAN record (12.5). -/
def Block.planFlags (b : Block) : Byte :=
  byteOf (bitOf b.xfer.taken 0 + bitOf b.gen.taken 1 + bitOf b.derate.taken 2 + bitOf b.genSettled 3 +
    bitOf b.settleTimer.isSome 4 + bitOf b.fallback 5 + bitOf b.manual.isSome 6 + bitOf b.mgmt.busy 7)

/-- The car is in the manual selection (R124). -/
def Block.inManual (b : Block) (i : CarIx) : Bool :=
  match b.manual with
  | none => false
  | some l => l.contains i

/-- The flags byte of a READ_CARS record (12.5). -/
def Block.carFlags (b : Block) (i : CarIx) : Byte :=
  let c := b.car i
  byteOf (bitOf c.learned.heard 0 + bitOf c.learned.silent 1 + bitOf c.learned.between 2 + bitOf c.doorAlarm 3 +
    bitOf c.selected 4 + bitOf (b.inManual i) 5 + bitOf (b.awaiting i) 6)

/-- The flags byte of a READ_QUEUE record (12.5). -/
def Block.entryFlags (b : Block) (e : Entry) : Byte :=
  byteOf (bitOf e.blocking 0 + bitOf (b.car e.car).learned.silent 1)

/-- The flags byte of a READ_COMMITMENTS record (12.5). -/
def Commitment.flags (c : Commitment) : Byte :=
  byteOf (bitOf c.slowStart 0 + bitOf c.unauthorized 1 + bitOf c.silentHold 2 + bitOf c.tag.isSome 3)

end Sys2Proof.Machine
end

