-- ==== Sys2Proof/Machine/HeldOrders.lean ====
section
/-! DEFINITION. Held-order slots: opening, release, dropping (9.4), and how they follow the selected-awaiting condition (R131). -/

namespace Sys2Proof.Machine

/-- The car and landing bytes of a dispatch order (12.3). -/
def orderFields (f : Frame) : Byte × Byte :=
  match f.payload with
  | [car, landing] => (car, landing)
  | _ => (0, 0)

/-- A held order is announced to its source (R142). -/
def Block.announce (b : Block) (f : Frame) (o : NoticeOutcome) : Block :=
  b.orderNotice f.src (orderFields f).1 (orderFields f).2 o

/-- Put a car's slot in a state. -/
def Block.setSlot (b : Block) (i : CarIx) (x : Slot) : Block := b.modCar i (fun c => { c with slot := x })

/-- Closed by release: a held order is forwarded to the C-port, with the notice RELEASED (R141). -/
def Block.releaseSlot (b : Block) (i : CarIx) : Block :=
  match (b.car i).slot with
  | .holding f => ((b.setSlot i .closed).relayTo .c f).announce f .released
  | _ => b.setSlot i .closed

/-- Closed without release: a held order is dropped, with the notice DROPPED (R141). -/
def Block.dropSlot (b : Block) (i : CarIx) : Block :=
  match (b.car i).slot with
  | .holding f => (b.setSlot i .closed).announce f .dropped
  | _ => b.setSlot i .closed

/-- The car has parked in SERVICE and the manual selection lists it: the evaluation that its parking causes is about to make it
SERVING and to release its slot (R131, assumption 28). -/
def Block.parkedSelected (b : Block) (i : CarIx) : Bool :=
  decide (b.plan = .service) && b.inManual i &&
    (decide ((b.car i).state = .parked) || decide ((b.car i).state = .parkedAway))

/-- The Relay Unit is told of a car: its slot opens when the car has become selected-awaiting and closes when that has ended, by
release if the car was made SERVING (R131, R140, R141). -/
def Block.tellRelay (b : Block) (i : CarIx) : Block :=
  if b.awaiting i then
    (match (b.car i).slot with
     | .closed => b.setSlot i .empty
     | _ => b)
  else
    match (b.car i).slot with
    | .closed => b
    | _ =>
      if (b.car i).state = .serving then b.releaseSlot i
      else if b.parkedSelected i then b
      else b.dropSlot i

/-- The Relay Unit is told of every car, in car-number order. -/
def Block.tellRelayAll (b : Block) : Block := allCars.foldl Block.tellRelay b

end Sys2Proof.Machine
end

