-- ==== Sys2Proof/Machine/Restore.lean ====
section
/-! DEFINITION. The Restoration Controller's shared operations (chapters 7 and 8): a move and what it hands on, judging a
request or a queued entry, arrival, landing, parking, attempts, placing, the service set, and the end of a commitment. -/

namespace Sys2Proof.Machine

/-! ### Judging a request (R93, R94) -/

/-- Checks 1 and 2 of R93. -/
def planRefusal : Plan → Option RefusalReason
  | .normal => some .notEmergency
  | .adopt => some .notEmergency
  | .mainsReturn => some .mainsReturn
  | _ => none

/-- Checks 3 to 8 of R93, on the car's restoration state and on whether the sender is the bound node. -/
def stateRefusal (st : RState) (fromBound : Bool) : Option RefusalReason :=
  match st with
  | .vacant => some .unknownCar
  | .conflict => some .conflict
  | .unheard => some .unknownCar
  | .excluded => if fromBound then some .excluded else some .unknownCar
  | .failed => if fromBound then some .failed else some .unknownCar
  | .parked => if fromBound then some .parked else some .unknownCar
  | .parkedAway => if fromBound then some .parked else some .unknownCar
  | _ => if fromBound then none else some .unknownCar

/-- The kind that a car order gives a run (R94). -/
def orderRunKind : Option CarOrder → Option RunKind
  | some (.recall _) => some .recall
  | some (.divert _) => some .divert
  | _ => none

/-- The kind of a request, from the car's restoration state (R94); none in the states that do not reach check 10. R94 takes a LANDED
car's request to be refused at check 11 or 12; one that passes both is judged on by this kind (assumptions 32 and 34). -/
def Car.requestKind (c : Car) : Option RunKind :=
  match c.state with
  | .standing => some .recall
  | .recallPending => orderRunKind c.order
  | .landed => orderRunKind c.order
  | .serving => some .service
  | .firefighter => some .firefighter
  | .heldOut => some .other
  | _ => none

/-- The landing of a car order. -/
def orderLanding : Option CarOrder → Option Nat
  | some (.recall p) => some p
  | some (.divert p) => some p
  | _ => none

/-- The landing checked at check 11 of R93: the recall landing of a STANDING car, else the landing of its order (R94). -/
def Block.sentTo (b : Block) (i : CarIx) : Option Nat :=
  if (b.car i).state = .standing then some (b.conf i).recallLanding else orderLanding (b.car i).order

/-- The run's target is watched by the part: kinds RECALL and DIVERT (R93). -/
def RunKind.watched : RunKind → Bool
  | .recall => true
  | .divert => true
  | _ => false

/-- Checks 10 to 12 of R93. -/
def Block.targetRefusal (b : Block) (i : CarIx) (k : RunKind) (target : Nat) : Option RefusalReason :=
  if 127 < target ∨ (k.watched = false ∧ (target < (b.conf i).lowest ∨ (b.conf i).highest < target)) then
    some .outOfRange
  else if k.watched = true ∧ b.sentTo i ≠ some target then some .wrongTarget
  else if runDir (b.car i).learned target = none then some .noRun
  else none

/-- The car hears its current order again after WRONG_TARGET (R95). -/
def RState.reordered : RState → Bool
  | .recallPending => true
  | .landed => true
  | _ => false

/-- A queued entry is judged again after a move, by checks 3 to 12: kept with its new kind, or removed with the refusal to the
bound node, followed by the car's order after WRONG_TARGET (R110, R99, R95). Also whether that order was sent. -/
def Block.rejudge (b : Block) (i : CarIx) : Block × Bool :=
  match b.entry? i with
  | none => (b, false)
  | some e =>
    match stateRefusal (b.car i).state true with
    | some r => ((b.removeEntry i).refuseBound i e.tag r, false)
    | none =>
      match (b.car i).requestKind with
      | none => (b, false)
      | some k =>
        match b.targetRefusal i k e.target with
        | none => (b.setEntryKind i k, false)
        | some r =>
          let b1 := (b.removeEntry i).refuseBound i e.tag r
          if r = .wrongTarget ∧ (b.car i).state.reordered = true then (b1.sendOrder i, true) else (b1, false)

/-! ### A move (R106) -/

/-- States on entering which a car's order is set to none (R109, R111, R119). -/
def RState.clearsOrder : RState → Bool
  | .inGroup => true
  | .firefighter => true
  | .heldOut => true
  | .failed => true
  | _ => false

/-- The restoration record of a car put in a new state: the reason is kept for FAILED only, the door timer only in LANDED (R117),
the selected flag only in SERVING (R130), and the order as the state says. -/
def Car.enter (c : Car) (dest : RState) (r : Reason) : Car :=
  { c with
    state := dest
    reason := if dest = .failed then r else .none
    doorTimer := if dest = .landed then c.doorTimer else none
    selected := if dest = .serving then c.selected else false
    order := if dest.clearsOrder then none else c.order
    orderDeferred := if dest.clearsOrder then false else c.orderDeferred }

/-- The states in which a car is parked (R117). -/
def RState.isParked : RState → Bool
  | .parked => true
  | .parkedAway => true
  | _ => false

/-- The reason a move's plan notice carries (R106). -/
def moveReason (c : Car) (dest : RState) (r : Reason) : NoticeReason :=
  if dest = .failed then .failure r
  else if dest.isParked ∧ c.doorAlarm then .doorAlarm
  else .failure .none

/-- The service selection is told of a car that left SERVING or parked, which in SERVICE is an evaluation event (R106, R126). -/
def Block.tellSelection (b : Block) (old dest : RState) : Block :=
  if b.plan = .service ∧ (old = .serving ∨ dest.isParked = true) then { b with evalDue := true } else b

/-- The recall-work count is brought up to date; when it falls to zero the Plan Controller is told (R106, R11). -/
def Block.tellRecallWork (b : Block) (before : Nat) : Block :=
  if 0 < before ∧ b.recallWork = 0 then { b with recallReports := b.recallReports + 1 } else b

/-- The order that goes with a move is sent, unless the re-judging of the entry has just sent it (R100, R132, assumption 18). -/
def Block.sendOrderOnce (b : Block) (i : CarIx) (wanted sent : Bool) : Block :=
  if wanted && !sent then b.sendOrder i else b

/-- A move of a car to another restoration state, handed on in the order of R106: plan notice, re-judging of its entry, its car
order if one goes with the move, Relay Unit, service selection, recall-work count. -/
def Block.changeState (b : Block) (i : CarIx) (dest : RState) (r : Reason) (send : Bool) : Block :=
  let old := (b.car i).state
  let before := b.recallWork
  let b1 := (b.modCar i (fun c => c.enter dest r)).carNotice i (moveReason (b.car i) dest r)
  let j := b1.rejudge i
  (((j.1.sendOrderOnce i send j.2).tellRelay i).tellSelection old dest).tellRecallWork before

/-- A move; to the state the car is in already it is none, and hands on nothing but the order (R106). -/
def Block.move (b : Block) (i : CarIx) (dest : RState) (r : Reason := .none) (send : Bool := false) : Block :=
  if (b.car i).state = dest then b.sendOrderOnce i send false else b.changeState i dest r send

/-- A move to FAILED (R119). -/
def Block.fail (b : Block) (i : CarIx) (r : Reason) : Block := b.move i .failed r

/-! ### Landing and parking (7.4, 7.7) -/

/-- The state a car parks in, by its order (R117). -/
def parkState : Option CarOrder → RState
  | some (.divert _) => .parkedAway
  | _ => .parked

/-- A car parks, with the door alarm set if its door timer ran out (R117). -/
def Block.park (b : Block) (i : CarIx) (alarm : Bool) : Block :=
  let b1 := if alarm then b.modCar i (fun c => { c with doorAlarm := true }) else b
  b1.move i (parkState (b.car i).order)

/-- A car enters LANDED: its door timer starts, or it parks at once if its door is open (R117). -/
def Block.land (b : Block) (i : CarIx) : Block :=
  if (b.car i).learned.door = .opened then (b.move i .landed).park i false
  else (b.modCar i (fun c => { c with doorTimer := some b.active.plan.tDoor })).move i .landed

/-- The car is stopped at a landing (R112). -/
def Learned.stoppedAt (l : Learned) (p : Nat) : Bool :=
  !l.between && decide (l.landing = p) && decide (l.motion = .stopped)

/-- The car passes the arrival check (R112). -/
def Block.arrives (b : Block) (i : CarIx) : Bool :=
  (decide (b.plan = .recall) || decide (b.plan = .service)) && decide ((b.car i).state = .recallPending) &&
    (b.commitment? i).isNone &&
    (match orderLanding (b.car i).order with | none => false | some p => (b.car i).learned.stoppedAt p)

/-- The arrival check of one car (R112). -/
def Block.arrivalCheck (b : Block) (i : CarIx) : Block := if b.arrives i then b.land i else b

/-- The arrival check of every RECALL_PENDING car (R112, R121). -/
def Block.arrivalAll (b : Block) : Block := allCars.foldl Block.arrivalCheck b

/-! ### Orders, placing, attempts -/

/-- A car's order is set. -/
def Block.setOrder (b : Block) (i : CarIx) (o : Option CarOrder) : Block := b.modCar i (fun c => { c with order := o })

/-- A RECALL order to the car's recall landing is decided and sent, the car is RECALL_PENDING, and the arrival check is made
(R111, R107, R123). -/
def Block.orderRecall (b : Block) (i : CarIx) : Block :=
  ((b.setOrder i (some (.recall (b.conf i).recallLanding))).move i .recallPending .none true).arrivalCheck i

/-- The three groups of car modes (R109). -/
inductive ModeGroup where
  | firefighter
  | held
  | automatic
deriving DecidableEq, Repr

/-- The group of a learned car mode (R109). -/
def CarMode.group : CarMode → ModeGroup
  | .firefighter => .firefighter
  | .automatic => .automatic
  | _ => .held

/-- The state that a mode group other than AUTOMATIC puts a car in (R109). -/
def ModeGroup.state : ModeGroup → RState
  | .firefighter => .firefighter
  | _ => .heldOut

/-- A car is placed by plan, learned car mode and class (R107). -/
def Block.place (b : Block) (i : CarIx) : Block :=
  if b.plan.emergency = false then b.move i .inGroup
  else if (b.car i).learned.mode.group ≠ .automatic then b.move i (b.car i).learned.mode.group.state
  else if (b.conf i).cls = 0 then b.move i .excluded
  else if b.plan = .recall ∨ b.plan = .service then b.orderRecall i
  else b.move i .standing

/-- An attempt is counted: RECALL_PENDING with the order sent again, or FAILED at the attempt limit (R116). -/
def Block.countAttempt (b : Block) (i : CarIx) : Block :=
  let n := (b.car i).attempts + 1
  let b1 := b.modCar i (fun c => { c with attempts := n })
  if n < b.active.plan.attemptLimit then b1.move i .recallPending .none true
  else b1.fail i (if (b.car i).faultSeen then .fault else .attempts)

/-- The mode comparison that ends a report's stage (R109). `was` is the mode group before the report. -/
def Block.modeComparison (b : Block) (i : CarIx) (was : ModeGroup) : Block :=
  let g := (b.car i).learned.mode.group
  if b.plan.emergency = false then b
  else
    match (b.car i).state with
    | .standing | .recallPending | .landed | .parked | .parkedAway | .serving | .excluded =>
      if g = .automatic then b else b.move i g.state
    | .firefighter =>
      if g = .firefighter then b else if g = .automatic then b.place i else b.move i .heldOut
    | .heldOut =>
      if g = .held then b else if g = .automatic then b.place i else b.move i .firefighter
    | .failed =>
      if g = .automatic ∨ g = was then b
      else (b.modCar i (fun c => { c with attempts := 0 })).move i g.state
    | _ => b

/-! ### The end of a commitment (R115) -/

/-- A RECALL_PENDING car's commitment has ended, lapsed or been cancelled: an order held back by a deselection is sent, and the
arrival check is made (R115, R132). -/
def Block.afterRelease (b : Block) (i : CarIx) : Block :=
  (if (b.car i).orderDeferred then b.sendOrder i else b).arrivalCheck i

/-- How a commitment ended for the table of R115, other than by the run limit. -/
inductive EndKind where
  | stopped
  | lapsed
  | cancelled
  | released
deriving DecidableEq, Repr

/-- A commitment ended by a report of STOPPED put the car at its target; never one ended in GRANTED (R115, assumption 21). -/
def Commitment.reached (c : Commitment) (l : Learned) : Bool :=
  decide (c.phase ≠ .granted) && !l.between && decide (c.target = some l.landing)

/-- The states that no cause moves to FAILED (R115, R119). -/
def RState.unfailing : RState → Bool
  | .failed => true
  | .conflict => true
  | _ => false

/-- The Restoration Controller takes the end of a car's commitment (R115). -/
def Block.takeEnd (b : Block) (i : CarIx) (c : Commitment) (how : EndKind) : Block :=
  let st := (b.car i).state
  if st.unfailing then b
  else
    match how with
    | .released => b.fail i .silent
    | .stopped =>
      if c.unauthorized then
        (if st = .firefighter ∨ b.plan = .normal then b else b.fail i .unauthorized)
      else if st = .recalling ∨ st = .diverting then
        (if c.reached (b.car i).learned then b.land i else b.countAttempt i)
      else if st = .recallPending then b.afterRelease i
      else b
    | .lapsed =>
      if st = .recalling ∨ st = .diverting then b.countAttempt i
      else if st = .recallPending then b.afterRelease i
      else b
    | .cancelled =>
      if st = .recalling ∨ st = .diverting then b.move i .recallPending
      else if st = .recallPending then b.afterRelease i
      else b

/-- The Restoration Controller takes the run limit of a car's commitment (R115, R64). -/
def Block.takeRunLimit (b : Block) (i : CarIx) : Block :=
  if (b.car i).state.unfailing then b else b.fail i .runLimit

/-! ### The service set (chapter 8) -/

/-- A car is eligible for the automatic set (R127). -/
def Block.eligible (b : Block) (i : CarIx) : Bool :=
  match (b.car i).state with
  | .serving => true
  | .parked => !(b.car i).learned.silent
  | .parkedAway => !(b.car i).learned.silent
  | _ => false

/-- The place of a car in a ranking by class, highest first; cars of one class keep their order (R127). -/
def Block.rankInsert (b : Block) (i : CarIx) : List CarIx → List CarIx
  | [] => [i]
  | j :: js => if (b.conf j).cls < (b.conf i).cls then i :: j :: js else j :: b.rankInsert i js

/-- The eligible cars, ranked by class, highest first, then by car number, lowest first (R127). -/
def Block.ranking (b : Block) : List CarIx :=
  (allCars.filter b.eligible).foldl (fun l i => b.rankInsert i l) []

/-- The size of the automatic set: the derated count while derated; 0 in fallback mode (R127). -/
def Block.serviceSize (b : Block) : Nat :=
  if b.fallback then 0
  else if b.derate.taken then b.active.plan.deratedCount
  else b.active.plan.serviceCount

/-- The new service set (R127, R128). -/
def Block.serviceSet (b : Block) : List CarIx :=
  match b.manual with
  | some l => l
  | none => b.ranking.take b.serviceSize

/-- A parked car is selected: flag set, order SERVE, moved to SERVING, order sent (R129). -/
def Block.selectCar (b : Block) (i : CarIx) : Block :=
  (b.modCar i (fun c => { c with selected := true, order := some .serve })).move i .serving .none true

/-- A serving car is deselected: RECALL_PENDING at once, its RECALL order sent at once and the arrival check made, or the order
held back while it holds a commitment (R132). -/
def Block.releaseCar (b : Block) (i : CarIx) : Block :=
  let o := some (CarOrder.recall (b.conf i).recallLanding)
  if (b.commitment? i).isSome then
    (b.modCar i (fun c => { c with order := o, orderDeferred := true })).move i .recallPending
  else ((b.setOrder i o).move i .recallPending .none true).arrivalCheck i

/-- One car's part of an evaluation (R129). -/
def Block.evaluateCar (set : List CarIx) (b : Block) (i : CarIx) : Block :=
  if (b.car i).state.isParked = true then (if set.contains i then b.selectCar i else b)
  else if (b.car i).state = .serving then (if set.contains i then b else b.releaseCar i)
  else b

/-- An evaluation of the service set, in SERVICE only; the moves it makes cause no further evaluation (R126). DESIGN CHOICE
(assumption 36): several serving cars released at a derating are released in car-number order, as R129 orders the moves of every
evaluation; R133 says lowest-ranked first, which the model reads as naming the cars released, not the order of their moves. -/
def Block.evaluate (b : Block) : Block :=
  if b.plan = .service then { allCars.foldl (Block.evaluateCar b.serviceSet) b with evalDue := false }
  else { b with evalDue := false }

/-- An evaluation event raised in this step is taken (R126, assumption 7). -/
def Block.takeEvaluation (b : Block) : Block := if b.evalDue then b.evaluate else b

end Sys2Proof.Machine
end

