-- ==== Sys2Proof/Machine/Arbiter.lean ====
section
/-! DEFINITION. The Start Arbiter's arbitration pass, joining, refreshing and flushing (chapter 5), the grant it makes (R56, R97,
R114), and what ends every step: the evaluation and the pass it raised, and the order-resend timers (R101). -/

namespace Sys2Proof.Machine

/-- An arbitration pass can be made (R82). -/
def Block.passAllowed (b : Block) : Bool :=
  b.slotHolder.isNone && b.settleTimer.isNone &&
    (decide (b.plan = .recall) || decide (b.plan = .service) || decide (b.plan = .mainsReturn)) && b.cport.roomOwn

/-- The scan of a pass from the head: the entry to grant and the cars of the entries noted before it (R84, R87). -/
def Block.scan (b : Block) : List Entry → List CarIx → Option (Entry × List CarIx)
  | [], _ => none
  | e :: es, noted =>
    if (b.car e.car).learned.silent then b.scan es noted
    else
      match b.verdict e with
      | .fits => some (e, noted)
      | .upper => if e.blocking then none else b.scan es (e.car :: noted)
      | .lower => b.scan es noted
      | .count => b.scan es noted

/-- A noted entry that a grant was made past: one skip more, BLOCKING at the skip limit (R85). -/
def Entry.bump (limit : Nat) (e : Entry) : Entry :=
  { e with skip := e.skip + 1, blocking := e.blocking || decide (limit ≤ e.skip + 1) }

/-- The commitment a grant creates (R56). -/
def Entry.commitment (p : PlanRecord) (e : Entry) : Commitment :=
  { car := e.car, kind := e.kind, phase := .granted, fig := e.fig, upper := e.fig.ds, lower := e.fig.lower,
    target := some e.target, tag := some e.tag, slowStart := false, unauthorized := false, silentHold := false,
    grantTimer := some p.tGrant, accelTimer := none, runTimer := .running p.tRun, releaseTimer := none }

/-- A start grant is queued, to the car's bound node (R97, R96). -/
def Block.sendGrant (b : Block) (i : CarIx) (tag : Byte) (window : Nat) : Block :=
  let x := b.boundNode i
  x.1.sendCarOrLose x.2 .startGrant [byteOf (carNo i), tag, byteOf window]

/-- The state a grant of a watched kind moves a car to (R114). -/
def grantState : RunKind → RState
  | .divert => .diverting
  | _ => .recalling

/-- The Restoration Controller is told of a grant and its kind (R114). DESIGN CHOICE (assumption 34): a LANDED car that a report of
STOPPED has put elsewhere can come to such a grant, which R56 and R94 do not foresee; it stays LANDED, with fault seen
cleared. -/
def Block.takeGrant (b : Block) (i : CarIx) (k : RunKind) : Block :=
  if k.watched then
    let b1 := b.modCar i (fun c => { c with faultSeen := false })
    if (b.car i).state = .recallPending then b1.move i (grantState k) else b1
  else b

/-- An entry is granted: it leaves the queue, the commitment is made, the noted entries' skips grow, the grant is queued, the
Restoration Controller is told (R85, R56). -/
def Block.grantEntry (b : Block) (e : Entry) (noted : List CarIx) : Block :=
  let limit := b.active.plan.skipLimit
  let b1 := { b with
    queue := (b.queue.filter (fun (x : Entry) => x.car ≠ e.car)).map (fun (x : Entry) => if noted.contains x.car then x.bump limit else x)
    commitments := b.commitments ++ [e.commitment b.active.plan] }
  (b1.sendGrant e.car e.tag b.active.plan.tGrant).takeGrant e.car e.kind

/-- An arbitration pass (R84, R85). -/
def Block.pass (b : Block) : Block :=
  match b.scan b.queue [] with
  | none => b
  | some (e, noted) => b.grantEntry e noted

/-- The trigger raised in this step is taken: a pass is made if R82 allows it, and nothing is remembered of the trigger if not
(R82, R83, assumption 6). -/
def Block.takeTrigger (b : Block) : Block :=
  if b.arbDue then { (if b.passAllowed then b.pass else b) with arbDue := false } else b

/-- An entry joins the queue: a trigger (R75). -/
def Block.join (b : Block) (e : Entry) : Block := { b with queue := insertEntry e b.queue, arbDue := true }

/-- A request refreshes a car's entry: target, direction, load, figures and tag are replaced, the kind is set, and the refresh is
a trigger (R76). -/
def Block.refresh (b : Block) (i : CarIx) (e : Entry) : Block :=
  let b1 := { b with queue := b.queue.map (fun (x : Entry) =>
    if x.car = i then { x with target := e.target, dir := e.dir, load := e.load, fig := e.fig, tag := e.tag } else x) }
  (b1.setEntryKind i e.kind).trigger

/-- The queue is flushed: every entry removed and refused, in queue order (R79). -/
def Block.flush (b : Block) (r : RefusalReason) : Block :=
  b.queue.foldl (fun b e => b.refuseBound e.car e.tag r) { b with queue := [] }

/-- A car's order-resend timer runs: RECALL_PENDING with neither entry nor commitment, or SERVING with its SERVE order unsent
(R101). -/
def Block.resendRuns (b : Block) (i : CarIx) : Bool :=
  (decide ((b.car i).state = .recallPending) && (b.entry? i).isNone && (b.commitment? i).isNone) ||
    (decide ((b.car i).state = .serving) && (b.car i).serveUnsent)

/-- A car's order-resend timer follows its conditions: started at T_silent when they come to hold, stopped when they stop
(R101). -/
def Block.syncResend (b : Block) (i : CarIx) : Block :=
  if b.resendRuns i then
    (if (b.car i).resendTimer.isSome then b
     else b.modCar i (fun c => { c with resendTimer := some b.active.plan.tSilent }))
  else if (b.car i).resendTimer.isNone && !(b.car i).serveUnsent then b
  else b.modCar i (fun c => { c with resendTimer := none, serveUnsent := false })

/-- What ends a step: the evaluation it raised, the arbitration pass it triggered, and the order-resend timers (assumptions 6
and 7). -/
def Block.finish (b : Block) : Block := allCars.foldl Block.syncResend b.takeEvaluation.takeTrigger

end Sys2Proof.Machine
end

