-- ==== Sys2Proof/Machine/Budget.lean ====
section
/-! DEFINITION. The Budget Unit (chapter 4): a report's effect on a commitment, adoption, silence; the meanings of the
commitment timers' expiries and of the settle timer's. -/

namespace Sys2Proof.Machine

/-- A commitment takes a report of motion (R58, R59, R61). -/
def Block.advance (b : Block) (i : CarIx) (c : Commitment) (m : Motion) : Block :=
  match c.phase with
  | .granted =>
    (b.modCommitment i (fun c =>
      { c with phase := .starting, grantTimer := none, accelTimer := some b.active.plan.tAccel })).trigger
  | .starting =>
    if m = .running then
      ((b.modCommitment i (fun c =>
        { c with phase := .running, upper := c.fig.runningUpper, accelTimer := none })).freeWithSettle).trigger
    else b
  | _ => b

/-- A commitment ends by a report of STOPPED (R58, R59, R61). -/
def Block.endByReport (b : Block) (i : CarIx) (c : Commitment) : Block :=
  if c.phase = .starting then (b.dropCommitment i).freeWithSettle else b.dropCommitment i

/-- The commitment an adoption makes (R67, R69). -/
def adoptedCommitment (p : PlanRecord) (i : CarIx) (f : Figures) (unauthorized : Bool) : Commitment :=
  { car := i, kind := .adopted, phase := .adopted, fig := f, upper := f.runningUpper, lower := f.lower, target := none,
    tag := none, slowStart := false, unauthorized := unauthorized, silentHold := false, grantTimer := none,
    accelTimer := none, runTimer := .running p.tRun, releaseTimer := none }

/-- A car's run is adopted; a queue entry it has is removed without an answer (R67, R69). -/
def Block.adopt (b : Block) (i : CarIx) (unauthorized : Bool) : Block :=
  let b1 := if (b.entry? i).isSome then b.removeEntry i else b
  { b1 with commitments := b1.commitments ++ [adoptedCommitment b.active.plan i (b.figuresOfReport i) unauthorized] }

/-- What the Budget Unit hands to the Restoration Controller after a report (R27). -/
inductive BudgetResult where
  | quiet
  | ended (c : Commitment)
  | unauthorized
deriving DecidableEq, Repr

/-- The Budget Unit's stage of an accepted report, learned already (R27, R58 to R61, R67, R69). -/
def Block.budgetStage (b : Block) (i : CarIx) : Block × BudgetResult :=
  let m := (b.car i).learned.motion
  match b.commitment? i with
  | some c => if m = .stopped then (b.endByReport i c, .ended c) else (b.advance i c m, .quiet)
  | none =>
    if m = .stopped then (b, .quiet)
    else if b.plan.emergency then (b.adopt i true, .unauthorized)
    else if b.plan = .adopt then (b.adopt i false, .quiet)
    else (b, .quiet)

/-- A car has become silent: its commitment is held (R65). -/
def Block.holdSilent (b : Block) (i : CarIx) : Block :=
  b.modCommitment i (fun c => { c with silentHold := true, releaseTimer := some b.active.plan.tRelease })

/-- A silent car has been heard: the hold on its commitment ends (R66). -/
def Block.unholdSilent (b : Block) (i : CarIx) : Block :=
  b.modCommitment i (fun c => { c with silentHold := false, releaseTimer := none })

/-- A commitment is in GRANTED with its grant timer running. -/
def Commitment.grantRuns (c : Commitment) : Bool := decide (c.phase = .granted) && c.grantTimer.isSome

/-- A commitment is in STARTING with its acceleration timer running. -/
def Commitment.accelRuns (c : Commitment) : Bool := decide (c.phase = .starting) && c.accelTimer.isSome

/-- A commitment's run timer is running. -/
def Commitment.runRuns (c : Commitment) : Bool :=
  match c.runTimer with
  | .running _ => true
  | _ => false

/-- A commitment is held for silence with its release timer running. -/
def Commitment.releaseRuns (c : Commitment) : Bool := c.silentHold && c.releaseTimer.isSome

/-- The grant has lapsed (R62). -/
def Block.lapse (b : Block) (i : CarIx) (c : Commitment) : Block :=
  let b1 := b.dropCommitment i
  let b2 := match c.tag with
    | some t => b1.refuseBound i t .lapsed
    | none => b1
  (b2.takeEnd i c .lapsed).finish

/-- GRANT_TIMER_EXPIRY (R62). -/
def execGrantTimerExpiry (i : CarIx) (s : State) : Host.Outcome State Fault Refusal :=
  match s.toBlock.commitment? i with
  | some c => if c.grantRuns then .next { s with toBlock := s.toBlock.lapse i c } else .next s
  | none => .next s

/-- The acceleration timer has expired: RUNNING with SLOW_START at Ds (R60). -/
def Block.slowStart (b : Block) (i : CarIx) : Block :=
  ((b.modCommitment i (fun c => { c with phase := .running, slowStart := true, accelTimer := none })).freeWithSettle).trigger.finish

/-- ACCELERATION_TIMER_EXPIRY (R60). -/
def execAccelerationTimerExpiry (i : CarIx) (s : State) : Host.Outcome State Fault Refusal :=
  match s.toBlock.commitment? i with
  | some c => if c.accelRuns then .next { s with toBlock := s.toBlock.slowStart i } else .next s
  | none => .next s

/-- RUN_TIMER_EXPIRY (R64): the commitment is kept, the car fails with RUN_LIMIT. -/
def execRunTimerExpiry (i : CarIx) (s : State) : Host.Outcome State Fault Refusal :=
  match s.toBlock.commitment? i with
  | some c =>
    if c.runRuns then
      .next { s with
        toBlock := ((s.toBlock.modCommitment i (fun c => { c with runTimer := .expired })).takeRunLimit i).finish }
    else .next s
  | none => .next s

/-- SILENT_RELEASE_EXPIRY (R66): the commitment is removed, the slot freed without settle, the car fails with SILENT. -/
def execSilentReleaseExpiry (i : CarIx) (s : State) : Host.Outcome State Fault Refusal :=
  match s.toBlock.commitment? i with
  | some c =>
    if c.releaseRuns then .next { s with toBlock := ((s.toBlock.dropCommitment i).takeEnd i c .released).finish }
    else .next s
  | none => .next s

/-- SETTLE_TIMER_EXPIRY (R81): an arbitration trigger. -/
def execSettleTimerExpiry (s : State) : Host.Outcome State Fault Refusal :=
  if s.settleTimer.isSome then .next { s with toBlock := ({ s.toBlock with settleTimer := none } : Block).trigger.finish }
  else .next s

end Sys2Proof.Machine
end

