-- ==== Sys2Proof/Machine/PlanControl.lean ====
section
/-! DEFINITION. The Plan Controller (chapter 1): the plan changes with their entry effects, and the meanings of the line events, of
its timers' expiries and of the reports sent to it. -/

namespace Sys2Proof.Machine

/-- The power mode of a plan's mode frame (R16). -/
def Plan.powerMode : Plan → PowerMode
  | .normal => .normal
  | _ => .emergency

/-- A mode frame for the current plan is queued on the C-port, or skipped with nothing recorded (R16, R102). -/
def Block.sendMode (b : Block) : Block :=
  (b.sendCar (byteOf Config.broadcast) .modeFrame [b.plan.powerMode.code]).1

/-- What every plan change does outside the Plan Controller: mode frame and repeat timer, then plan notice (R1, R16). -/
def Block.changePlan (b : Block) (p : Plan) : Block :=
  (({ b with plan := p, modeTimer := some Config.modeRepeat } : Block).sendMode).planNotice (.failure .none)

/-- The effective allowance of a plan record (R15). -/
def effectiveAllowance (p : PlanRecord) (derated : Bool) : Nat := if derated then p.a * p.dr / 100 else p.a

/-- A_eff is recomputed; a new value is an arbitration trigger (R15). -/
def Block.recomputeAEff (b : Block) : Block :=
  let v := effectiveAllowance b.active.plan b.derate.taken
  if v = b.aEff then b else { b with aEff := v }.trigger

/-- A STANDING car is ordered on entering RECALL (R10). -/
def Block.orderStanding (b : Block) (i : CarIx) : Block :=
  if (b.car i).state = .standing then
    (b.setOrder i (some (.recall (b.conf i).recallLanding))).move i .recallPending .none true
  else b

/-- Entry into SERVICE: arrival checks, the evaluation, and a trigger (R12, R121). -/
def Block.enterService (b : Block) : Block := ((b.changePlan .service).arrivalAll.evaluate.tellRelayAll).trigger

/-- Entry into RECALL: orders, arrival checks, the pass, and on to SERVICE if no car holds recall open (R10, R121). -/
def Block.enterRecall (b : Block) : Block :=
  let b1 := (allCars.foldl Block.orderStanding (b.changePlan .recall)).arrivalAll.trigger.takeTrigger
  if b1.recallWork = 0 then b1.enterService else b1

/-- Entry into TRANSFER_WAIT goes on to RECALL at once when the generator has settled (R9). -/
def Block.passOnSettled (b : Block) : Block := if b.genSettled then b.enterRecall else b

/-- One car on entry into TRANSFER_WAIT from NORMAL or ADOPT: attempt count cleared; IN_GROUP becomes STANDING and is placed
(R7, R107). -/
def Block.standCar (b : Block) (i : CarIx) : Block :=
  let b1 := b.modCar i (fun c => { c with attempts := 0 })
  if (b.car i).state = .inGroup then (b1.move i .standing).place i else b1

/-- Entry into TRANSFER_WAIT from NORMAL or ADOPT (R7, R9). -/
def Block.enterWaitFresh (b : Block) : Block :=
  (allCars.foldl Block.standCar (b.changePlan .transferWait)).passOnSettled

/-- One car when its commitment is voided (R120, R116, R132). -/
def Block.loseCar (b : Block) (i : CarIx) : Block :=
  match (b.car i).state with
  | .recalling => b.countAttempt i
  | .diverting => b.countAttempt i
  | .landed => b.move i .recallPending
  | .recallPending => if (b.car i).orderDeferred then b.sendOrder i else b
  | _ => b

/-- Every commitment is removed, the slot freed and the settle timer stopped (R70, R8). -/
def Block.void (b : Block) : Block := { b with commitments := [], settleTimer := none }

/-- Every held order is dropped (R8, R13). -/
def Block.dropHeld (b : Block) : Block :=
  allCars.foldl (fun b i => if (b.car i).slot = .closed then b else b.dropSlot i) b

/-- Entry into TRANSFER_WAIT from RECALL, SERVICE or MAINS_RETURN (R8, R9). -/
def Block.enterWaitLoss (b : Block) : Block :=
  (((allCars.foldl Block.loseCar (b.changePlan .transferWait).void).flush .powerLost).dropHeld).passOnSettled

/-- One car on entry into NORMAL (R14, R120). -/
def Block.normalCar (b : Block) (i : CarIx) : Block :=
  let b1 := b.modCar i (fun c =>
    { c with attempts := 0, doorAlarm := false, doorTimer := none, resendTimer := none, serveUnsent := false,
             selected := false, order := none, orderDeferred := false, reason := .none })
  match (b.car i).state with
  | .vacant => b1
  | .unheard => b1
  | .conflict => b1
  | _ => b1.move i .inGroup

/-- Entry into NORMAL; from ADOPT every adopted commitment is discarded (R14). -/
def Block.enterNormal (b : Block) : Block :=
  let b1 := if b.plan = .adopt then { b with commitments := [] } else b
  allCars.foldl Block.normalCar { b1.changePlan .normal with manual := none }

/-- Entry into MAINS_RETURN, and on to NORMAL if the commitment list is empty (R13). -/
def Block.enterMainsReturn (b : Block) : Block :=
  let b1 := ((b.changePlan .mainsReturn).flush .mainsReturn).dropHeld
  if b1.commitments = [] then b1.enterNormal else b1

/-- A line as two agreeing samples have left it (R2). -/
def Line.took (v : Bool) : Line := { pin := v, last := some v, taken := v }

/-- The plan's answer to XFER_EMERG taken asserted (R5). -/
def Block.onXferAsserted (b : Block) : Block :=
  match b.plan with
  | .normal => b.enterWaitFresh
  | .mainsReturn => b.enterWaitLoss
  | _ => b

/-- XFER_EMERG_TAKEN_ASSERTED (R5). -/
def execXferEmergTakenAsserted (s : State) : Host.Outcome State Fault Refusal :=
  if s.xfer.taken then .next s
  else .next { s with toBlock := ({ s.toBlock with xfer := Line.took true } : Block).onXferAsserted.finish }

/-- The plan's answer to XFER_EMERG taken negated (R5). -/
def Block.onXferNegated (b : Block) : Block :=
  match b.plan with
  | .transferWait => b.enterMainsReturn
  | .recall => b.enterMainsReturn
  | .service => b.enterMainsReturn
  | _ => b

/-- XFER_EMERG_TAKEN_NEGATED (R5). -/
def execXferEmergTakenNegated (s : State) : Host.Outcome State Fault Refusal :=
  if s.xfer.taken then
    .next { s with toBlock := ({ s.toBlock with xfer := Line.took false } : Block).onXferNegated.finish }
  else .next s

/-- GEN_READY_TAKEN_ASSERTED (R4): the transfer-settle timer starts, in every plan state. DESIGN CHOICE (assumption 10): before the
image load completes it starts at the default T_gen of 50, and the end of the load leaves it running; the spec names no length
there. -/
def execGenReadyTakenAsserted (s : State) : Host.Outcome State Fault Refusal :=
  if s.gen.taken then .next s
  else .next { s with gen := Line.took true, transferTimer := some s.active.plan.tGen }

/-- The plan's answer to GEN_READY taken negated (R5). -/
def Block.onGenNegated (b : Block) : Block :=
  match b.plan with
  | .recall => b.enterWaitLoss
  | .service => b.enterWaitLoss
  | _ => b

/-- GEN_READY_TAKEN_NEGATED (R4, R5). -/
def execGenReadyTakenNegated (s : State) : Host.Outcome State Fault Refusal :=
  if s.gen.taken then
    .next { s with
      toBlock := ({ s.toBlock with gen := Line.took false, transferTimer := none, genSettled := false } : Block).onGenNegated.finish }
  else .next s

/-- An evaluation event is raised, provided the plan is SERVICE (R126). -/
def Block.raiseEvaluation (b : Block) : Block := if b.plan = .service then { b with evalDue := true } else b

/-- GEN_DERATE_TAKEN (R15, R126, R133). -/
def execGenDerateTaken (asserted : Bool) (s : State) : Host.Outcome State Fault Refusal :=
  if s.derate.taken = asserted then .next s
  else
    .next { s with
      toBlock := (({ s.toBlock with derate := Line.took asserted } : Block).recomputeAEff.raiseEvaluation).finish }

/-- TRANSFER_SETTLE_EXPIRY (R4, R5, R9). -/
def execTransferSettleExpiry (s : State) : Host.Outcome State Fault Refusal :=
  if s.transferTimer.isSome then
    let b : Block := { s.toBlock with transferTimer := none, genSettled := true }
    .next { s with toBlock := if s.plan = .transferWait then b.enterRecall.finish else b }
  else .next s

/-- The choice at the end of ADOPT (R6). -/
def Block.leaveAdopt (b : Block) : Block := if b.xfer.taken then b.enterWaitFresh else b.enterNormal

/-- ADOPTION_EXPIRY (R6). -/
def execAdoptionExpiry (s : State) : Host.Outcome State Fault Refusal :=
  if s.adoptionTimer.isSome then
    let b : Block := { s.toBlock with adoptionTimer := none }
    .next { s with toBlock := if s.plan = .adopt then b.leaveAdopt.finish else b }
  else .next s

/-- MODE_REPEAT_EXPIRY (R16). -/
def execModeRepeatExpiry (s : State) : Host.Outcome State Fault Refusal :=
  if s.modeTimer.isSome then
    .next { s with toBlock := ({ s.toBlock with modeTimer := some Config.modeRepeat } : Block).sendMode }
  else .next s

/-- RECALL_WORK_EMPTIES (R11, R5): SERVICE is entered only while no car holds recall open (R18, assumption 5). -/
def execRecallWorkEmpties (s : State) : Host.Outcome State Fault Refusal :=
  let b : Block := { s.toBlock with recallReports := s.recallReports - 1 }
  .next { s with toBlock := if s.plan = .recall ∧ s.toBlock.recallWork = 0 then b.enterService.finish else b }

/-- COMMITMENT_LIST_EMPTIES (R13, R5): the plan stays MAINS_RETURN if the list is no longer empty. -/
def execCommitmentListEmpties (s : State) : Host.Outcome State Fault Refusal :=
  let b : Block := { s.toBlock with listReports := s.listReports - 1 }
  .next { s with toBlock := if s.plan = .mainsReturn ∧ s.commitments = [] then b.enterNormal.finish else b }

end Sys2Proof.Machine
end

