-- ==== Sys2Proof/Machine/Relay.lean ====
section
/-! DEFINITION. The Relay Unit (chapter 9): how a frame taken from a receive FIFO is classed, the relay action table, and the
meanings of DISPATCH_ORDER and RELAYED_FRAME. -/

namespace Sys2Proof.Machine

/-- What becomes of a frame that a port delivers (R134, R165). -/
inductive Route where
  | discard
  | carReport
  | startRequest
  | startCancel
  | requestPart
  | dispatchOrder
  | management
  | other
deriving DecidableEq, Repr

/-- The route of a frame addressed to the part (R134, step 2). -/
def ownRoute (p : PortId) (k : Option FrameKind) : Route :=
  match p, k with
  | .g, some .mgmtRequest => .requestPart
  | .c, some .startRequest => .startRequest
  | .c, some .startCancel => .startCancel
  | .c, some .carReport => .carReport
  | _, _ => .discard

/-- The route of a frame for another node (R134, steps 3 and 4). -/
def otherRoute (p : PortId) (k : Option FrameKind) : Route :=
  match p, k with
  | .c, some .carReport => .carReport
  | .g, some .dispatchOrder => .dispatchOrder
  | _, some .mgmtRequest => .management
  | _, some .mgmtResponse => .management
  | _, _ => .other

/-- How a frame taken from a port's FIFO is examined: addresses in range, own source, own destination, and the rest (R165,
R134). -/
def Block.route (b : Block) (p : PortId) (f : Frame) : Route :=
  if 63 < f.dst.toNat ∨ 63 < f.src.toNat then .discard
  else if f.src = b.own then .discard
  else if f.dst = b.own then ownRoute p f.kind?
  else otherRoute p f.kind?

/-- The head of a port's FIFO is taken, once the image load has completed, if it has a route that is wanted; otherwise nothing
happens (R146, R25, R92, assumption 1). -/
def Block.takeFrame (b : Block) (p : PortId) (want : Route → Bool) (act : Block → Frame → Block) : Block :=
  if b.loaded then
    match (b.port p).rx with
    | [] => b
    | f :: _ => if want (b.route p f) then act (b.modPort p Port.takeHead) f else b
  else b

/-- The NORMAL column is in force (R135). -/
def Block.normalColumn (b : Block) : Bool := decide (b.plan = .normal)

/-- The management row in force (R135). -/
def Block.mgmtCell (b : Block) : Bool :=
  if b.normalColumn then b.active.plan.relay.mgmtNormal else b.active.plan.relay.mgmtEmergency

/-- The other row in force (R135). -/
def Block.otherCell (b : Block) : Bool :=
  if b.normalColumn then b.active.plan.relay.otherNormal else b.active.plan.relay.otherEmergency

/-- The car-report row in force (R135). -/
def Block.reportCell (b : Block) : Bool :=
  if b.normalColumn then b.active.plan.relay.reportNormal else b.active.plan.relay.reportEmergency

/-- A frame's source is barred: tested on frames from the C-port only (R137). -/
def Block.barredSource (b : Block) (p : PortId) (f : Frame) : Bool := decide (p = .c) && b.barred f.src.toNat

/-- A frame is relayed to the opposite port if its cell holds PASS and its source is not barred; otherwise it is discarded without
record (R135, R137). -/
def Block.relayUnder (b : Block) (p : PortId) (f : Frame) (cell : Bool) : Block :=
  if cell && !b.barredSource p f then b.relayTo (opposite p) f else b

/-- A frame that is neither taken by a block nor a dispatch order is discarded or relayed by its row (R134). -/
def Block.relayFrame (p : PortId) (b : Block) (f : Frame) : Block :=
  match b.route p f with
  | .management => b.relayUnder p f b.mgmtCell
  | .other => b.relayUnder p f b.otherCell
  | _ => b

/-- The routes of a frame that RELAYED_FRAME takes. -/
def Route.relayed : Route → Bool
  | .discard => true
  | .management => true
  | .other => true
  | _ => false

/-- RELAYED_FRAME (R134). -/
def execRelayedFrame (p : PortId) (s : State) : Host.Outcome State Fault Refusal :=
  .next { s with toBlock := s.toBlock.takeFrame p Route.relayed (Block.relayFrame p) }

/-- A dispatch order is dropped, with its notice (R138). -/
def Block.dropOrder (b : Block) (f : Frame) : Block := b.announce f .dropped

/-- A dispatch order taken in a plan other than NORMAL (R139). -/
def Block.orderByState (b : Block) (i : CarIx) (f : Frame) : Block :=
  if (b.car i).state = .serving then b.relayTo .c f
  else if b.awaiting i then
    match (b.car i).slot with
    | .holding old => ((b.announce old .replaced).setSlot i (.holding f)).announce f .held
    | _ => (b.setSlot i (.holding f)).announce f .held
  else b.dropOrder f

/-- Check 3 of R138: the car is present and its relay mode lets no dispatch order through. -/
def CarConf.refusesOrders (c : CarConf) : Bool := c.present && decide (c.relay ≠ .forward)

/-- A dispatch order is judged (R138). -/
def Block.onDispatchOrder (b : Block) (f : Frame) : Block :=
  let car := (orderFields f).1.toNat
  let landing := (orderFields f).2.toNat
  match carIx? car with
  | none => b.dropOrder f
  | some i =>
    if 127 < landing ∨ landing < (b.conf i).lowest ∨ (b.conf i).highest < landing then b.dropOrder f
    else if (b.conf i).refusesOrders then b.dropOrder f
    else if b.plan = .normal then
      (if b.active.plan.relay.dispatchNormal then b.relayTo .c f else b.dropOrder f)
    else b.orderByState i f

/-- DISPATCH_ORDER (R138). -/
def execDispatchOrder (s : State) : Host.Outcome State Fault Refusal :=
  .next { s with toBlock := s.toBlock.takeFrame .g (fun r => decide (r = .dispatchOrder)) Block.onDispatchOrder }

end Sys2Proof.Machine
end

