-- ==== Sys2Proof/Machine/CarTable.lean ====
section
/-! DEFINITION. The Car Table (chapter 2): taking a car report through its three stages, binding and conflict, silence, the records
across a COMMIT and a RETRY_CAR; the meanings of CAR_REPORT, REPORT_TIMER_EXPIRY, DOOR_TIMER_EXPIRY. -/

namespace Sys2Proof.Machine

/-- A node joins a car's foreign set, and so is barred (R33, R34). -/
def Car.addForeign (c : Car) (node : Nat) : Car :=
  if c.foreign.contains node then c else { c with foreign := c.foreign ++ [node] }

/-- A queued entry is removed with a refusal CONFLICT to the bound node (R33, R99). -/
def Block.removeInConflict (b : Block) (i : CarIx) : Block :=
  match b.entry? i with
  | none => b
  | some e => (b.removeEntry i).refuseBound i e.tag .conflict

/-- A report from a node that may not speak for the car: a binding conflict (R33, R34). -/
def Block.bindingConflict (b : Block) (i : CarIx) (node : Nat) : Block :=
  let b1 := b.modCar i (fun c => c.addForeign node)
  if (b.car i).state = .conflict then b1
  else
    ((b1.modCar i (fun c => { c with learned := { c.learned with firstForeign := some node } })).removeInConflict i).move i
      .conflict

/-- In fallback mode a car's first accepted report makes it present (R22). -/
def Block.makePresent (b : Block) (i : CarIx) : Block :=
  if b.fallback then
    { b with active := { b.active with cars := b.active.cars.set i.val { b.conf i with present := true } i.isLt } }
  else b

/-- An accepted report is learned: binding, fields, heard, report timer, SILENT cleared (R27, R30). -/
def Block.learnReport (b : Block) (i : CarIx) (node : Nat) (fields : List Byte) : Block :=
  (b.makePresent i).modCar i (fun c =>
    { c with
      bound := some node
      learned := { c.learned.learn fields with heard := true, silent := false, reportTimer := some b.active.plan.tSilent } })

/-- The effects of a cleared SILENT: notice HEARD, the hold on the commitment ended, an arbitration trigger (R37). -/
def Block.clearSilent (b : Block) (i : CarIx) : Block := ((b.carNotice i .heard).unholdSilent i).trigger

/-- The states a car is placed from by its first accepted report (R107, R108). -/
def RState.unplaced : RState → Bool
  | .vacant => true
  | .unheard => true
  | _ => false

/-- A nonzero fault code during a recall or divert run is kept (R114). -/
def Block.noteFault (b : Block) (i : CarIx) : Block :=
  if ((b.car i).state = .recalling ∨ (b.car i).state = .diverting) ∧ (b.car i).learned.fault ≠ 0 then
    b.modCar i (fun c => { c with faultSeen := true })
  else b

/-- Unauthorized motion of a landed or parked car stops its door timer (R118). -/
def Block.noteMotion (b : Block) (i : CarIx) : Block :=
  if (b.car i).state = .landed ∨ (b.car i).state.isParked = true then b.modCar i (fun c => { c with doorTimer := none })
  else b

/-- The Restoration Controller takes what the Budget Unit's stage did (R27, R115, R118). -/
def Block.takeResult (b : Block) (i : CarIx) : BudgetResult → Block
  | .quiet => b
  | .ended c => b.takeEnd i c .stopped
  | .unauthorized => b.noteMotion i

/-- A LANDED car whose door is reported open parks (R117). -/
def Block.parkIfOpen (b : Block) (i : CarIx) : Block :=
  if (b.car i).state = .landed ∧ (b.car i).learned.door = .opened then b.park i false else b

/-- The Restoration Controller's stage of an accepted report (R27): placing, fault, run, doors, arrival, the evaluation these
cause, and last the mode comparison (R109). DESIGN CHOICE (assumption 33): a LANDED car whose report carries STARTING or RUNNING
and door OPEN parks in this stage, as R117 says of the door, where R118 says of the motion that it keeps its state. -/
def Block.restoreStage (b : Block) (i : CarIx) (res : BudgetResult) (was : ModeGroup) : Block :=
  let b1 := if (b.car i).state.unplaced then b.place i else b
  (((((b1.noteFault i).takeResult i res).parkIfOpen i).arrivalCheck i).takeEvaluation).modeComparison i was

/-- The Relay Unit's stage: an accepted report goes up unless its source is barred, the car's relay mode withholds it, or the
table does (R136). -/
def Block.relayReport (b : Block) (i : CarIx) (f : Frame) : Block :=
  if (b.conf i).relay = .forward ∨ (b.conf i).relay = .listen then b.relayUnder .c f b.reportCell else b

/-- An accepted report is learned and offered to the Budget Unit, the Restoration Controller and the Relay Unit in turn (R27). DESIGN
CHOICE (assumption 31): when the report ends the last commitment in MAINS_RETURN, the Restoration Controller's stage comes
before the change to NORMAL, for which this step only counts a report; R61 lets either be first. -/
def Block.acceptReport (b : Block) (i : CarIx) (node : Nat) (fields : List Byte) (f : Frame) : Block :=
  let b1 := b.learnReport i node fields
  let b2 := if (b.car i).learned.silent then b1.clearSilent i else b1
  let x := b2.budgetStage i
  ((x.1.restoreStage i x.2 (b.car i).learned.mode.group).relayReport i f).finish

/-- A report for a car is checked by relay mode and binding (R25, checks 3 to 5). -/
def Block.reportForCar (b : Block) (i : CarIx) (node : Nat) (fields : List Byte) (f : Frame) : Block :=
  if (b.conf i).relay = .disabled then b
  else
    match (b.car i).bound with
    | some n => if n = node then b.acceptReport i node fields f else (b.bindingConflict i node).finish
    | none => b.acceptReport i node fields f

/-- A car report is checked by source, car number and presence (R25, checks 1 and 2). -/
def Block.onCarReport (b : Block) (f : Frame) : Block :=
  let node := f.src.toNat
  if node < 1 ∨ 61 < node then b
  else
    match f.payload with
    | [] => b
    | car :: fields =>
      match carIx? car.toNat with
      | none => b.relayUnder .c f b.otherCell
      | some i =>
        if b.fallback = false ∧ (b.conf i).present = false then b.relayUnder .c f b.otherCell
        else b.reportForCar i node fields f

/-- CAR_REPORT (R27). -/
def execCarReport (s : State) : Host.Outcome State Fault Refusal :=
  .next { s with toBlock := s.toBlock.takeFrame .c (fun r => decide (r = .carReport)) Block.onCarReport }

/-- A car's report timer has expired: SILENT, its commitment held, a trigger, and the notice (R36, R65, R83). -/
def Block.becomeSilent (b : Block) (i : CarIx) : Block :=
  let b1 := b.modCar i (fun c => { c with learned := { c.learned with silent := true, reportTimer := none } })
  (((b1.holdSilent i).trigger).carNotice i (.failure .silent)).finish

/-- REPORT_TIMER_EXPIRY (R36). -/
def execReportTimerExpiry (i : CarIx) (s : State) : Host.Outcome State Fault Refusal :=
  if (s.toBlock.car i).learned.reportTimer.isSome then .next { s with toBlock := s.toBlock.becomeSilent i }
  else .next s

/-- A LANDED car's door timer has expired: it parks with the door alarm set (R117). -/
def Block.doorExpired (b : Block) (i : CarIx) : Block := (b.park i true).finish

/-- DOOR_TIMER_EXPIRY (R117). -/
def execDoorTimerExpiry (i : CarIx) (s : State) : Host.Outcome State Fault Refusal :=
  if (s.toBlock.car i).doorTimer.isSome ∧ (s.toBlock.car i).state = .landed then
    .next { s with toBlock := s.toBlock.doorExpired i }
  else .next s

/-! ### Bindings made from the configured part (R23, R35, R39) -/

/-- The binding the configured part makes: a present ASSIGNED car is bound to its assigned node (R23, R31, assumption 16). -/
def CarConf.binding (c : CarConf) : Option Nat :=
  if c.present ∧ c.bind = .assigned then some c.assigned else none

/-- The binding is re-made, every foreign-set membership removed, and the learned part set as after reset (R39). -/
def Car.rebind (c : Car) (conf : CarConf) : Car :=
  { c with learned := Learned.reset, bound := conf.binding, foreign := [] }

/-- The restoration record cleared for a car that a COMMIT makes UNHEARD or VACANT (R108). -/
def Car.clearRecord (c : Car) : Car :=
  { c with reason := .none, attempts := 0, order := none, doorAlarm := false, doorTimer := none, orderDeferred := false }

/-- What a COMMIT does to one car, by the first line of the table of R39 that applies. -/
inductive CommitEffect where
  | vacate
  | renew
  | enable
  | keep
deriving DecidableEq, Repr

/-- The line of the table of R39 that governs a car. -/
def commitEffect (old new : CarConf) : CommitEffect :=
  if old.present = true ∧ new.present = false then .vacate
  else if old.present = false ∧ new.present = true then .renew
  else if new.present = false then .keep
  else if old.relay ≠ .disabled ∧ new.relay = .disabled then .renew
  else if old.bind ≠ new.bind ∨ (new.bind = .assigned ∧ old.assigned ≠ new.assigned) then .renew
  else if old.relay = .disabled ∧ new.relay ≠ .disabled then .enable
  else .keep

/-- One car across a COMMIT; the new configured part is active already (R39, R108). -/
def Block.commitCar (old : Table) (b : Block) (i : CarIx) : Block :=
  match commitEffect (old.cars.get i) (b.conf i) with
  | .vacate => (b.modCar i (fun c => (c.rebind (b.conf i)).clearRecord)).move i .vacant
  | .renew => (b.modCar i (fun c => (c.rebind (b.conf i)).clearRecord)).move i .unheard
  | .enable => (b.modCar i Car.clearRecord).move i .unheard
  | .keep => b

/-- A conflict is cleared by RETRY_CAR: foreign-set memberships and first foreign node go, the binding is re-made (R35). -/
def Car.clearConflict (c : Car) (conf : CarConf) : Car :=
  { c with foreign := [], bound := conf.binding, learned := { c.learned with firstForeign := none } }

/-- RETRY_CAR for a FAILED or CONFLICT car (R35, R123). -/
def Block.retry (b : Block) (i : CarIx) : Block :=
  let b1 := if (b.car i).state = .conflict then b.modCar i (fun c => c.clearConflict (b.conf i)) else b
  let b2 := b1.modCar i (fun c =>
    { c with reason := .none, attempts := 0, doorAlarm := false, order := none, orderDeferred := false })
  if (b.car i).learned.heard = false then b2.move i .unheard
  else if b.plan.emergency = false then b2.move i .inGroup
  else if (b.car i).learned.mode.group ≠ .automatic then b2.move i (b.car i).learned.mode.group.state
  else if (b.conf i).cls = 0 then b2.move i .excluded
  else b2.orderRecall i

end Sys2Proof.Machine
end

