-- ==== Sys2Proof/Machine/Protocol.lean ====
section
/-! DEFINITION. The Car Protocol Unit (chapter 6): start requests, start cancels, repeated grants, the divert decision (R113);
the meanings of START_REQUEST, START_CANCEL, ORDER_RESEND_EXPIRY. -/

namespace Sys2Proof.Machine

/-- The refused refresh of an unfit request removes the car's entry, answered by the refusal alone (R51, R52, R78). -/
def Block.dropEntry (b : Block) (i : CarIx) : Block := if (b.entry? i).isSome then b.removeEntry i else b

/-- The landing of a divert from the learned position and the request's load; none when there is none (R113). -/
def divertLanding (l : Learned) (load : Load) (balance : Nat) : Option Nat :=
  if l.between = false then some l.landing
  else
    match load with
    | .unknown => none
    | .known n => if balance < n then some (l.landing + 1) else some l.landing

/-- The divert decision for a RECALL request refused REGEN (R113). DESIGN CHOICE (assumption 32): it is made for a LANDED car too,
which can send such a request when a later report of STOPPED has put it elsewhere; R94 and R113 do not speak of that car. -/
def Block.decideDivert (b : Block) (i : CarIx) (load : Load) : Block :=
  match divertLanding (b.car i).learned load (b.conf i).b with
  | none => b.fail i .regen
  | some p => ((b.setOrder i (some (.divert p))).move i .recallPending .none true).arrivalCheck i

/-- A request refused TOO_LARGE (R51, R93 check 13). -/
def Block.refuseTooLarge (b : Block) (src : Byte) (i : CarIx) (tag : Byte) (k : RunKind) : Block :=
  let b1 := (b.dropEntry i).refuse src i tag .tooLarge
  if k.watched then b1.fail i .tooLarge else b1

/-- A request refused REGEN (R52, R93 check 14). -/
def Block.refuseRegen (b : Block) (src : Byte) (i : CarIx) (tag : Byte) (k : RunKind) (load : Load) : Block :=
  let b1 := (b.dropEntry i).refuse src i tag .regen
  match k with
  | .recall => b1.decideDivert i load
  | .divert => b1.fail i .regen
  | _ => b1

/-- The entry a request makes (R75). -/
def Block.requestEntry (b : Block) (i : CarIx) (tag : Byte) (target : Nat) (load : Load) (k : RunKind) (d : Dir)
    (f : Figures) : Entry :=
  { car := i, kind := k, cls := b.effectiveClass i k, target := target, dir := d, load := load, fig := f, skip := 0,
    blocking := decide (b.active.plan.skipLimit = 0), tag := tag }

/-- A request joins the queue or refreshes the car's entry, the pass is made in the same step, and a wait carries the position
taken unless the car was granted (R75, R76, R97). -/
def Block.enqueue (b : Block) (src : Byte) (e : Entry) : Block :=
  let b1 := if (b.entry? e.car).isSome then b.refresh e.car e else b.join e
  let pos := queuePosition e.car b1.queue
  let b2 := b1.takeTrigger
  if (b2.commitment? e.car).isSome then b2
  else b2.sendCarOrLose src .startWait [byteOf (carNo e.car), e.tag, byteOf pos]

/-- Checks 13 to 15 of R93: the figures, the unfit-alone tests, the queue. -/
def Block.acceptRun (b : Block) (src : Byte) (i : CarIx) (tag : Byte) (target : Nat) (load : Load) (k : RunKind) (d : Dir) : Block :=
  let f := b.figuresRequested i load d
  if b.upperUnfit f then b.refuseTooLarge src i tag k
  else if b.lowerUnfit f then b.refuseRegen src i tag k load
  else b.enqueue src (b.requestEntry i tag target load k d f)

/-- A request refused by checks 10 to 12; after WRONG_TARGET a car in RECALL_PENDING or LANDED hears its order again (R93,
R95). -/
def Block.refuseTarget (b : Block) (src : Byte) (i : CarIx) (tag : Byte) (r : RefusalReason) : Block :=
  let b1 := b.refuse src i tag r
  if r = .wrongTarget ∧ (b.car i).state.reordered = true then b1.sendOrder i else b1

/-- Checks 10 to 15 of R93, for a car that holds no commitment. -/
def Block.judgeRun (b : Block) (src : Byte) (i : CarIx) (tag : Byte) (target : Nat) (load : Load) : Block :=
  match (b.car i).requestKind with
  | none => b
  | some k =>
    match b.targetRefusal i k target with
    | some r => b.refuseTarget src i tag r
    | none =>
      match runDir (b.car i).learned target with
      | none => b
      | some d => b.acceptRun src i tag target load k d

/-- A request is a repeat of a granted request (R96): `last` is the last request tag as it stood before it. -/
def Commitment.repeated (c : Commitment) (tag : Byte) (last : Option Byte) : Bool :=
  decide (c.phase = .granted) && decide (c.tag = some tag) && decide (last = some tag)

/-- Check 9 of R93: BUSY, or for a repeat the grant again with the window that is left (R96). -/
def Block.answerBusy (b : Block) (src : Byte) (i : CarIx) (tag : Byte) (c : Commitment) (last : Option Byte) : Block :=
  if c.repeated tag last then b.sendGrant i tag (c.grantTimer.getD 0) else b.refuse src i tag .busy

/-- The checks of R93 in turn. -/
def Block.judgeRequest (b : Block) (src : Byte) (i : CarIx) (tag : Byte) (target : Nat) (load : Load) (fromBound : Bool)
    (last : Option Byte) : Block :=
  match planRefusal b.plan with
  | some r => b.refuse src i tag r
  | none =>
    match stateRefusal (b.car i).state fromBound with
    | some r => b.refuse src i tag r
    | none =>
      match b.commitment? i with
      | some c => b.answerBusy src i tag c last
      | none => b.judgeRun src i tag target load

/-- A frame's source is the car's bound node (R32). -/
def Block.fromBound (b : Block) (i : CarIx) (src : Byte) : Bool := decide ((b.car i).bound = some src.toNat)

/-- A start request for a car: the last request tag is set if it comes from the bound node, and it is judged (R91, R93). -/
def Block.requestFor (b : Block) (src : Byte) (i : CarIx) (tag : Byte) (target : Nat) (load : Load) : Block :=
  let mine := b.fromBound i src
  let b1 := if mine then b.modCar i (fun c => { c with lastTag := some tag }) else b
  (b1.judgeRequest src i tag target load mine (b.car i).lastTag).finish

/-- The source of a start request or cancel is a car controller's address (R92). -/
def carSource (src : Byte) : Bool := decide (1 ≤ src.toNat) && decide (src.toNat ≤ 61)

/-- A start request is taken (R92). -/
def Block.onStartRequest (b : Block) (f : Frame) : Block :=
  match f.payload with
  | [car, tag, target, load] =>
    if carSource f.src then
      match carIx? car.toNat with
      | none => b
      | some i => b.requestFor f.src i tag target.toNat (Load.ofByte load)
    else b
  | _ => b

/-- START_REQUEST (R93). -/
def execStartRequest (s : State) : Host.Outcome State Fault Refusal :=
  .next { s with toBlock := s.toBlock.takeFrame .c (fun r => decide (r = .startRequest)) Block.onStartRequest }

/-- A cancel that meets the car's commitment (R63, R98). -/
def Block.cancelCommitment (b : Block) (src : Byte) (i : CarIx) (tag : Byte) (c : Commitment) : Block :=
  if c.phase = .granted ∧ c.tag = some tag then
    ((b.dropCommitment i).refuse src i tag .cancelled).takeEnd i c .cancelled
  else b.refuse src i tag .tooLate

/-- A cancel from a node that may send it (R98). -/
def Block.cancelRun (b : Block) (src : Byte) (i : CarIx) (tag : Byte) : Block :=
  match b.entry? i with
  | some e =>
    if e.tag = tag then (b.removeEntry i).refuse src i tag .cancelled else b.refuse src i tag .tooLate
  | none =>
    match b.commitment? i with
    | some c => b.cancelCommitment src i tag c
    | none => b.refuse src i tag .cancelled

/-- A start cancel for a car (R98). -/
def Block.cancelFor (b : Block) (src : Byte) (i : CarIx) (tag : Byte) : Block :=
  let mine := b.fromBound i src
  if (b.car i).state = .conflict ∧ mine = false then b.refuse src i tag .conflict
  else if mine = false ∨ (b.car i).state.unplaced = true then b.refuse src i tag .unknownCar
  else (b.cancelRun src i tag).finish

/-- A start cancel is taken (R92). -/
def Block.onStartCancel (b : Block) (f : Frame) : Block :=
  match f.payload with
  | [car, tag] =>
    if carSource f.src then
      match carIx? car.toNat with
      | none => b
      | some i => b.cancelFor f.src i tag
    else b
  | _ => b

/-- START_CANCEL (R98). -/
def execStartCancel (s : State) : Host.Outcome State Fault Refusal :=
  .next { s with toBlock := s.toBlock.takeFrame .c (fun r => decide (r = .startCancel)) Block.onStartCancel }

/-- ORDER_RESEND_EXPIRY (R101): the current order, or a skipped SERVE, is sent again. -/
def execOrderResendExpiry (i : CarIx) (s : State) : Host.Outcome State Fault Refusal :=
  if (s.toBlock.car i).resendTimer.isSome then .next { s with toBlock := (s.toBlock.sendOrder i).finish } else .next s

end Sys2Proof.Machine
end

