-- ==== Sys2Proof/Machine/Store.lean ====
section
/-! DEFINITION. The Plan Store's image (12.6, R159), the three kinds of reset, and the meanings of POWER_ON_RESET, RESET_N,
RESTART_RESET and IMAGE_LOAD_COMPLETE. -/

namespace Sys2Proof.Machine

/-! ### The image -/

/-- The key flags byte of an image (12.6); the other bits are written as 0 (assumption 13). -/
def keyFlags (maint comm : Option Key) : Byte := byteOf (bitOf maint.isSome 0 + bitOf comm.isSome 1)

/-- The four bytes of a stored key; zeros for an unset key (assumption 13). -/
def storedKey (k : Option Key) : List Byte := keyBytes (k.getD 0)

/-- The bytes of the sixteen car records, in car order (12.6). -/
def Table.carBytes (t : Table) : List Byte := (t.cars.toList.map CarConf.encode).flatten

/-- Bytes 0 to 228 of an image (12.6). -/
def imageBody (t : Table) (maint comm : Option Key) : List Byte :=
  keyFlags maint comm :: (storedKey maint ++ storedKey comm ++ t.plan.encode ++ t.carBytes)

/-- The image that a COMMIT writes: body, check word, image length (12.6, R158). -/
def encodeImage (t : Table) (maint comm : Option Key) : List Byte :=
  imageBody t maint comm ++ be16 (checkOf (imageBody t maint comm)).toNat ++ be16 Config.imageLength

/-- The image is blank: every byte holds the erased value (12.6). -/
def blankBytes (bytes : List Byte) : Bool := bytes.all (fun x => x == 0xFF)

/-- The length and the check word of an image are right (R159, 12.6). -/
def sealed (bytes : List Byte) : Bool :=
  decide (bytes.length = Config.imageLength) && decide (bytes.drop 231 = be16 Config.imageLength) &&
    decide ((bytes.drop 229).take 2 = be16 (checkOf (bytes.take 229)).toNat)

/-- What a valid image holds. -/
structure Loaded where
  table : Table
  maint : Option Key
  comm  : Option Key
deriving DecidableEq, Repr

/-- A stored key: in force when its flag is set, whatever its bytes hold otherwise (R159). -/
def readKey (flag : Bool) : List Byte → Option Key
  | [k0, k1, k2, k3] => if flag then some (keyOf k0 k1 k2 k3) else none
  | _ => none

/-- The car table of an image's car bytes; a record that is not there reads as the default record. -/
def readCarTable (bytes : List Byte) : Vector CarConf 16 :=
  Vector.ofFn (fun (i : CarIx) => (CarConf.decode ((bytes.drop (12 * i.val)).take 12)).getD CarConf.default)

/-- Every field of a loaded table lies in its range and its car records are consistent, each on its own and against the own node
address (R159, R157). -/
def Table.valid (t : Table) (mirrorByte : Byte) : Bool :=
  (t.plan.checks mirrorByte (t.claims t.plan.ownNode)).all id && allCars.all (fun i => (t.cars.get i).valid t.plan.ownNode)

/-- The contents of an image of the right length and check word, if every condition of R159 holds. -/
def readImage (bytes : List Byte) : Option Loaded :=
  match PlanRecord.decode ((bytes.drop 9).take 28) with
  | none => none
  | some (plan, mirrorByte) =>
    let t : Table := { cars := readCarTable (bytes.drop 37), plan := plan }
    let flags := bytes.headD 0
    if t.valid mirrorByte then
      some { table := t, maint := readKey (flags.getLsbD 0) ((bytes.drop 1).take 4),
             comm := readKey (flags.getLsbD 1) ((bytes.drop 5).take 4) }
    else none

/-- What the load of an image gives: its contents, or none for no valid image (R159). -/
def Image.load : Image → Option Loaded
  | .failing => none
  | .bytes x => if blankBytes x then none else if sealed x then readImage x else none

/-! ### Reset -/

/-- The image after a reset: a write or erase that runs is ended unfinished, and the image then fails its check (R160, R163). -/
def Mgmt.imageAfterReset (m : Mgmt) : Image := if m.busy then .failing else m.image

/-- Every block in its state after a reset, with the Management Unit as given; the levels at the pins are the outside's. -/
def Block.resetWith (b : Block) (m : Mgmt) : Block :=
  Block.afterReset b.xfer.pin b.gen.pin b.derate.pin b.gport.holdIn b.cport.holdIn m b.freeCount

/-- A power-on reset or a reset by RESET_N (R1, R161, R162). -/
def Block.hardReset (b : Block) : Block := b.resetWith (Mgmt.reset b.mgmt.imageAfterReset)

/-- A restart reset: the key attempt counter and the freeze are kept (R164). -/
def Block.restartReset (b : Block) : Block :=
  b.resetWith { Mgmt.reset b.mgmt.imageAfterReset with keyCounter := b.mgmt.keyCounter, frozen := b.mgmt.frozen }

/-- POWER_ON_RESET (R1). -/
def execPowerOnReset (s : State) : Host.Outcome State Fault Refusal := .next { s with toBlock := s.toBlock.hardReset }

/-- RESET_N (R1): acts as a power-on reset. -/
def execResetN (s : State) : Host.Outcome State Fault Refusal := .next { s with toBlock := s.toBlock.hardReset }

/-- RESTART_RESET (R164). -/
def execRestartReset (s : State) : Host.Outcome State Fault Refusal := .next { s with toBlock := s.toBlock.restartReset }

/-! ### The end of the load -/

/-- A car after the load: binding from its configured part, UNHEARD if present, VACANT if not (R23). -/
def Car.loaded (c : Car) (conf : CarConf) : Car :=
  { c with bound := conf.binding, state := if conf.present then .unheard else .vacant }

/-- The load has ended: active and pending table, mode and keys are set, A_eff is A or its derated part, the cars are bound, and
the adoption timer starts (R159, R156, R15, R23, R6). -/
def Block.endLoad (b : Block) (t pending : Table) (fallback : Bool) (maint comm : Option Key) : Block :=
  { b with
    active := t
    pendingTable := pending
    fallback := fallback
    mgmt := { b.mgmt with maintKey := maint, commKey := comm }
    aEff := effectiveAllowance t.plan b.derate.taken
    cars := Vector.ofFn (fun (i : CarIx) => (b.car i).loaded (t.cars.get i))
    adoptionTimer := some (t.plan.tGrant + t.plan.tSilent)
    loaded := true }

/-- The load ends with a valid image, or with none and in fallback mode (R159). -/
def Block.completeLoad (b : Block) : Block :=
  match b.mgmt.image.load with
  | some l => b.endLoad l.table l.table false l.maint l.comm
  | none => b.endLoad Table.fallbackTable Table.default true none none

/-- IMAGE_LOAD_COMPLETE (R159). -/
def execImageLoadComplete (s : State) : Host.Outcome State Fault Refusal :=
  if s.loaded then .next s else .next { s with toBlock := s.toBlock.completeLoad }

end Sys2Proof.Machine
end

