-- ==== Sys2Proof/Machine/Links.lean ====
section
/-! DEFINITION. The link ports (chapter 10): building and judging a frame, sending, hold-off, line fault and recovery; the meanings
of the port commands. -/

namespace Sys2Proof.Machine

/-- What becomes of the bytes of a frame at its ending gap (R145). -/
inductive Judged where
  | discarded (k : ErrKind)
  | good (f : Frame)
deriving DecidableEq, Repr

/-- Judgements 2 to 6 of R145 on the four bytes of the envelope's head and the bytes after them. -/
def judgeBody (dst src kind len : Byte) (more : List Byte) : Judged :=
  if 32 < len.toNat then .discarded .length
  else if more.length < len.toNat + 2 then .discarded .truncated
  else if len.toNat + 2 < more.length then .discarded .length
  else
    let f : Frame := { dst := dst, src := src, kind := kind, payload := more.take len.toNat }
    if more.drop len.toNat = be16 (checkOf f.body).toNat then .good f else .discarded .check

/-- A frame is judged (R145). -/
def judgeFrame : List Byte → Judged
  | dst :: src :: kind :: len :: more => judgeBody dst src kind len more
  | _ => .discarded .truncated

/-- A port disposes of the frame it has built (R145, R146). -/
def Port.endFrame (p : Port) : Judged → Port
  | .discarded k => ({ p with assembly := .empty }).record k
  | .good f => p.deliver f

/-- The ending gap of the frame being built, whose later bytes are `rest` (R145). -/
def Port.frameEnd (p : Port) (rest : List Byte) : Port :=
  match p.assembly with
  | .building bytes => p.endFrame (judgeFrame (bytes ++ rest))
  | _ => p

/-- FRAME_END (R145). -/
def execFrameEnd (p : PortId) (rest : List Byte) (s : State) : Host.Outcome State Fault Refusal :=
  .next { s with toBlock := s.toBlock.modPort p (fun q => q.frameEnd rest) }

/-- The port can receive: its line is UP and it is not sending (R145, R150). -/
def Port.canReceive (p : Port) : Bool := p.up && !p.sending

/-- The first byte of a frame reaches a port that can receive. With the buffer free the frame begins to be built (R145), also after
a place has freed for a waiting frame; a waiting frame is lost, with OVERRUN, and the new one is built in its place (R146). Any
other byte of a frame being built is none of its events (assumption 1). -/
def Port.beginFrame (p : Port) (x : Byte) : Port :=
  if p.canReceive then
    match p.assembly with
    | .empty => { p with assembly := .building [x] }
    | .waiting _ => ({ p with assembly := .building [x] }).updateHold.record .overrun
    | .building _ => p
  else p

/-- FIRST_BYTE_AFTER_IDLE_LINE (R145). -/
def execFirstByteAfterIdleLine (p : PortId) (x : Byte) (s : State) : Host.Outcome State Fault Refusal :=
  .next { s with toBlock := s.toBlock.modPort p (fun q => q.beginFrame x) }

/-- NEXT_FRAME_BEGINS (R146). -/
def execNextFrameBegins (p : PortId) (x : Byte) (s : State) : Host.Outcome State Fault Refusal :=
  .next { s with toBlock := s.toBlock.modPort p (fun q => q.beginFrame x) }

/-- HOLD_IN_CHANGE (R149). -/
def execHoldInChange (p : PortId) (v : Bool) (s : State) : Host.Outcome State Fault Refusal :=
  .next { s with toBlock := s.toBlock.modPort p (fun q => { q with holdIn := v }) }

/-- A frame is being received (R149). -/
def Port.receiving (p : Port) : Bool :=
  match p.assembly with
  | .building _ => true
  | _ => false

/-- The port can begin to send the head of its queue (R149). -/
def Port.canSend (p : Port) : Bool :=
  p.up && !p.holdIn && !p.sending && !p.receiving && decide (p.tx ≠ [])

/-- FRAME_SEND_START (R149). -/
def execFrameSendStart (p : PortId) (s : State) : Host.Outcome State Fault Refusal :=
  .next { s with toBlock := s.toBlock.modPort p (fun q => if q.canSend then { q with sending := true } else q) }

/-- The head frame has been sent: its place frees (R148). -/
def Port.sent (p : Port) : Port := { p with tx := p.tx.tail, sending := false }

/-- What a sent frame causes beyond its freed place: the restart reset after the answer to a RESTART (R164), the arbitration
trigger of an own place on the C-port (R83). -/
def Block.afterSent (b : Block) (p : PortId) (x : TxItem) : Block :=
  if x.restart then b.restartReset
  else if p = .c ∧ x.own = true then b.trigger.finish
  else b

/-- The frame being sent is complete (R148). -/
def Block.frameSent (b : Block) (p : PortId) : Block :=
  match (b.port p).tx with
  | [] => b
  | x :: _ => if (b.port p).sending then (b.modPort p Port.sent).afterSent p x else b

/-- FRAME_SENT (R148). -/
def execFrameSent (p : PortId) (s : State) : Host.Outcome State Fault Refusal :=
  .next { s with toBlock := s.toBlock.frameSent p }

/-- A port goes to FAULT: the frame being built is discarded, a waiting one kept, the transmit queue emptied (R150). -/
def Port.fault (p : Port) : Port :=
  ({ p with
    assembly := match p.assembly with | .building _ => .empty | a => a
    tx := []
    sending := false
    up := false }).record .lineFault

/-- A plan notice of the C-port's line, sent only once the image load has completed (R150). -/
def Block.lineNotice (b : Block) (r : NoticeReason) : Block := if b.loaded then b.planNotice r else b

/-- The answer to a RESTART stands in the G-port's queue (R164). -/
def Block.restartQueued (b : Block) : Bool := b.gport.tx.any (fun x => x.restart)

/-- A G-port fault: the waiting response parts are dropped, and a removed RESTART answer causes the restart reset (R154,
R164). -/
def Block.faultG (b : Block) : Block :=
  let b1 := b.modPort .g Port.fault
  if b.restartQueued then b1.restartReset else { b1 with mgmt := { b1.mgmt with response := [] } }

/-- A frame in a transmit queue is the SERVE order of a car (12.3). -/
def TxItem.isServe (x : TxItem) (i : CarIx) : Bool :=
  x.own && decide (x.frame.kind = FrameKind.carOrder.code) &&
    decide (x.frame.payload = [byteOf (carNo i), orderKindCode (some .serve), CarOrder.landingByte .serve])

/-- A SERVING car's SERVE order stands unsent in the C-port's queue (R101). -/
def Block.serveQueued (b : Block) (i : CarIx) : Bool :=
  decide ((b.car i).state = .serving) && b.cport.tx.any (fun x => x.isServe i)

/-- One car when the C-port's queue is removed: a SERVE order removed with it has not been sent, and the order-resend timer is to
try it again (R150, R101; DEDUCED, assumption 35). -/
def Block.loseServe (b : Block) (i : CarIx) : Block :=
  if b.serveQueued i then b.modCar i (fun c => { c with serveUnsent := true }) else b

/-- A C-port fault; the order-resend timers of lost SERVE orders are started where the step ends (R150, R101). -/
def Block.faultC (b : Block) : Block :=
  (((allCars.foldl Block.loseServe b).modPort .c Port.fault).lineNotice .linkFault).trigger.finish

/-- LINE_FAULT (R150). -/
def execLineFault (p : PortId) (s : State) : Host.Outcome State Fault Refusal :=
  if (s.toBlock.port p).up then
    .next { s with toBlock := match p with | .g => s.toBlock.faultG | .c => s.toBlock.faultC }
  else .next s

/-- A port returns to UP; at the C-port with the notice LINK_UP and a trigger (R150). -/
def Block.lineUp (b : Block) (p : PortId) : Block :=
  let b1 := b.modPort p (fun q => { q with up := true })
  match p with
  | .g => b1
  | .c => (b1.lineNotice .linkUp).trigger.finish

/-- LINE_UP (R150). -/
def execLineUp (p : PortId) (s : State) : Host.Outcome State Fault Refusal :=
  if (s.toBlock.port p).up then .next s else .next { s with toBlock := s.toBlock.lineUp p }

end Sys2Proof.Machine
end

