-- ==== Sys2Proof/Machine/Records.lean ====
section
/-! DEFINITION. The records that reads are answered with (12.5, R155): plan, car, queue, commitment and link records. -/

namespace Sys2Proof.Machine

/-- The record of READ_PLAN (12.5). -/
def Block.planRecord (b : Block) : List Byte :=
  [b.plan.code, b.planFlags] ++ be16 b.aEff ++ be32s b.sumUpper ++ be32s b.sumLower ++
    [byteOf b.commitments.length, (match b.slotHolder with | none => 0 | some i => byteOf (carNo i)), b.mgmt.level.code,
      byteOf b.mgmt.keyCounter, if b.mgmt.frozen then 1 else 0]

/-- The landing byte of an order in a READ_CARS record: for no order and for SERVE the spec gives no value, and it is a free
value (assumption 14). -/
def Block.orderByte (b : Block) : Option CarOrder → Block × Byte
  | some (.recall p) => (b, byteOf p)
  | some (.divert p) => (b, byteOf p)
  | _ => b.free

/-- The record of one car in READ_CARS (12.5, R40). -/
def Block.carRecord (b : Block) (i : CarIx) : Block × List Byte :=
  let c := b.car i
  let l := c.learned
  let x := b.orderByte c.order
  (x.1,
    byteOf (carNo i) :: ((b.conf i).encode ++
      [b.carFlags i, byteOf l.landing, l.motion.code, dirCode l.dir, l.door.code, l.load.code, l.mode.code, l.fault,
        l.ackMode.code, nodeOrNone c.bound, nodeOrNone l.firstForeign, c.state.code, c.reason.code, byteOf c.attempts,
        orderKindCode c.order, x.2]))

/-- The records of several cars, in order. -/
def Block.readCarRecords (b : Block) : List CarIx → Block × List (List Byte)
  | [] => (b, [])
  | i :: is =>
    let x := b.carRecord i
    let y := x.1.readCarRecords is
    (y.1, x.2 :: y.2)

/-- The record of one queue entry in READ_QUEUE (12.5, R89). -/
def Block.queueRecord (b : Block) (e : Entry) : List Byte :=
  [byteOf (queuePosition e.car b.queue), byteOf (carNo e.car), e.kind.code, byteOf e.cls, byteOf e.target,
    dirCode (some e.dir), e.load.code] ++ be16s e.fig.ds ++ be16s e.fig.dh ++ be16s e.fig.dl ++
    [byteOf e.skip, b.entryFlags e, e.tag]

/-- A timer in one byte: 255 when stopped (12.5). -/
def timerByte : Timer → Byte
  | none => 255
  | some n => byteOf n

/-- A timer in two bytes: 65535 when stopped (12.5). -/
def timerWord : Timer → List Byte
  | none => be16 65535
  | some n => be16 n

/-- The run timer in two bytes: 65535 stopped, 65534 expired (12.5). -/
def RunTimer.word : RunTimer → List Byte
  | .stopped => be16 65535
  | .expired => be16 65534
  | .running n => be16 n

/-- The grant tag byte: for a commitment with no tag the spec gives no value, and it is a free value (assumption 14). -/
def Block.tagByte (b : Block) : Option Byte → Block × Byte
  | some t => (b, t)
  | none => b.free

/-- The record of one commitment in READ_COMMITMENTS (12.5, R54). -/
def Block.commitmentRecord (b : Block) (c : Commitment) : Block × List Byte :=
  let x := b.tagByte c.tag
  (x.1,
    [byteOf (carNo c.car), c.kind.code, c.phase.code] ++ be16s c.fig.ds ++ be16s c.fig.dh ++ be16s c.fig.dl ++
      be16s c.upper ++ be16s c.lower ++ [nodeOrNone c.target, x.2, c.flags, timerByte c.grantTimer, timerByte c.accelTimer] ++
      c.runTimer.word ++ timerWord c.releaseTimer)

/-- The records of several commitments, in order. -/
def Block.commitmentRecords (b : Block) : List Commitment → Block × List (List Byte)
  | [] => (b, [])
  | c :: cs =>
    let x := b.commitmentRecord c
    let y := x.1.commitmentRecords cs
    (y.1, x.2 :: y.2)

/-- The record of READ_LINK (12.5, R151). -/
def Block.linkRecord (b : Block) : List Byte := [b.gport.errors.byte, b.cport.errors.byte]

/-- Both error summaries are cleared (R151). -/
def Block.clearSummaries (b : Block) : Block :=
  { b with gport := { b.gport with errors := ErrorSummary.empty }, cport := { b.cport with errors := ErrorSummary.empty } }

end Sys2Proof.Machine
end

