-- ==== Sys2Proof/Machine/Manage.lean ====
section
/-! DEFINITION. The Management Unit (chapter 11): the checks of R153, responses (R154), the effect of each request, the assembly of
request parts (R166); the meanings of the management commands and of the store's completions. -/

namespace Sys2Proof.Machine

/-! ### Responses (R154) -/

/-- The answer to a request: its response code and its records. -/
structure Reply where
  code    : RespCode
  records : List (List Byte)
deriving DecidableEq, Repr

/-- An answer with no record. -/
def Reply.plain (c : RespCode) : Reply := { code := c, records := [] }

/-- The answer BAD_FIELD with its field index and remaining count (12.5). -/
def Reply.badField (index remaining : Nat) : Reply :=
  { code := .badField, records := [[byteOf index, byteOf remaining]] }

/-- The part byte of part n, bit 7 set in the last part (12.4). -/
def partByte (n : Nat) (last : Bool) : Byte := byteOf (n + bitOf last 7)

/-- One response part (12.5). -/
def responseFrame (dst src : Byte) (kind : Byte) (code : RespCode) (part : Byte) (record : List Byte) : Frame :=
  { dst := dst, src := src, kind := FrameKind.mgmtResponse.code, payload := kind :: code.code :: part :: record }

/-- The parts that carry records, one each, numbered from n (R154). -/
def responseParts (dst src kind : Byte) (code : RespCode) : Nat → List (List Byte) → List Frame
  | _, [] => []
  | n, [r] => [responseFrame dst src kind code (partByte n true) r]
  | n, r :: rs => responseFrame dst src kind code (partByte n false) r :: responseParts dst src kind code (n + 1) rs

/-- All parts of an answer: a single part without a record where there is none (R154). -/
def Reply.parts (r : Reply) (dst src kind : Byte) : List Frame :=
  match r.records with
  | [] => [responseFrame dst src kind r.code (partByte 1 true) []]
  | rs => responseParts dst src kind r.code 1 rs

/-- A node as an address byte. -/
def nodeByte (n : Node) : Byte := byteOf n.val

/-- Change the Management Unit and Plan Store. -/
def Block.modMgmt (b : Block) (f : Mgmt → Mgmt) : Block := { b with mgmt := f b.mgmt }

/-- One waiting part is placed in the G-port's own share if there is room: an answer of the store first (R154). -/
def Block.placePart (b : Block) : Block :=
  match b.mgmt.storeAnswer, b.mgmt.response with
  | f :: rest, _ =>
    let r := b.placeOwn .g f
    if r.2 then r.1.modMgmt (fun m => { m with storeAnswer := rest }) else b
  | [], f :: rest =>
    let r := b.placeOwn .g f
    if r.2 then r.1.modMgmt (fun m => { m with response := rest }) else b
  | [], [] => b

/-- Place waiting parts, at most a given number. -/
def Block.placeParts : Nat → Block → Block
  | 0, b => b
  | n + 1, b => Block.placeParts n b.placePart

/-- Every waiting part that finds room is placed at once; the own share has eight places (R154, assumption 9). -/
def Block.placeAll (b : Block) : Block := Block.placeParts Config.ownPlaces b

/-- An answer is put behind the parts that wait, and placed as far as there is room (R154). -/
def Block.respond (b : Block) (dst : Node) (kind : Byte) (r : Reply) : Block :=
  (b.modMgmt (fun m => { m with response := m.response ++ r.parts (nodeByte dst) b.own kind })).placeAll

/-! ### The checks (R153) -/

/-- The level a request needs (R153). -/
def Request.level : Request → Level
  | .readPlan => .opened
  | .readCars _ _ => .opened
  | .readQueue => .opened
  | .readCommitments => .opened
  | .readLink => .opened
  | .writeCars _ _ _ => .commission
  | .writePlan _ => .commission
  | .commit => .commission
  | .discard => .commission
  | .select _ _ => .maintenance
  | .retryCar _ => .maintenance
  | .restart => .maintenance
  | .unlock _ _ => .opened
  | .lock => .opened
  | .setKey _ _ => .commission
  | .freeze => .commission
  | .wipePrepare => .commission
  | .wipe => .commission
  | .malformed _ => .opened

/-- The access levels in order (R161). -/
def Level.rank : Level → Nat
  | .opened => 0
  | .maintenance => 1
  | .commission => 2

/-- A malformed request (check 1). -/
def Request.isMalformed : Request → Bool
  | .malformed _ => true
  | _ => false

/-- SET_KEY, WIPE_PREPARE or WIPE (check 3). -/
def Request.freezable : Request → Bool
  | .setKey _ _ => true
  | .wipePrepare => true
  | .wipe => true
  | _ => false

/-- COMMIT, WIPE_PREPARE or WIPE (checks 4 and 5). -/
def Request.usesStore : Request → Bool
  | .commit => true
  | .wipePrepare => true
  | .wipe => true
  | _ => false

/-- Checks 1 to 6 of R153, with the prepare flag as it stood when the request was taken. -/
def Block.checkRequest (b : Block) (prepare : Bool) (r : Request) : Option RespCode :=
  if r.isMalformed then some .badRequest
  else if b.mgmt.level.rank < r.level.rank then some .level
  else if r.freezable && b.mgmt.frozen then some .frozen
  else if r.usesStore && decide (b.plan ≠ .normal) then some .planState
  else if r.usesStore && b.mgmt.busy then some .storeBusy
  else if decide (r = .wipe) && !prepare then some .noPrepare
  else none

/-! ### The effects of the requests -/

/-- READ_CARS (R155). -/
def Block.doReadCars (b : Block) (start count : Byte) : Block × Reply :=
  if start.toNat < 1 ∨ 16 < start.toNat then (b, Reply.plain .notFound)
  else if count.toNat < 1 ∨ 16 < count.toNat then (b, Reply.badField 2 0)
  else
    let x := b.readCarRecords ((allCars.drop (start.toNat - 1)).take count.toNat)
    (x.1, { code := .done, records := x.2 })

/-- READ_COMMITMENTS (R155). -/
def Block.doReadCommitments (b : Block) : Block × Reply :=
  let x := b.commitmentRecords b.commitments
  (x.1, { code := .done, records := x.2 })

/-- Car records are validated and written in turn, from a car upward; the first invalid one stops them (R157). Also the failing
car number and the count of records left. -/
def Table.writeCars (t : Table) : Nat → List (List Byte) → Table × Option (Nat × Nat)
  | _, [] => (t, none)
  | n, r :: rs =>
    match carIx? n, CarConf.decode r with
    | some i, some c =>
      if c.valid t.plan.ownNode then Table.writeCars { t with cars := t.cars.set i.val c i.isLt } (n + 1) rs
      else (t, some (n, rs.length + 1))
    | _, _ => (t, some (n, rs.length + 1))

/-- The pending record of a car number is marked absent. -/
def Table.absent (t : Table) (n : Nat) : Bool :=
  match carIx? n with
  | some i => !(t.cars.get i).present
  | none => false

/-- WRITE_CARS (R157). -/
def Block.doWriteCars (b : Block) (start count : Byte) (records : List Byte) : Block × Reply :=
  let s := start.toNat
  let n := count.toNat
  if s < 1 ∨ 16 < s ∨ n < 1 ∨ 16 < n ∨ 17 < s + n then (b, Reply.badField s n)
  else
    let w := b.pendingTable.writeCars s (carRecords n records)
    ({ b with pendingTable := w.1 },
      match w.2 with
      | some (car, left) => Reply.badField car left
      | none => Reply.plain (if b.pendingTable.absent s then .doneNew else .doneReplaced))

/-- WRITE_PLAN (R157). -/
def Block.doWritePlan (b : Block) (record : List Byte) : Block × Reply :=
  match PlanRecord.decode record with
  | none => (b, Reply.plain .badRequest)
  | some (p, mirrorByte) =>
    match firstFalse (p.checks mirrorByte (b.pendingTable.claims p.ownNode)) 1 with
    | some k => (b, Reply.badField k 0)
    | none => ({ b with pendingTable := { b.pendingTable with plan := p } }, Reply.plain .done)

/-- COMMIT (R158): the tables change, the store write begins, the cars are treated as R39 gives, A_eff is recomputed. The answer
waits for the store. -/
def Block.doCommit (b : Block) (src : Node) : Block :=
  let image := encodeImage b.pendingTable b.mgmt.maintKey b.mgmt.commKey
  let b1 := { b with active := b.pendingTable, fallback := false, mgmt := { b.mgmt with storeOp := .writing image src } }
  (allCars.foldl (Block.commitCar b.active) b1).recomputeAEff.finish

/-- DISCARD (R158): a copy of the active table, or the defaults in fallback mode. -/
def Block.doDiscard (b : Block) : Block × Reply :=
  ({ b with pendingTable := if b.fallback then Table.default else b.active }, Reply.plain .done)

/-- The cars of a list, each once, or the position of the first entry that names no car (R125, R164). -/
def selection : List Byte → Nat → List CarIx → Except Nat (List CarIx)
  | [], _, found => .ok found
  | x :: xs, n, found =>
    match carIx? x.toNat with
    | none => .error n
    | some i => selection xs (n + 1) (if found.contains i then found else found ++ [i])

/-- The manual selection is set or cleared, and in SERVICE an evaluation follows at once (R125, R131). -/
def Block.setManual (b : Block) (m : Option (List CarIx)) : Block :=
  (({ b with manual := m } : Block).tellRelayAll.raiseEvaluation).finish

/-- SELECT (R125, R164). -/
def Block.doSelect (b : Block) (form : Byte) (cars : List Byte) : Block × Reply :=
  if form = 0 then (b.setManual none, Reply.plain .done)
  else
    match selection cars 1 [] with
    | .error n => (b, Reply.badField n (cars.length + 1 - n))
    | .ok l => (b.setManual (some l), Reply.plain .done)

/-- RETRY_CAR (R164). -/
def Block.doRetryCar (b : Block) (car : Byte) : Block × Reply :=
  match carIx? car.toNat with
  | none => (b, Reply.plain .notFound)
  | some i =>
    if (b.car i).state = .failed ∨ (b.car i).state = .conflict then ((b.retry i).finish, Reply.plain .done)
    else (b, Reply.plain .notFound)

/-- The level a level byte names, MAINTENANCE or COMMISSION (R161, R167). -/
def keyLevel (x : Byte) : Option Level :=
  if x = 1 then some .maintenance else if x = 2 then some .commission else none

/-- A key is right for a level (R161). -/
def Mgmt.keyRight (m : Mgmt) : Level → Key → Bool
  | .maintenance, k => m.maintKey.isNone || decide (m.maintKey = some k) || decide (m.commKey = some k)
  | .commission, k => m.commKey.isNone || decide (m.commKey = some k)
  | .opened, _ => true

/-- UNLOCK (R161; LOCKOUT before BAD_FIELD, assumption 15). -/
def Block.doUnlock (b : Block) (level : Byte) (key : Key) : Block × Reply :=
  if b.mgmt.keyCounter = 0 then (b, Reply.plain .lockout)
  else
    match keyLevel level with
    | none => (b, Reply.badField 1 0)
    | some l =>
      if b.mgmt.keyRight l key then (b.modMgmt (fun m => { m with level := l }), Reply.plain .done)
      else (b.modMgmt (fun m => { m with keyCounter := m.keyCounter - 1 }), Reply.plain .level)

/-- LOCK (R161). -/
def Block.doLock (b : Block) : Block × Reply := (b.modMgmt (fun m => { m with level := .opened }), Reply.plain .done)

/-- SET_KEY (R162). -/
def Block.doSetKey (b : Block) (level : Byte) (key : Key) : Block × Reply :=
  match keyLevel level with
  | none => (b, Reply.badField 1 0)
  | some .maintenance => (b.modMgmt (fun m => { m with maintKey := some key }), Reply.plain .done)
  | some _ => (b.modMgmt (fun m => { m with commKey := some key }), Reply.plain .done)

/-- FREEZE (R162). -/
def Block.doFreeze (b : Block) : Block × Reply := (b.modMgmt (fun m => { m with frozen := true }), Reply.plain .done)

/-- WIPE_PREPARE (R163). -/
def Block.doWipePrepare (b : Block) : Block × Reply :=
  (b.modMgmt (fun m => { m with prepare := true }), Reply.plain .done)

/-- WIPE (R163): the erase begins and the pending table takes the defaults. The answer waits for the store. -/
def Block.doWipe (b : Block) (src : Node) : Block :=
  { b with pendingTable := Table.default, mgmt := { b.mgmt with storeOp := .erasing src } }

/-- RESTART (R164): its answer is placed with its mark, or the restart reset is taken at once if it cannot be placed. -/
def Block.doRestart (b : Block) (src : Node) : Block :=
  let b1 := b.placeAll
  let r := b1.placeOwn .g (responseFrame (nodeByte src) b.own Request.restart.kindByte .done (partByte 1 true) []) true
  if r.2 then r.1 else r.1.restartReset

/-- The effect of a request that has passed checks 1 to 6, check 7 included, and its answer. -/
def Block.perform (b : Block) (src : Node) (r : Request) : Block :=
  let answer := fun (x : Block × Reply) => x.1.respond src r.kindByte x.2
  match r with
  | .readPlan => answer (b, { code := .done, records := [b.planRecord] })
  | .readCars start count => answer (b.doReadCars start count)
  | .readQueue => answer (b, { code := .done, records := b.queue.map b.queueRecord })
  | .readCommitments => answer b.doReadCommitments
  | .readLink => answer (b.clearSummaries, { code := .done, records := [b.linkRecord] })
  | .writeCars start count records => answer (b.doWriteCars start count records)
  | .writePlan record => answer (b.doWritePlan record)
  | .commit => b.doCommit src
  | .discard => answer b.doDiscard
  | .select form cars => answer (b.doSelect form cars)
  | .retryCar car => answer (b.doRetryCar car)
  | .restart => b.doRestart src
  | .unlock level key => answer (b.doUnlock level key)
  | .lock => answer b.doLock
  | .setKey level key => answer (b.doSetKey level key)
  | .freeze => answer b.doFreeze
  | .wipePrepare => answer b.doWipePrepare
  | .wipe => b.doWipe src
  | .malformed _ => answer (b, Reply.plain .badRequest)

/-- What every request taken does first: waiting response parts are dropped, the idle timer restarts, the prepare flag is
cleared (R153, R154, R161, R163). -/
def Block.beginRequest (b : Block) : Block :=
  b.modMgmt (fun m =>
    { m with
      response := []
      idleTimer := some (b.active.plan.idleMinutes * Config.ticksPerMinute)
      prepare := false })

/-- A request is served: refused by the first check that applies, or performed (R153). -/
def Block.serveRequest (b : Block) (src : Node) (r : Request) : Block :=
  match b.checkRequest b.mgmt.prepare r with
  | some c => b.beginRequest.respond src r.kindByte (Reply.plain c)
  | none => b.beginRequest.perform src r

/-- A whole request is taken, once the image load has completed: the request buffer is empty after it, whatever was being assembled
there (R166, assumption 2), and it is served unless it came from node 63 (R153). DESIGN CHOICE (assumption 37): one from node 63 is
no request taken, and so restarts no idle timer, clears no prepare flag and drops no waiting part. -/
def Block.takeRequest (b : Block) (src : Node) (r : Request) : Block :=
  if b.loaded then
    let b1 := b.modMgmt (fun m => { m with request := none })
    if src.val = Config.broadcast then b1 else b1.serveRequest src r
  else b

/-- A request as a command. -/
def request (src : Node) (r : Request) (s : State) : Host.Outcome State Fault Refusal :=
  .next { s with toBlock := s.toBlock.takeRequest src r }

/-! ### The request commands -/

/-- READ_PLAN (R155). -/
def execReadPlan (src : Node) (s : State) : Host.Outcome State Fault Refusal := request src .readPlan s

/-- READ_CARS (R155). -/
def execReadCars (src : Node) (start count : Byte) (s : State) : Host.Outcome State Fault Refusal :=
  request src (.readCars start count) s

/-- READ_QUEUE (R155). -/
def execReadQueue (src : Node) (s : State) : Host.Outcome State Fault Refusal := request src .readQueue s

/-- READ_COMMITMENTS (R155). -/
def execReadCommitments (src : Node) (s : State) : Host.Outcome State Fault Refusal := request src .readCommitments s

/-- READ_LINK (R151). -/
def execReadLink (src : Node) (s : State) : Host.Outcome State Fault Refusal := request src .readLink s

/-- WRITE_CARS (R157). -/
def execWriteCars (src : Node) (start count : Byte) (records : List Byte) (s : State) : Host.Outcome State Fault Refusal :=
  request src (Request.ofWriteCars start count records) s

/-- WRITE_PLAN (R157). -/
def execWritePlan (src : Node) (record : List Byte) (s : State) : Host.Outcome State Fault Refusal :=
  request src (Request.ofWritePlan record) s

/-- COMMIT (R158). -/
def execCommit (src : Node) (s : State) : Host.Outcome State Fault Refusal := request src .commit s

/-- DISCARD (R158). -/
def execDiscard (src : Node) (s : State) : Host.Outcome State Fault Refusal := request src .discard s

/-- SELECT (R125). -/
def execSelect (src : Node) (form : Byte) (cars : List Byte) (s : State) : Host.Outcome State Fault Refusal :=
  request src (Request.ofSelect form cars) s

/-- RETRY_CAR (R164). -/
def execRetryCar (src : Node) (car : Byte) (s : State) : Host.Outcome State Fault Refusal := request src (.retryCar car) s

/-- RESTART (R164). -/
def execRestart (src : Node) (s : State) : Host.Outcome State Fault Refusal := request src .restart s

/-- UNLOCK (R161). -/
def execUnlock (src : Node) (level : Byte) (key : Key) (s : State) : Host.Outcome State Fault Refusal :=
  request src (.unlock level key) s

/-- LOCK (R161). -/
def execLock (src : Node) (s : State) : Host.Outcome State Fault Refusal := request src .lock s

/-- SET_KEY (R162). -/
def execSetKey (src : Node) (level : Byte) (key : Key) (s : State) : Host.Outcome State Fault Refusal :=
  request src (.setKey level key) s

/-- FREEZE (R162). -/
def execFreeze (src : Node) (s : State) : Host.Outcome State Fault Refusal := request src .freeze s

/-- WIPE_PREPARE (R163). -/
def execWipePrepare (src : Node) (s : State) : Host.Outcome State Fault Refusal := request src .wipePrepare s

/-- WIPE (R163). -/
def execWipe (src : Node) (s : State) : Host.Outcome State Fault Refusal := request src .wipe s

/-! ### Assembly of request parts (R166) -/

/-- An assembly error: the buffer is emptied and the sender is answered BAD_REQUEST, unless it is node 63 (R166, assumption
22). -/
def Block.assemblyError (b : Block) (src : Node) (held : List Byte) : Block :=
  let b1 := b.modMgmt (fun m => { m with request := none })
  if src.val = Config.broadcast then b1 else b1.respond src (held.headD 0) (Reply.plain .badRequest)

/-- A part has joined the request: the request is taken if it was the last, or waits for its next part (R166). -/
def Block.joined (b : Block) (src : Node) (n : Nat) (last : Bool) (data : List Byte) : Block :=
  if last then b.takeRequest src (Request.parse data)
  else b.modMgmt (fun m => { m with request := some { node := src, next := n + 1, data := data } })

/-- A request part with its number, last mark and data (R166). -/
def Block.takePart (b : Block) (src : Node) (n : Nat) (last : Bool) (data : List Byte) : Block :=
  if n = 1 then b.joined src 1 last data
  else
    match b.mgmt.request with
    | none => b
    | some r =>
      if r.node ≠ src then b
      else if n ≠ r.next ∨ Config.requestBuffer < r.data.length + data.length then b.assemblyError src r.data
      else b.joined src n last (r.data ++ data)

/-- A frame of kind 32 addressed to the part (R166); without a part byte it is discarded. -/
def Block.onRequestPart (b : Block) (f : Frame) : Block :=
  match f.payload with
  | [] => b
  | part :: data => b.takePart (Fin.ofNat 64 f.src.toNat) (part.toNat % 128) (part.getLsbD 7) data

/-- MANAGEMENT_REQUEST_PART (R166). -/
def execManagementRequestPart (s : State) : Host.Outcome State Fault Refusal :=
  .next { s with toBlock := s.toBlock.takeFrame .g (fun r => decide (r = .requestPart)) Block.onRequestPart }

/-! ### The idle timer and the store -/

/-- IDLE_TIMER_EXPIRY (R161). -/
def execIdleTimerExpiry (s : State) : Host.Outcome State Fault Refusal :=
  if s.mgmt.idleTimer.isSome then
    .next { s with toBlock := s.toBlock.modMgmt (fun m => { m with level := .opened, idleTimer := none }) }
  else .next s

/-- The store operation has ended: the image it leaves, busy clear, the single-part answer in its own place, placed as soon as
there is room (R160, R163, R154). -/
def Block.storeDone (b : Block) (image : Image) (requester : Node) (kind : Byte) (ok : Bool) : Block :=
  let f := responseFrame (nodeByte requester) b.own kind (if ok then .done else .storeFault) (partByte 1 true) []
  (b.modMgmt (fun m =>
    { m with image := image, storeOp := .idle, storeAnswer := m.storeAnswer ++ [f] })).placeAll

/-- The image a store write leaves: the new one, or one that fails its check (R160, assumption 12). -/
def writtenImage (image : List Byte) (matched : Bool) : Image := if matched then .bytes image else .failing

/-- STORE_WRITE_COMPLETE (R160). -/
def execStoreWriteComplete (matched : Bool) (s : State) : Host.Outcome State Fault Refusal :=
  match s.mgmt.storeOp with
  | .writing image src =>
    .next { s with
      toBlock := s.toBlock.storeDone (writtenImage image matched) src Request.commit.kindByte matched }
  | _ => .next s

/-- The image an erase leaves (R163, assumption 12). -/
def erasedImage (blank : Bool) : Image := if blank then Image.blank else .failing

/-- ERASE_COMPLETE (R163). -/
def execEraseComplete (blank : Bool) (s : State) : Host.Outcome State Fault Refusal :=
  match s.mgmt.storeOp with
  | .erasing src =>
    .next { s with toBlock := s.toBlock.storeDone (erasedImage blank) src Request.wipe.kindByte blank }
  | _ => .next s

/-- RESPONSE_PART_PLACED (R154): one waiting part is placed if there is room. -/
def execResponsePartPlaced (s : State) : Host.Outcome State Fault Refusal :=
  .next { s with toBlock := s.toBlock.placePart }

end Sys2Proof.Machine
end

