-- ==== Sys2Proof/Machine/Clock.lean ====
section
/-! DEFINITION. What the part does when no command waits (assumption 3): it takes its own outstanding work, the expiry of a timer
that has run out first, or 10 ms pass: the lines are sampled (R2), and every tenth sample is a tick of the timers (00, Units and
conventions). -/

namespace Sys2Proof.Machine

/-! ### The part's own outstanding work -/

/-- The command that takes a frame of this route from a port's FIFO (R134). -/
def takeCommand (p : PortId) : Route → Instr
  | .carReport => .carReport
  | .startRequest => .startRequest
  | .startCancel => .startCancel
  | .requestPart => .managementRequestPart
  | .dispatchOrder => .dispatchOrder
  | .discard => .relayedFrame p
  | .management => .relayedFrame p
  | .other => .relayedFrame p

/-- The frame at the head of a port's FIFO is taken, once the image load has completed (R146). -/
def Block.frameWork (b : Block) (p : PortId) : List Instr :=
  match b.loaded, (b.port p).rx with
  | true, f :: _ => [takeCommand p (b.route p f)]
  | _, _ => []

/-- A response part waits and finds room (R154). -/
def Block.partWork (b : Block) : List Instr :=
  if (decide (b.mgmt.storeAnswer ≠ []) || decide (b.mgmt.response ≠ [])) && b.gport.roomOwn then [.responsePartPlaced] else []

/-! ### Expiries -/

/-- The timer is running and has no tick left. -/
def Timer.out (t : Timer) : Bool := decide (t = some 0)

/-- A command, if a timer has run out. -/
def whenOut (t : Timer) (c : Instr) : List Instr := if Timer.out t then [c] else []

/-- The expiries of one car's timers. -/
def Block.carExpiries (b : Block) (i : CarIx) : List Instr :=
  whenOut (b.car i).learned.reportTimer (.reportTimerExpiry i) ++
    (match b.commitment? i with
     | none => []
     | some c =>
       whenOut c.grantTimer (.grantTimerExpiry i) ++ whenOut c.accelTimer (.accelerationTimerExpiry i) ++
         (if c.runTimer = .running 0 then [.runTimerExpiry i] else []) ++ whenOut c.releaseTimer (.silentReleaseExpiry i)) ++
    whenOut (b.car i).resendTimer (.orderResendExpiry i) ++ whenOut (b.car i).doorTimer (.doorTimerExpiry i)

/-- The expiries of the timers that have run out, in a fixed order (assumption 3). -/
def Block.expiries (b : Block) : List Instr :=
  whenOut b.transferTimer .transferSettleExpiry ++ whenOut b.adoptionTimer .adoptionExpiry ++
    whenOut b.modeTimer .modeRepeatExpiry ++ whenOut b.settleTimer .settleTimerExpiry ++
    (allCars.map b.carExpiries).flatten ++ whenOut b.mgmt.idleTimer .idleTimerExpiry

/-- What the part can do without the outside and without time: expiries, reports between its blocks, frames in its FIFOs, waiting
response parts. An idle step takes the first and no more, so a timer that one expiry starts again or stops gives no expiry after
it in the same tick (R16, assumption 3). -/
def Block.ownWork (b : Block) : List Instr :=
  b.expiries ++ (if 0 < b.recallReports then [.recallWorkEmpties] else []) ++
    (if 0 < b.listReports then [.commitmentListEmpties] else []) ++ b.frameWork .c ++ b.frameWork .g ++ b.partWork

/-! ### Line samples (R2) -/

/-- A sample is taken. -/
def Line.sample (l : Line) : Line := { l with last := some l.pin }

/-- The present sample agrees with the one before it on the level opposite to the taken one (R2). -/
def Line.changes (l : Line) : Bool := decide (l.last = some l.pin) && decide (l.pin ≠ l.taken)

/-- The line events of a sample of all three lines. DESIGN CHOICE (assumption 3): events of one sample are taken in the order
XFER_EMERG, GEN_READY, GEN_DERATE, and before the expiries of the same tick; the spec lets either be first. -/
def Block.lineEvents (b : Block) : List Instr :=
  (if b.xfer.changes then [if b.xfer.pin then .xferEmergTakenAsserted else .xferEmergTakenNegated] else []) ++
    (if b.gen.changes then [if b.gen.pin then .genReadyTakenAsserted else .genReadyTakenNegated] else []) ++
    (if b.derate.changes then [.genDerateTaken b.derate.pin] else [])

/-- The three lines are sampled. -/
def Block.sampleLines (b : Block) : Block :=
  { b with xfer := b.xfer.sample, gen := b.gen.sample, derate := b.derate.sample }

/-! ### Ticks -/

/-- A tick passes for a timer; a stopped timer does not run. -/
def Timer.tick (t : Timer) : Timer := t.map (fun n => n - 1)

/-- A tick passes for a run timer (R64). -/
def RunTimer.tick : RunTimer → RunTimer
  | .running n => .running (n - 1)
  | t => t

/-- A tick passes for a commitment's timers (R54). -/
def Commitment.tick (c : Commitment) : Commitment :=
  { c with grantTimer := Timer.tick c.grantTimer, accelTimer := Timer.tick c.accelTimer, runTimer := c.runTimer.tick,
           releaseTimer := Timer.tick c.releaseTimer }

/-- A tick passes for a car's timers. -/
def Car.tick (c : Car) : Car :=
  { c with learned := { c.learned with reportTimer := Timer.tick c.learned.reportTimer }
           doorTimer := Timer.tick c.doorTimer, resendTimer := Timer.tick c.resendTimer }

/-- A tick passes for every timer of the part. -/
def Block.tickTimers (b : Block) : Block :=
  { b with
    transferTimer := Timer.tick b.transferTimer, adoptionTimer := Timer.tick b.adoptionTimer,
    modeTimer := Timer.tick b.modeTimer, settleTimer := Timer.tick b.settleTimer, cars := b.cars.map Car.tick,
    commitments := b.commitments.map Commitment.tick,
    mgmt := { b.mgmt with idleTimer := Timer.tick b.mgmt.idleTimer } }

/-- 10 ms pass: the lines are sampled, and the tenth sample is a tick, in which the timers run. -/
def State.sample (s : State) : State :=
  let s1 : State := { s with toBlock := s.toBlock.sampleLines, pending := s.pending ++ s.toBlock.lineEvents }
  if s.subTick + 1 < Config.samplesPerTick then { s1 with subTick := s.subTick + 1 }
  else { s1 with toBlock := { s1.toBlock.tickTimers with subTick := 0 } }

/-- What happens when no command waits (assumption 3). -/
def State.idle (s : State) : State :=
  match s.toBlock.ownWork with
  | [] => s.sample
  | c :: _ => { s with pending := [c] }

end Sys2Proof.Machine
end

