-- ==== Sys2Proof/Machine/Dispatch.lean ====
section
/-! DEFINITION. One arm for each command. -/

namespace Sys2Proof.Machine

def exec (i : Instr) (s : State) : Host.Outcome State Fault Refusal :=
  match i with
  | .powerOnReset => Sys2Proof.Machine.execPowerOnReset s
  | .resetN => Sys2Proof.Machine.execResetN s
  | .restartReset => Sys2Proof.Machine.execRestartReset s
  | .imageLoadComplete => Sys2Proof.Machine.execImageLoadComplete s
  | .xferEmergTakenAsserted => Sys2Proof.Machine.execXferEmergTakenAsserted s
  | .xferEmergTakenNegated => Sys2Proof.Machine.execXferEmergTakenNegated s
  | .genReadyTakenAsserted => Sys2Proof.Machine.execGenReadyTakenAsserted s
  | .genReadyTakenNegated => Sys2Proof.Machine.execGenReadyTakenNegated s
  | .genDerateTaken asserted => Sys2Proof.Machine.execGenDerateTaken asserted s
  | .transferSettleExpiry => Sys2Proof.Machine.execTransferSettleExpiry s
  | .adoptionExpiry => Sys2Proof.Machine.execAdoptionExpiry s
  | .modeRepeatExpiry => Sys2Proof.Machine.execModeRepeatExpiry s
  | .recallWorkEmpties => Sys2Proof.Machine.execRecallWorkEmpties s
  | .commitmentListEmpties => Sys2Proof.Machine.execCommitmentListEmpties s
  | .carReport => Sys2Proof.Machine.execCarReport s
  | .reportTimerExpiry car => Sys2Proof.Machine.execReportTimerExpiry car s
  | .startRequest => Sys2Proof.Machine.execStartRequest s
  | .startCancel => Sys2Proof.Machine.execStartCancel s
  | .grantTimerExpiry car => Sys2Proof.Machine.execGrantTimerExpiry car s
  | .accelerationTimerExpiry car => Sys2Proof.Machine.execAccelerationTimerExpiry car s
  | .runTimerExpiry car => Sys2Proof.Machine.execRunTimerExpiry car s
  | .silentReleaseExpiry car => Sys2Proof.Machine.execSilentReleaseExpiry car s
  | .settleTimerExpiry => Sys2Proof.Machine.execSettleTimerExpiry s
  | .orderResendExpiry car => Sys2Proof.Machine.execOrderResendExpiry car s
  | .doorTimerExpiry car => Sys2Proof.Machine.execDoorTimerExpiry car s
  | .dispatchOrder => Sys2Proof.Machine.execDispatchOrder s
  | .relayedFrame port => Sys2Proof.Machine.execRelayedFrame port s
  | .frameEnd port rest => Sys2Proof.Machine.execFrameEnd port rest s
  | .nextFrameBegins port first => Sys2Proof.Machine.execNextFrameBegins port first s
  | .holdInChange port asserted => Sys2Proof.Machine.execHoldInChange port asserted s
  | .frameSendStart port => Sys2Proof.Machine.execFrameSendStart port s
  | .frameSent port => Sys2Proof.Machine.execFrameSent port s
  | .lineFault port => Sys2Proof.Machine.execLineFault port s
  | .lineUp port => Sys2Proof.Machine.execLineUp port s
  | .managementRequestPart => Sys2Proof.Machine.execManagementRequestPart s
  | .readPlan src => Sys2Proof.Machine.execReadPlan src s
  | .readCars src start count => Sys2Proof.Machine.execReadCars src start count s
  | .readQueue src => Sys2Proof.Machine.execReadQueue src s
  | .readCommitments src => Sys2Proof.Machine.execReadCommitments src s
  | .readLink src => Sys2Proof.Machine.execReadLink src s
  | .writeCars src start count records => Sys2Proof.Machine.execWriteCars src start count records s
  | .writePlan src record => Sys2Proof.Machine.execWritePlan src record s
  | .commit src => Sys2Proof.Machine.execCommit src s
  | .discard src => Sys2Proof.Machine.execDiscard src s
  | .select src form cars => Sys2Proof.Machine.execSelect src form cars s
  | .retryCar src car => Sys2Proof.Machine.execRetryCar src car s
  | .restart src => Sys2Proof.Machine.execRestart src s
  | .unlock src level key => Sys2Proof.Machine.execUnlock src level key s
  | .lock src => Sys2Proof.Machine.execLock src s
  | .setKey src level key => Sys2Proof.Machine.execSetKey src level key s
  | .freeze src => Sys2Proof.Machine.execFreeze src s
  | .wipePrepare src => Sys2Proof.Machine.execWipePrepare src s
  | .wipe src => Sys2Proof.Machine.execWipe src s
  | .idleTimerExpiry => Sys2Proof.Machine.execIdleTimerExpiry s
  | .storeWriteComplete matched => Sys2Proof.Machine.execStoreWriteComplete matched s
  | .eraseComplete blank => Sys2Proof.Machine.execEraseComplete blank s
  | .responsePartPlaced => Sys2Proof.Machine.execResponsePartPlaced s
  | .firstByteAfterIdleLine port first => Sys2Proof.Machine.execFirstByteAfterIdleLine port first s

end Sys2Proof.Machine
end

