-- ==== Sys2Proof/WellFormed.lean ====
section
/-! DEFINITION. Which commands can be sent at all. Ports, nodes and cars carry their ranges in their types; what is left is the
data of the three requests of varying length, which has to fit the 248 bytes of the request buffer (R166). -/

namespace Sys2Proof

/-- The command can reach the part: its request data, the request kind byte included, fits the request buffer (R166). -/
def Instr.wellFormed : Instr → Bool
  | .powerOnReset => true
  | .resetN => true
  | .restartReset => true
  | .imageLoadComplete => true
  | .xferEmergTakenAsserted => true
  | .xferEmergTakenNegated => true
  | .genReadyTakenAsserted => true
  | .genReadyTakenNegated => true
  | .genDerateTaken _ => true
  | .transferSettleExpiry => true
  | .adoptionExpiry => true
  | .modeRepeatExpiry => true
  | .recallWorkEmpties => true
  | .commitmentListEmpties => true
  | .carReport => true
  | .reportTimerExpiry _ => true
  | .startRequest => true
  | .startCancel => true
  | .grantTimerExpiry _ => true
  | .accelerationTimerExpiry _ => true
  | .runTimerExpiry _ => true
  | .silentReleaseExpiry _ => true
  | .settleTimerExpiry => true
  | .orderResendExpiry _ => true
  | .doorTimerExpiry _ => true
  | .dispatchOrder => true
  | .relayedFrame _ => true
  | .frameEnd _ _ => true
  | .nextFrameBegins _ _ => true
  | .holdInChange _ _ => true
  | .frameSendStart _ => true
  | .frameSent _ => true
  | .lineFault _ => true
  | .lineUp _ => true
  | .managementRequestPart => true
  | .readPlan _ => true
  | .readCars _ _ _ => true
  | .readQueue _ => true
  | .readCommitments _ => true
  | .readLink _ => true
  | .writeCars _ _ _ records => decide (records.length + 3 ≤ Config.requestBuffer)
  | .writePlan _ record => decide (record.length + 1 ≤ Config.requestBuffer)
  | .commit _ => true
  | .discard _ => true
  | .select _ _ cars => decide (cars.length + 2 ≤ Config.requestBuffer)
  | .retryCar _ _ => true
  | .restart _ => true
  | .unlock _ _ _ => true
  | .lock _ => true
  | .setKey _ _ _ => true
  | .freeze _ => true
  | .wipePrepare _ => true
  | .wipe _ => true
  | .idleTimerExpiry => true
  | .storeWriteComplete _ => true
  | .eraseComplete _ => true
  | .responsePartPlaced => true
  | .firstByteAfterIdleLine _ _ => true

end Sys2Proof
end

