-- ==== Sys2Proof/Safety.lean ====
section
/-! DEFINITION. What counts as a sound state (the invariants that every step keeps), and the frames that statements speak of: which
fields of the part an effect leaves as they were. -/

namespace Sys2Proof.Machine

/-! ### Invariants -/

/-- A port is in order: FIFO and shares within their sizes, a waiting frame only before a full FIFO (R146, R148), nothing queued or
sent while in FAULT (R150), and the hold-off output as the held frames say (R147). -/
structure Port.Ok (p : Port) : Prop where
  fifo    : p.rx.length ≤ Config.fifoDepth
  waiting : ∀ f, p.assembly = .waiting f → p.rx.length = Config.fifoDepth
  own     : p.ownCount ≤ Config.ownPlaces
  relayed : p.relayedCount ≤ Config.relayedPlaces
  fault   : p.up = false → p.tx = [] ∧ p.sending = false
  sending : p.sending = true → p.tx ≠ []
  holdHigh : Config.holdOffHigh ≤ p.held → p.holdOut = true
  holdLow  : p.held ≤ Config.holdOffLow → p.holdOut = false

/-- Both ports are in order. -/
def Block.PortsOk (b : Block) : Prop := b.gport.Ok ∧ b.cport.Ok

/-- The cars of a queue, in queue order. -/
def queueCars (q : List Entry) : List CarIx := q.map (fun e => e.car)

/-- The cars of a commitment list, in list order. -/
def listCars (l : List Commitment) : List CarIx := l.map (fun c => c.car)

/-- The start slot has at most one holder (R57, R80). -/
def oneHolder (l : List Commitment) : Prop := (l.filter (fun c => c.holdsSlot)).length ≤ 1

/-- A queue is in order of effective class, highest first (R74). -/
def queueSorted (q : List Entry) : Prop := q.Pairwise (fun x y => y.cls ≤ x.cls)

/-- The budget is in order: one commitment for a car (R54), one entry for a car (R72), no car with both, one holder of the start
slot (R57), the queue in order of effective class (R74). -/
structure Block.BudgetOk (b : Block) : Prop where
  listOnce  : (listCars b.commitments).Nodup
  queueOnce : (queueCars b.queue).Nodup
  apart     : ∀ i, i ∈ queueCars b.queue → i ∉ listCars b.commitments
  slot      : oneHolder b.commitments
  order     : queueSorted b.queue

/-- No work of the step is left over: no arbitration trigger and no evaluation event waits (the model's own marks, assumptions 6
and 7). -/
def Block.Settled (b : Block) : Prop := b.arbDue = false ∧ b.evalDue = false

/-! ### Frames -/

/-- What a sending leaves of a port: everything but the transmit queue, which only grows behind and within its shares, and the
error summary. -/
structure Port.Sends (p p' : Port) : Prop where
  rx       : p'.rx = p.rx
  assembly : p'.assembly = p.assembly
  holdOut  : p'.holdOut = p.holdOut
  holdIn   : p'.holdIn = p.holdIn
  sending  : p'.sending = p.sending
  up       : p'.up = p.up
  grows    : ∃ l, p'.tx = p.tx ++ l
  faulty   : p.up = false → p'.tx = p.tx
  own      : p.ownCount ≤ Config.ownPlaces → p'.ownCount ≤ Config.ownPlaces
  relayed  : p.relayedCount ≤ Config.relayedPlaces → p'.relayedCount ≤ Config.relayedPlaces

/-- What is known of a car stays: the learned part, the binding, the foreign set, the last request tag. -/
structure Car.SameKnown (c c' : Car) : Prop where
  learned : c'.learned = c.learned
  bound   : c'.bound = c.bound
  foreign : c'.foreign = c.foreign
  lastTag : c'.lastTag = c.lastTag

/-- Two car records agree but for the marks of the order's sending and the held-order slot. -/
structure Car.SameButMarks (c c' : Car) : Prop where
  learned   : c'.learned = c.learned
  bound     : c'.bound = c.bound
  foreign   : c'.foreign = c.foreign
  state     : c'.state = c.state
  reason    : c'.reason = c.reason
  attempts  : c'.attempts = c.attempts
  order     : c'.order = c.order
  doorTimer : c'.doorTimer = c.doorTimer
  doorAlarm : c'.doorAlarm = c.doorAlarm
  faultSeen : c'.faultSeen = c.faultSeen
  selected  : c'.selected = c.selected
  lastTag   : c'.lastTag = c.lastTag

/-- What a queue keeps when entries only leave it, change their class or are refreshed: one entry for a car, and no new car. -/
def QueueShrinks (q q' : List Entry) : Prop :=
  (∀ i, i ∈ queueCars q' → i ∈ queueCars q) ∧ ((queueCars q).Nodup → (queueCars q').Nodup) ∧ (queueSorted q → queueSorted q')

/-- Everything outside the reach of a plan change: the lines, the settling of the generator, the adoption timer, A_eff, both tables,
the Management Unit and Plan Store, what is known of the cars; the ports only send. -/
structure Block.KeepsBase (b b' : Block) : Prop where
  xfer          : b'.xfer = b.xfer
  gen           : b'.gen = b.gen
  derate        : b'.derate = b.derate
  transferTimer : b'.transferTimer = b.transferTimer
  genSettled    : b'.genSettled = b.genSettled
  adoptionTimer : b'.adoptionTimer = b.adoptionTimer
  aEff          : b'.aEff = b.aEff
  active        : b'.active = b.active
  fallback      : b'.fallback = b.fallback
  pendingTable  : b'.pendingTable = b.pendingTable
  loaded        : b'.loaded = b.loaded
  mgmt          : b'.mgmt = b.mgmt
  subTick       : b'.subTick = b.subTick
  gport         : b.gport.Sends b'.gport
  cport         : b.cport.Sends b'.cport
  known         : ∀ i, (b.car i).SameKnown (b'.car i)

/-- Everything outside the reach of an arbitration pass: as before, and the plan with its own state, the settle timer, the manual
selection, the report of an empty list; entries only leave the queue. -/
structure Block.KeepsPlan (b b' : Block) : Prop extends Block.KeepsBase b b' where
  plan        : b'.plan = b.plan
  modeTimer   : b'.modeTimer = b.modeTimer
  listReports : b'.listReports = b.listReports
  settleTimer : b'.settleTimer = b.settleTimer
  manual      : b'.manual = b.manual
  queue       : QueueShrinks b.queue b'.queue

/-- Everything outside the reach of moves of cars: as before, and the commitment list. -/
structure Block.KeepsBudget (b b' : Block) : Prop extends Block.KeepsPlan b b' where
  commitments : b'.commitments = b.commitments

/-- Everything but the transmit queues, the error summaries and the free-value counter. -/
structure Block.OnlySends (b b' : Block) : Prop extends Block.KeepsBudget b b' where
  sameQueue     : b'.queue = b.queue
  cars          : b'.cars = b.cars
  recallReports : b'.recallReports = b.recallReports
  arbDue        : b'.arbDue = b.arbDue
  evalDue       : b'.evalDue = b.evalDue

/-! ### The words statements are made of -/

/-- A command answers a next state, and the state has a property. -/
def Completes (c : Instr) (s : State) (P : State → Prop) : Prop := ∃ t, exec c s = .next t ∧ P t

/-- An own frame in a transmit queue. -/
def ownItem (f : Frame) : TxItem := { own := true, frame := f, restart := false }

/-- A relayed frame in a transmit queue. -/
def relayedItem (f : Frame) : TxItem := { own := false, frame := f, restart := false }

/-- A port to whose relayed share a frame has been offered: placed, or discarded with TX_DISCARD (R148). -/
def Port.offered (p : Port) (f : Frame) : Port :=
  if p.roomRelayed then { p with tx := p.tx ++ [relayedItem f] } else { p with errors := { p.errors with txDiscard := true } }

/-- The G-port after an order notice for an order from this node: none goes to node 63, and one without room is lost with
NOTICE_LOST (R142). -/
def Port.noticed (p : Port) (src : Byte) (x : TxItem) : Port :=
  if src = 63 then p
  else if p.roomOwn then { p with tx := p.tx ++ [x] }
  else { p with errors := { p.errors with noticeLost := true } }

/-- One of the part's own frames. -/
def Block.ownFrame (b : Block) (dst : Byte) (k : FrameKind) (payload : List Byte) : Frame :=
  { dst := dst, src := b.own, kind := k.code, payload := payload }

/-- The state of every block after a reset (the chapters' after-reset rules), but for the key attempt counter and the freeze. -/
structure Block.IsReset (b b' : Block) : Prop where
  plan     : b'.plan = .adopt
  xfer     : b'.xfer = { pin := b.xfer.pin, last := none, taken := false }
  gen      : b'.gen = { pin := b.gen.pin, last := none, taken := false }
  derate   : b'.derate = { pin := b.derate.pin, last := none, taken := false }
  timers   : b'.transferTimer = none ∧ b'.adoptionTimer = none ∧ b'.modeTimer = none ∧ b'.settleTimer = none
  settled  : b'.genSettled = false
  loading  : b'.loaded = false
  learned  : ∀ i, (b'.car i).learned =
    { heard := false, landing := 0, between := false, motion := .stopped, dir := none, door := .closed, load := .unknown,
      mode := .automatic, fault := 0, ackMode := .normal, silent := false, reportTimer := none, firstForeign := none }
  nodes    : (∀ i, (b'.car i).foreign = []) ∧ ∀ n, b'.barred n = false
  record   : ∀ i, (b'.car i).reason = .none ∧ (b'.car i).attempts = 0 ∧ (b'.car i).order = none ∧
    (b'.car i).doorTimer = none ∧ (b'.car i).doorAlarm = false ∧ (b'.car i).faultSeen = false ∧ (b'.car i).selected = false
  protocol : ∀ i, (b'.car i).resendTimer = none ∧ (b'.car i).lastTag = none ∧ (b'.car i).slot = .closed
  budget   : b'.commitments = [] ∧ b'.queue = [] ∧ b'.slotHolder = none
  manual   : b'.manual = none
  gport    : b'.gport = { rx := [], assembly := .empty, holdOut := false, holdIn := b.gport.holdIn, tx := [], sending := false,
                          up := true, errors := ErrorSummary.empty }
  cport    : b'.cport = { rx := [], assembly := .empty, holdOut := false, holdIn := b.cport.holdIn, tx := [], sending := false,
                          up := true, errors := ErrorSummary.empty }
  mgmt     : b'.mgmt.level = .opened ∧ b'.mgmt.prepare = false ∧ b'.mgmt.idleTimer = none ∧ b'.mgmt.request = none ∧
    b'.mgmt.response = [] ∧ b'.mgmt.storeAnswer = [] ∧ b'.mgmt.busy = false
  image    : b'.mgmt.image.load = if b.mgmt.busy then none else b.mgmt.image.load
  outputs  : b'.emergActive = false ∧ b'.allRecalled = false

/-- A frame at the head of a port's FIFO can be taken, and is taken by the block the route names. -/
def State.Takes (s : State) (p : PortId) (f : Frame) (r : Route) : Prop :=
  s.loaded = true ∧ (∃ rest, (s.toBlock.port p).rx = f :: rest) ∧ s.toBlock.route p f = r

/-- The Management Unit and Plan Store once a request has been taken: waiting response parts dropped, the idle timer started
afresh, the prepare flag cleared, the request buffer empty (R153, R154, R161, R163, R166). -/
def State.begun (s : State) : Mgmt :=
  { s.mgmt with
    response := [], idleTimer := some (s.active.plan.idleMinutes * 600), prepare := false, request := none }

/-- A request from this node is taken, and its answer finds room at once. -/
def State.Ready (s : State) (src : Node) : Prop :=
  s.loaded = true ∧ src.val ≠ 63 ∧ s.gport.roomOwn = true ∧ s.mgmt.storeAnswer = []

/-- The level held is enough for a request that needs this one (R153, R161). -/
def State.Allowed (s : State) (l : Level) : Prop := l.rank ≤ s.mgmt.level.rank

/-- A single-part answer as it stands in the G-port's queue (12.5). -/
def State.answer (s : State) (src : Node) (kind : Byte) (code : RespCode) (record : List Byte) : TxItem :=
  ownItem (s.toBlock.ownFrame (byteOf src.val) .mgmtResponse (kind :: code.code :: 0x81 :: record))

/-- The G-port with one more frame in its queue. -/
def State.gportWith (s : State) (x : TxItem) : Port := { s.gport with tx := s.gport.tx ++ [x] }

/-- The state a car of IN_GROUP has once the plan has left NORMAL or ADOPT for TRANSFER_WAIT (R7, R107). -/
def stoodState (b : Block) (i : CarIx) : RState :=
  match (b.car i).learned.mode with
  | .firefighter => .firefighter
  | .automatic => if (b.conf i).cls = 0 then .excluded else .standing
  | _ => .heldOut

/-- The state of a car once its commitment has been voided (R8, R116, R120). -/
def lostState (limit : Nat) (c : Car) : RState :=
  match c.state with
  | .recalling => if c.attempts + 1 < limit then .recallPending else .failed
  | .diverting => if c.attempts + 1 < limit then .recallPending else .failed
  | .landed => .recallPending
  | st => st

/-- What R14 leaves of a car on entry into NORMAL. -/
def Car.Cleared (c : Car) (c' : Car) : Prop :=
  c'.state = (match c.state with
    | .vacant => .vacant
    | .unheard => .unheard
    | .conflict => .conflict
    | _ => .inGroup) ∧
  c'.reason = .none ∧ c'.attempts = 0 ∧ c'.order = none ∧ c'.doorTimer = none ∧ c'.doorAlarm = false ∧
  c'.selected = false ∧ c'.resendTimer = none ∧ c.SameKnown c'

/-- The report of a car: ten payload bytes, car number first (12.3). -/
def reportFrame (dst src : Byte) (i : CarIx) (landing between motion dir door load mode fault ack : Byte) : Frame :=
  { dst := dst, src := src, kind := 1,
    payload := [byteOf (carNo i), landing, between, motion, dir, door, load, mode, fault, ack] }

/-- The conditions under which checks 1 to 4 of R25 pass for a report of a car from a node. -/
def State.HearsReport (s : State) (i : CarIx) (src : Byte) : Prop :=
  1 ≤ src.toNat ∧ src.toNat ≤ 61 ∧ (s.fallback = true ∨ (s.toBlock.conf i).present = true) ∧
    (s.toBlock.conf i).relay ≠ .disabled

/-- A commitment held for silence (R65). -/
def heldForSilence (i : CarIx) (tRelease : Nat) (c : Commitment) : Commitment :=
  if c.car = i then { c with silentHold := true, releaseTimer := some tRelease } else c

/-- A commitment whose acceleration timer has expired (R60). -/
def slowStarted (i : CarIx) (c : Commitment) : Commitment :=
  if c.car = i then { c with phase := .running, slowStart := true, accelTimer := none } else c

/-- A commitment whose run timer has expired (R64). -/
def ranOut (i : CarIx) (c : Commitment) : Commitment :=
  if c.car = i then { c with runTimer := .expired } else c

/-- A start request as a frame (12.3). -/
def requestFrame (dst src : Byte) (i : CarIx) (tag target load : Byte) : Frame :=
  { dst := dst, src := src, kind := 2, payload := [byteOf (carNo i), tag, target, load] }

/-- A start cancel as a frame (12.3). -/
def cancelFrame (dst src : Byte) (i : CarIx) (tag : Byte) : Frame :=
  { dst := dst, src := src, kind := 3, payload := [byteOf (carNo i), tag] }

/-- A dispatch order as a frame (12.3). -/
def dispatchFrame (dst src : Byte) (i : CarIx) (landing : Byte) : Frame :=
  { dst := dst, src := src, kind := 16, payload := [byteOf (carNo i), landing] }

/-- The order passes checks 1 to 3 of R138. -/
def State.OrderPasses (s : State) (i : CarIx) (landing : Byte) : Prop :=
  landing.toNat ≤ 127 ∧ (s.toBlock.conf i).lowest ≤ landing.toNat ∧ landing.toNat ≤ (s.toBlock.conf i).highest ∧
    ((s.toBlock.conf i).present = true → (s.toBlock.conf i).relay = .forward)

/-- An order notice to the order's source, for an order that names this car number and landing. -/
def State.noticeItem (s : State) (car src landing outcome : Byte) : TxItem :=
  ownItem (s.toBlock.ownFrame src .orderNotice [car, landing, outcome])

/-- The parts of an answer with one record each, in order: as many as find room stand in the G-port's queue, the rest wait in the
response buffer (R154). -/
def State.PlacesParts (s t : State) (parts : List Frame) : Prop :=
  ∃ k, t.gport.tx = s.gport.tx ++ (parts.take k).map ownItem ∧ t.mgmt.response = parts.drop k ∧
    (k < parts.length → t.gport.roomOwn = false)

/-- Part k, counted from 0, of an answer of several records (12.4, 12.5). -/
def State.IsPart (s : State) (src : Node) (kind : Byte) (parts : List Frame) (k : Nat) (record : List Byte) : Prop :=
  parts[k]? = some (s.toBlock.ownFrame (byteOf src.val) .mgmtResponse
    (kind :: 0 :: byteOf (k + 1 + if k + 1 = parts.length then 128 else 0) :: record))

/-- A request part as a frame (12.4). -/
def requestPartFrame (dst : Byte) (src : Node) (part : Byte) (data : List Byte) : Frame :=
  { dst := dst, src := byteOf src.val, kind := 32, payload := part :: data }

/-- The state with the head of the G-port's FIFO taken. -/
def State.headTaken (s : State) : State := { s with gport := s.gport.takeHead }


/-- A byte of flags, the first of weight 1, each next of twice the weight; a bit without a flag is 0 (12.2, 12.5). -/
def flagByte (flags : List Bool) : Byte := byteOf (flags.foldr (fun x n => (if x then 1 else 0) + 2 * n) 0)

/-- The node a car order or a refusal of a bound car goes to: its bound node, broadcast while it has none (R100). -/
def Block.busNode (b : Block) (i : CarIx) : Byte :=
  match (b.car i).bound with
  | some n => byteOf n
  | none => 63

/-! ### Entry into RECALL, and the evaluation of the service set -/

/-- The landing the part sends a car to on entry into RECALL, by the car's state then: its recall landing if it is STANDING, the
landing of its order if it is RECALL_PENDING (R10, R111). -/
def Block.recalledTo (b : Block) (i : CarIx) : RState → Option Nat
  | .standing => some (b.conf i).recallLanding
  | .recallPending =>
    match (b.car i).order with
    | some (.recall p) => some p
    | some (.divert p) => some p
    | _ => none
  | _ => none

/-- The state in which a car parks on entry into RECALL: away from its recall landing if its order is DIVERT (R117). -/
def Block.recallPark (b : Block) (i : CarIx) : RState → RState
  | .recallPending =>
    match (b.car i).order with
    | some (.divert _) => .parkedAway
    | _ => .parked
  | _ => .parked

/-- What the orders and arrival checks of entry into RECALL make of a car's state, before any grant (R10, R112, R117, R121): a car
that stands where it is sent is LANDED, or parked if its door is open; any other that is sent somewhere is RECALL_PENDING. -/
def Block.recallState (b : Block) (i : CarIx) (st : RState) : RState :=
  match b.recalledTo i st with
  | none => st
  | some p =>
    if b.commitment? i = none ∧ (b.car i).learned.between = false ∧ (b.car i).learned.landing = p ∧
        (b.car i).learned.motion = .stopped then
      (if (b.car i).learned.door = .opened then b.recallPark i st else .landed)
    else .recallPending

/-- The state of a car or one that its grant has moved it on to (R114). -/
def heldOrGranted (expected actual : RState) : Prop :=
  actual = expected ∨ (expected = .recallPending ∧ (actual = .recalling ∨ actual = .diverting))

/-- What entry into RECALL does, from the cars' states `st` in TRANSFER_WAIT and everything else as the block has it (R10, R121):
the plan is RECALL if a car then holds recall open and SERVICE otherwise. Every STANDING car gets its RECALL order. In SERVICE the
evaluation that its entry makes may have selected parked cars, which then have the order SERVE, and released serving ones
(R12). -/
structure Block.EntersRecall (b : Block) (st : CarIx → RState) (t : Block) : Prop where
  plan    : t.plan = if ∃ i, (b.recallState i (st i)).holdsRecall = true then .recall else .service
  mode    : t.modeTimer = some 10
  ordered : t.plan = .recall → ∀ i, st i = .standing → (t.car i).order = some (.recall (b.conf i).recallLanding)
  kept    : t.plan = .recall → ∀ i, st i = .recallPending → (t.car i).order = (b.car i).order
  state   : t.plan = .recall → ∀ i, heldOrGranted (b.recallState i (st i)) (t.car i).state
  parked  : t.plan = .service → ∀ i, b.recallState i (st i) = .parked ∨ b.recallState i (st i) = .parkedAway →
    (t.car i).state = b.recallState i (st i) ∨ (t.car i).state = .serving
  served  : t.plan = .service → ∀ i, st i = .standing →
    (t.car i).order = some (.recall (b.conf i).recallLanding) ∨
      ((t.car i).state = .serving ∧ (t.car i).order = some .serve)
  others  : t.plan = .service → ∀ i, b.recallState i (st i) ≠ .parked → b.recallState i (st i) ≠ .parkedAway →
    st i ≠ .serving → (t.car i).state = b.recallState i (st i)

/-- A car counts for the automatic set (R127). -/
def Block.counts (b : Block) (i : CarIx) : Bool :=
  decide ((b.car i).state = .serving) ||
    ((decide ((b.car i).state = .parked) || decide ((b.car i).state = .parkedAway)) && !(b.car i).learned.silent)

/-- A car stands before another in the ranking: of a higher class, or of the same class with a lower number (R127). -/
def Block.outranks (b : Block) (j i : CarIx) : Bool :=
  decide ((b.conf i).cls < (b.conf j).cls) || (decide ((b.conf j).cls = (b.conf i).cls) && decide (j < i))

/-- The number of cars in the automatic set (R127). -/
def Block.setSize (b : Block) : Nat :=
  if b.fallback then 0
  else if b.derate.taken then b.active.plan.deratedCount
  else b.active.plan.serviceCount

/-- A car is in the new service set: listed in the manual selection, or, while that is not set, one of the first of the ranking
(R127, R128). -/
def Block.chosen (b : Block) (i : CarIx) : Bool :=
  match b.manual with
  | some l => l.contains i
  | none => b.counts i && decide ((allCars.filter (fun j => b.counts j && b.outranks j i)).length < b.setSize)

/-- What a step with an evaluation of the service set makes of the cars, from the block it starts with (R129, R132): a parked
car that is chosen serves, with its flag, its order SERVE and its held-order slot closed; a serving car that is not loses its
flag and has a RECALL order, under which it is RECALL_PENDING while it holds a commitment and else may land, park or be granted
its run at once. No other car moves but by a grant. -/
structure Block.Evaluated (b t : Block) : Prop where
  selected : ∀ i, (b.car i).state = .parked ∨ (b.car i).state = .parkedAway → b.chosen i = true →
    (t.car i).state = .serving ∧ (t.car i).selected = true ∧ (t.car i).order = some .serve ∧ (t.car i).slot = .closed
  left     : ∀ i, (b.car i).state = .parked ∨ (b.car i).state = .parkedAway → b.chosen i = false →
    (t.car i).state = (b.car i).state
  serving  : ∀ i, (b.car i).state = .serving → b.chosen i = true → (t.car i).state = .serving
  released : ∀ i, (b.car i).state = .serving → b.chosen i = false →
    (t.car i).selected = false ∧ (t.car i).order = some (.recall (b.conf i).recallLanding) ∧
      heldOrGranted (b.recallState i .standing) (t.car i).state
  delayed  : ∀ i, (b.car i).state = .serving → b.chosen i = false → b.commitment? i ≠ none →
    (t.car i).state = .recallPending ∧ (t.car i).orderDeferred = true
  others   : ∀ i, (b.car i).state ≠ .parked → (b.car i).state ≠ .parkedAway → (b.car i).state ≠ .serving →
    heldOrGranted (b.car i).state (t.car i).state

/-! ### Losing power -/

/-- A car whose order a loss of power sends again: a RECALLING or DIVERTING car below the attempt limit (R116), and a
RECALL_PENDING car whose order waited for the end of its commitment (R132); none without an order. -/
def Block.lossResends (b : Block) (i : CarIx) : Bool :=
  (match (b.car i).state with
   | .recalling => decide ((b.car i).attempts + 1 < b.active.plan.attemptLimit)
   | .diverting => decide ((b.car i).attempts + 1 < b.active.plan.attemptLimit)
   | .recallPending => (b.car i).orderDeferred
   | _ => false) && (b.car i).order.isSome

/-- A loss of power moves a car in this state (R120). -/
def RState.lostByPower : RState → Bool
  | .recalling => true
  | .diverting => true
  | .landed => true
  | _ => false

/-- A car's current order as a frame (12.3). -/
def Block.orderItem (b : Block) (i : CarIx) : TxItem :=
  ownItem (b.ownFrame (b.busNode i) .carOrder
    [byteOf (carNo i), orderKindCode (b.car i).order,
      match (b.car i).order with
      | some (.recall p) => byteOf p
      | some (.divert p) => byteOf p
      | _ => 0])

/-- The refusal of an entry that a flush removes, with its reason's code (R79, R99, 12.3). -/
def Block.flushItem (b : Block) (reason : Byte) (e : Entry) : TxItem :=
  ownItem (b.ownFrame (b.busNode e.car) .startRefusal [byteOf (carNo e.car), e.tag, reason])

/-! ### What a report makes of the commitments -/

/-- A commitment whose silent car has been heard (R66). -/
def heardAgain (i : CarIx) (silent : Bool) (c : Commitment) : Commitment :=
  if c.car = i ∧ silent = true then { c with silentHold := false, releaseTimer := none } else c

/-- A granted commitment whose car reports motion (R58). -/
def startedUp (i : CarIx) (tAccel : Nat) (c : Commitment) : Commitment :=
  if c.car = i then { c with phase := .starting, grantTimer := none, accelTimer := some tAccel } else c

/-- A starting commitment whose car reports RUNNING (R59, R49). -/
def ranUp (i : CarIx) (c : Commitment) : Commitment :=
  if c.car = i then { c with phase := .running, upper := max c.fig.dh 0, accelTimer := none } else c

/-- The commitment of an adopted run (R67, R69, R49). -/
def adoption (i : CarIx) (f : Figures) (tRun : Nat) (unauthorized : Bool) : Commitment :=
  { car := i, kind := .adopted, phase := .adopted, fig := f, upper := max f.dh 0, lower := min f.dl 0, target := none,
    tag := none, slowStart := false, unauthorized := unauthorized, silentHold := false, grantTimer := none,
    accelTimer := none, runTimer := .running tRun, releaseTimer := none }

/-! ### What a pass passes over -/

/-- A pass goes on behind this entry: its car is silent, or it does not fit and is not BLOCKING for the upper condition (R84,
R86, R87). -/
def Block.passesOver (b : Block) (e : Entry) : Prop :=
  (b.car e.car).learned.silent = true ∨ b.verdict e = .lower ∨ b.verdict e = .count ∨
    (b.verdict e = .upper ∧ e.blocking = false)

/-- An entry that a grant was made past: one held back by the upper condition has one skip more, and is BLOCKING at the skip
limit (R85). -/
def Block.skipped (b : Block) (e : Entry) : Entry :=
  if (b.car e.car).learned.silent = false ∧ b.verdict e = .upper then
    { e with skip := e.skip + 1, blocking := decide (b.active.plan.skipLimit ≤ e.skip + 1) }
  else e

/-! ### What a pass grants -/

/-- The head of the queue can be granted by a pass that R82 allows: its car is not silent and it fits, in RECALL or SERVICE with the
slot free (R82, R84). -/
structure Block.HeadFits (b : Block) (e : Entry) (rest : List Entry) : Prop where
  queue  : b.queue = e :: rest
  plan   : b.plan = .recall ∨ b.plan = .service
  slot   : b.slotHolder = none
  heard  : (b.car e.car).learned.silent = false
  fits   : b.verdict e = .fits

/-- The head of the queue has been granted: it has left the queue, its commitment is the last of the list and holds the slot,
and its grant stands behind the frames `tx` of the C-port's queue, to its bound node (R56, R85, R97). -/
structure Block.GrantsHead (b : Block) (e : Entry) (rest : List Entry) (tx : List TxItem) (t : Block) : Prop where
  queue : t.queue = rest
  list  : t.commitments = b.commitments ++
    [{ car := e.car, kind := e.kind, phase := .granted, fig := e.fig, upper := e.fig.ds, lower := min e.fig.dl 0,
       target := some e.target, tag := some e.tag, slowStart := false, unauthorized := false, silentHold := false,
       grantTimer := some b.active.plan.tGrant, accelTimer := none, runTimer := .running b.active.plan.tRun,
       releaseTimer := none }]
  slot  : t.slotHolder = some e.car
  grant : ∀ n, (b.car e.car).bound = some n → ∃ l, t.cport.tx = tx ++
    ownItem (b.ownFrame (byteOf n) .startGrant [byteOf (carNo e.car), e.tag, byteOf b.active.plan.tGrant]) :: l

/-- A pass made with these frames in the C-port's queue finds a place for its grant (R82). -/
def Block.roomBehind (b : Block) (tx : List TxItem) : Prop := b.cport.up = true ∧ (tx.filter (fun x => x.own)).length < 8

/-- No pass can be made with these frames in the C-port's queue: the plan, the slot, the settle timer or the room forbids it
(R82). -/
def Block.noPass (b : Block) (tx : List TxItem) : Prop :=
  (b.plan ≠ .recall ∧ b.plan ≠ .service ∧ b.plan ≠ .mainsReturn) ∨ b.slotHolder ≠ none ∨ b.settleTimer ≠ none ∨ ¬ b.roomBehind tx

/-- What a step leaves of a block from which an entry or a commitment of car `i` has been taken, and behind whose C-port frames
`tx` the trigger of that removal is taken (R78, R83): the pass may grant one entry, which leaves the queue; every other entry
stays, and every car but `i` and the granted one is as it was. -/
structure Block.ThenPass (b : Block) (i : CarIx) (tx : List TxItem) (t : Block) : Prop where
  list   : b.commitments <+: t.commitments
  one    : t.commitments.length ≤ b.commitments.length + 1
  queue  : ∀ j, j ∈ queueCars b.queue ↔ j ∈ queueCars t.queue ∨ j ∈ listCars (t.commitments.drop b.commitments.length)
  moved  : ∀ j, j ≠ i → heldOrGranted (b.car j).state (t.car j).state
  others : ∀ j, j ≠ i → j ∉ listCars (t.commitments.drop b.commitments.length) → (b.car j).SameButMarks (t.car j)
  settle : t.settleTimer = b.settleTimer
  still  : b.noPass tx → t.queue = b.queue ∧ t.commitments = b.commitments ∧ t.cport.tx = tx
  fits   : ∀ e rest, b.HeadFits e rest → b.BudgetOk → b.settleTimer = none → b.roomBehind tx → b.GrantsHead e rest tx t

/-! ### What a report makes of its car's restoration state -/

/-- The state in which a car of this learned mode is placed (R107). -/
def Block.placedState (b : Block) (i : CarIx) (m : CarMode) : RState :=
  if b.plan.emergency = false then .inGroup
  else
    match m with
    | .firefighter => .firefighter
    | .automatic =>
      if (b.conf i).cls = 0 then .excluded
      else if b.plan = .recall ∨ b.plan = .service then .recallPending
      else .standing
    | _ => .heldOut

/-- The state of a car that has landed, by its order and its door (R117). -/
def landedState (o : Option CarOrder) (door : Door) : RState :=
  if door = .opened then (match o with | some (.divert _) => .parkedAway | _ => .parked) else .landed

/-- A car is stopped at the landing of its order (R112). -/
def Learned.stoppedFor (l : Learned) (o : Option CarOrder) : Bool :=
  !l.between && decide (l.motion = .stopped) && (decide (o = some (.recall l.landing)) || decide (o = some (.divert l.landing)))

/-- What the arrival check and the door make of a state (R112, R117): in RECALL and SERVICE a RECALL_PENDING car that is stopped
at the landing of its order lands, and a LANDED car whose door is open parks, also while it moves (assumption 33). -/
def Block.arrivedState (b : Block) (st : RState) (o : Option CarOrder) (l : Learned) : RState :=
  match st with
  | .recallPending =>
    if (b.plan = .recall ∨ b.plan = .service) ∧ l.stoppedFor o = true then landedState o l.door else .recallPending
  | .landed => landedState o l.door
  | st => st

/-- The commitment that a report ends: the car's, if it reports STOPPED (R58, R59, R61). -/
def Block.endedBy (b : Block) (i : CarIx) (l : Learned) : Option Commitment :=
  if l.motion = .stopped then b.commitment? i else none

/-- An ended run has put its car at its target; one that ended in GRANTED has not (R115, assumption 21). -/
def Commitment.atTarget (c : Commitment) (l : Learned) : Bool :=
  decide (c.phase ≠ .granted) && !l.between && decide (c.target = some l.landing)

/-- What the end of a commitment makes of a state (R115, R116, R68). -/
def Block.endedState (b : Block) (i : CarIx) (st : RState) (l : Learned) : RState :=
  match b.endedBy i l with
  | none => st
  | some c =>
    if c.unauthorized = true then
      (if st = .failed ∨ st = .conflict ∨ st = .firefighter ∨ b.plan = .normal then st else .failed)
    else if st = .recalling ∨ st = .diverting then
      (if c.atTarget l then .landed
       else if (b.car i).attempts + 1 < b.active.plan.attemptLimit then .recallPending
       else .failed)
    else st

/-- A report counts an attempt: it ends a recall or divert run away from its target (R115, R116). -/
def Block.fallsShort (b : Block) (i : CarIx) (l : Learned) : Bool :=
  (decide ((b.car i).state = .recalling) || decide ((b.car i).state = .diverting)) &&
    (match b.endedBy i l with
     | none => false
     | some c => !c.unauthorized && !c.atTarget l)

/-- The car is heard for the first time since it was last UNHEARD or VACANT (R107). -/
def RState.firstHeard : RState → Bool
  | .vacant => true
  | .unheard => true
  | _ => false

/-- A report places its car in RECALL_PENDING under a new RECALL order: one first heard, or one that comes back from FIREFIGHTER or
HELD_OUT (R107, R109, R111). -/
def Block.ordersAnew (b : Block) (i : CarIx) (l : Learned) : Bool :=
  decide (b.placedState i l.mode = .recallPending) &&
    (match (b.car i).state with
     | .vacant => true
     | .unheard => true
     | .firefighter => true
     | .heldOut => decide (b.endedState i .heldOut l = .heldOut)
     | _ => false)

/-- The order of a car once its report has been taken, where it has one (R111). -/
def Block.reportedOrder (b : Block) (i : CarIx) (l : Learned) : Option CarOrder :=
  if b.ordersAnew i l then some (.recall (b.conf i).recallLanding) else (b.car i).order

/-- The state that a learned mode outside the group AUTOMATIC puts a car in (R109). -/
def CarMode.takes (m : CarMode) (st : RState) : RState :=
  match m with
  | .firefighter => .firefighter
  | .automatic => st
  | _ => .heldOut

/-- What the mode comparison makes of a state (R109). -/
def Block.comparedState (b : Block) (i : CarIx) (st : RState) (l : Learned) : RState :=
  if b.plan.emergency = false then st
  else
    match st with
    | .standing | .recallPending | .landed | .parked | .parkedAway | .serving | .excluded => l.mode.takes st
    | .firefighter | .heldOut =>
      if l.mode = .automatic then
        b.arrivedState (b.placedState i .automatic) (some (.recall (b.conf i).recallLanding)) l
      else l.mode.takes st
    | .failed => if l.mode.takes .failed = (b.car i).learned.mode.takes .failed then .failed else l.mode.takes .failed
    | st => st

/-- The state of a car before the mode comparison of its report: it is placed if it is first heard, then the end of its
commitment and its arrival are taken (R27, R107, R112, R115, R117). -/
def Block.stagedState (b : Block) (i : CarIx) (l : Learned) : RState :=
  let st := if (b.car i).state.firstHeard then b.placedState i l.mode else (b.car i).state
  b.arrivedState (b.endedState i st l) (b.reportedOrder i l) l

/-- The state of a car once its report has been taken, but for the evaluation and the pass of the step: the mode comparison
comes last (R27, R109). -/
def Block.reportedState (b : Block) (i : CarIx) (l : Learned) : RState := b.comparedState i (b.stagedState i l) l

/-- What an accepted report with the learned part `l`, from node `src`, makes of its car's restoration record, and of the other
cars' states, from the block it is taken by (R106 to R118). In SERVICE a car that parks may be made SERVING by the evaluation
its parking causes, and is if the manual selection lists it. -/
structure Block.Restored (b : Block) (i : CarIx) (src : Byte) (l : Learned) (t : Block) : Prop where
  plan     : t.plan = b.plan
  state    : heldOrGranted (b.reportedState i l) (t.car i).state ∨
    (b.plan = .service ∧ (b.reportedState i l).isParked = true ∧ b.reportedState i l ≠ (b.car i).state ∧
      (t.car i).state = .serving)
  manual   : ∀ m, b.manual = some m → b.plan = .service → (b.reportedState i l).isParked = true →
    b.reportedState i l ≠ (b.car i).state → ((t.car i).state = .serving ↔ i ∈ m)
  serves   : (t.car i).state = .serving → (b.car i).state ≠ .serving →
    (t.car i).selected = true ∧ (t.car i).order = some .serve ∧ (t.car i).slot = .closed
  order    : (t.car i).state.holdsRecall = true ∨ (t.car i).state.isParked = true → (t.car i).order = b.reportedOrder i l
  attempts : (t.car i).attempts =
    if b.stagedState i l = .failed ∧ b.reportedState i l ≠ .failed then 0
    else if b.fallsShort i l then (b.car i).attempts + 1
    else (b.car i).attempts
  reason   : (t.car i).state = .failed → (t.car i).reason =
    if (b.car i).state = .failed then (b.car i).reason
    else if b.fallsShort i l then (if (b.car i).faultSeen = true ∨ l.fault ≠ 0 then .fault else .attempts)
    else .unauthorized
  fault    : b.entry? i = none → (t.car i).faultSeen =
    ((b.car i).faultSeen ||
      decide (((b.car i).state = .recalling ∨ (b.car i).state = .diverting) ∧ l.fault ≠ 0))
  alarm    : (t.car i).doorAlarm = (b.car i).doorAlarm
  landed   : (t.car i).state = .landed → (t.car i).doorTimer =
    if (b.car i).state ≠ .landed then some b.active.plan.tDoor
    else if b.plan.emergency = true ∧ l.motion ≠ .stopped ∧ b.commitment? i = none then none
    else (b.car i).doorTimer
  left     : (b.car i).state = .landed → (t.car i).state ≠ .landed → (t.car i).doorTimer = none
  notice   : (b.car i).state.firstHeard = true → (b.car i).learned.silent = false → b.gport.roomOwn = true →
    ∃ m, t.gport.tx = b.gport.tx ++
      ownItem (b.ownFrame 0 .planNotice [b.plan.code, byteOf (carNo i), (b.placedState i l.mode).code, 0]) :: m
  ordered  : b.ordersAnew i l = true → b.entry? i = none → b.cport.roomOwn = true → ∃ m, t.cport.tx = b.cport.tx ++
    ownItem (b.ownFrame src .carOrder [byteOf (carNo i), 1, byteOf (b.conf i).recallLanding]) :: m
  resent   : ∀ p, (b.car i).order = some (.recall p) ∨ (b.car i).order = some (.divert p) → b.fallsShort i l = true →
    (b.car i).attempts + 1 < b.active.plan.attemptLimit → b.entry? i = none → b.cport.roomOwn = true →
    ∃ m, t.cport.tx = b.cport.tx ++
      ownItem (b.ownFrame src .carOrder [byteOf (carNo i), orderKindCode (b.car i).order, byteOf p]) :: m
  others   : b.plan ≠ .service → ∀ j, j ≠ i → heldOrGranted (b.car j).state (t.car j).state

/-! ### Start requests -/

/-- The kind of a start request, by its car's restoration state and order (R94); none in the states that do not come to it. -/
def Block.askedKind (b : Block) (i : CarIx) : Option RunKind :=
  match (b.car i).state, (b.car i).order with
  | .standing, _ => some .recall
  | .recallPending, some (.recall _) => some .recall
  | .recallPending, some (.divert _) => some .divert
  | .landed, some (.recall _) => some .recall
  | .landed, some (.divert _) => some .divert
  | .serving, _ => some .service
  | .firefighter, _ => some .firefighter
  | .heldOut, _ => some .other
  | _, _ => none

/-- The landing that check 11 of R93 compares a request's target with (R94); none where it makes no check. -/
def Block.askedLanding (b : Block) (i : CarIx) : Option Nat :=
  match (b.car i).state, (b.car i).order with
  | .standing, _ => some (b.conf i).recallLanding
  | .recallPending, some (.recall p) => some p
  | .recallPending, some (.divert p) => some p
  | .landed, some (.recall p) => some p
  | .landed, some (.divert p) => some p
  | _, _ => none

/-- The code of the first of checks 3 to 12 of R93 that refuses a start request, and none where none of them does; a repeat of a
granted request is none (R96). -/
def Block.turnsAway (b : Block) (i : CarIx) (src tag : Byte) (target : Nat) : Option Byte :=
  if (b.car i).state = .vacant then some 3
  else if (b.car i).state = .conflict then some 5
  else if (b.car i).state = .unheard ∨ (b.car i).bound ≠ some src.toNat then some 3
  else if (b.car i).state = .excluded then some 4
  else if (b.car i).state = .failed then some 6
  else if (b.car i).state = .parked ∨ (b.car i).state = .parkedAway then some 7
  else
    match b.commitment? i, b.askedKind i, b.askedLanding i with
    | some c, _, _ => if c.phase = .granted ∧ c.tag = some tag ∧ (b.car i).lastTag = some tag then none else some 8
    | none, none, _ => none
    | none, some _, landing =>
      if 127 < target ∨ (landing = none ∧ (target < (b.conf i).lowest ∨ (b.conf i).highest < target)) then some 10
      else if landing ≠ none ∧ landing ≠ some target then some 9
      else if (b.car i).learned.between = false ∧ (b.car i).learned.landing = target then some 11
      else none

/-- A start request passes checks 3 to 12 of R93: it is for a run of this kind in this direction (R42, R94). -/
structure Block.Admits (b : Block) (i : CarIx) (src tag : Byte) (target : Nat) (k : RunKind) (d : Dir) : Prop where
  passes : b.turnsAway i src tag target = none
  free   : b.commitment? i = none
  kind   : b.askedKind i = some k
  dir    : runDir (b.car i).learned target = some d

/-- A start request is taken from the head of the C-port's FIFO, in a plan state whose requests pass checks 1 and 2 of R93. -/
def State.TakesRequest (s : State) (i : CarIx) (dst src tag target load : Byte) : Prop :=
  s.Takes .c (requestFrame dst src i tag target load) .startRequest ∧ 1 ≤ src.toNat ∧ src.toNat ≤ 61 ∧
    (s.plan = .transferWait ∨ s.plan = .recall ∨ s.plan = .service) ∧ s.toBlock.Settled

/-- A start refusal as it stands in the C-port's queue (12.3). -/
def State.refusal (s : State) (src : Byte) (i : CarIx) (tag reason : Byte) : TxItem :=
  ownItem (s.toBlock.ownFrame src .startRefusal [byteOf (carNo i), tag, reason])

/-- The C-port's queue with one own frame behind it, or as it was where that frame finds no room (R102). -/
def State.cportBehind (s : State) (x : TxItem) : List TxItem := if s.cport.roomOwn then s.cport.tx ++ [x] else s.cport.tx

/-- The block without the queue entry of a car (R78). -/
def Block.withoutEntry (b : Block) (i : CarIx) : Block := { b with queue := b.queue.filter (fun e => e.car ≠ i) }

/-- The block without the commitment of a car (R63). -/
def Block.withoutCommitment (b : Block) (i : CarIx) : Block :=
  { b with commitments := b.commitments.filter (fun c => c.car ≠ i) }

/-- A cancel completes with this one answer on the C-port, or none where it finds no room, and changes no car, entry or
commitment. -/
def State.AnswersCancel (s : State) (x : TxItem) : Prop :=
  Completes .startCancel s (fun t =>
    t.queue = s.queue ∧ t.commitments = s.commitments ∧ t.settleTimer = s.settleTimer ∧ t.plan = s.plan ∧ t.mgmt = s.mgmt ∧
    t.active = s.active ∧ (∀ j, (s.toBlock.car j).SameButMarks (t.toBlock.car j)) ∧
    (s.cport.roomOwn = true → t.cport.tx = s.cport.tx ++ [x]) ∧
    (s.cport.roomOwn = false → t.cport.tx = s.cport.tx ∧ t.cport.errors.noticeLost = true))

/-- The C-port has places for n own frames. -/
def State.RoomFor (s : State) (n : Nat) : Prop := s.cport.up = true ∧ s.cport.ownCount + n ≤ 8

/-- The effective class of a run (R73). -/
def Block.classOf (b : Block) (i : CarIx) : RunKind → Nat
  | .firefighter => 7
  | .other => 1
  | _ => (b.conf i).cls

/-- The entry that an admitted request makes (R75). -/
def Block.entryOf (b : Block) (i : CarIx) (tag target load : Byte) (k : RunKind) (d : Dir) : Entry :=
  { car := i, kind := k, cls := b.classOf i k, target := target.toNat, dir := d, load := Load.ofByte load
    fig := b.figuresRequested i (Load.ofByte load) d, skip := 0, blocking := decide (b.active.plan.skipLimit = 0), tag := tag }

/-- An entry's place in a queue: behind every entry of its class or higher, before every one of lower class (R75). -/
def placedIn (e : Entry) (q : List Entry) : List Entry :=
  q.filter (fun x => e.cls ≤ x.cls) ++ e :: q.filter (fun x => x.cls < e.cls)

/-- The queue once an accepted request has joined it, or has refreshed its car's entry: with its class unchanged the entry keeps its
place, skip count and BLOCKING flag, else it is placed anew (R75, R76, R77). -/
def Block.queueWith (b : Block) (e : Entry) : List Entry :=
  match b.entry? e.car with
  | none => placedIn e b.queue
  | some old =>
    if old.cls = e.cls then
      b.queue.map (fun x => if x.car = e.car then { e with skip := x.skip, blocking := x.blocking } else x)
    else placedIn e (b.queue.filter (fun x => x.car ≠ e.car))

/-- The landing of a divert, from the learned position and the load of the refused request; none where the car has none (R113). -/
def Block.divertTo (b : Block) (i : CarIx) (load : Byte) : Option Nat :=
  if (b.car i).learned.between = false then some (b.car i).learned.landing
  else if load = 255 then none
  else if (b.conf i).b < min load.toNat 150 then some ((b.car i).learned.landing + 1)
  else some (b.car i).learned.landing

/-! ### Requests -/

/-- The answer to a request stands last in the G-port's queue, or waits as the whole response where the step has left no room
(R154). -/
def State.AnsweredLast (s t : State) (x : TxItem) : Prop :=
  ((∃ l, t.gport.tx = s.gport.tx ++ l ++ [x]) ∧ t.mgmt = s.begun) ∨
    (t.gport.roomOwn = false ∧ t.mgmt = { s.begun with response := [x.frame] })

end Sys2Proof.Machine

namespace Sys2Proof

/-- The node that sends a management command and the request data that spell it, kind byte first (12.4). -/
def Instr.requestData : Instr → Option (Node × List Byte)
  | .readPlan n => some (n, [1])
  | .readCars n start count => some (n, [2, start, count])
  | .readQueue n => some (n, [3])
  | .readCommitments n => some (n, [4])
  | .readLink n => some (n, [5])
  | .writeCars n start count records => some (n, 8 :: start :: count :: records)
  | .writePlan n record => some (n, 9 :: record)
  | .commit n => some (n, [10])
  | .discard n => some (n, [11])
  | .select n form cars => some (n, 16 :: form :: cars)
  | .retryCar n car => some (n, [17, car])
  | .restart n => some (n, [18])
  | .unlock n level key => some (n, 24 :: level :: Machine.keyBytes key)
  | .lock n => some (n, [25])
  | .setKey n level key => some (n, 26 :: level :: Machine.keyBytes key)
  | .freeze n => some (n, [27])
  | .wipePrepare n => some (n, [28])
  | .wipe n => some (n, [29])
  | .powerOnReset | .resetN | .restartReset | .imageLoadComplete | .xferEmergTakenAsserted | .xferEmergTakenNegated => none
  | .genReadyTakenAsserted | .genReadyTakenNegated | .genDerateTaken _ | .transferSettleExpiry | .adoptionExpiry => none
  | .modeRepeatExpiry | .recallWorkEmpties | .commitmentListEmpties | .carReport | .reportTimerExpiry _ => none
  | .startRequest | .startCancel | .grantTimerExpiry _ | .accelerationTimerExpiry _ | .runTimerExpiry _ => none
  | .silentReleaseExpiry _ | .settleTimerExpiry | .orderResendExpiry _ | .doorTimerExpiry _ | .dispatchOrder => none
  | .relayedFrame _ | .frameEnd _ _ | .nextFrameBegins _ _ | .firstByteAfterIdleLine _ _ | .holdInChange _ _ => none
  | .frameSendStart _ | .frameSent _ | .lineFault _ | .lineUp _ | .managementRequestPart | .idleTimerExpiry => none
  | .storeWriteComplete _ | .eraseComplete _ | .responsePartPlaced => none

end Sys2Proof
end

