-- ==== Sys2Proof/Certificates/Slice0/Obligations.lean ====
section
/-! DEFINITION. The statements. Free values stand in none of them but under an existential. -/

open Sys2Proof Sys2Proof.Machine

/-! ### The machine -/

/-- A step with a command in front of the queue is that command, with the queue's rest (the form of the model, assumption 1). -/
def Obligations.StepRunsFrontCommand : Prop :=
  ∀ (s : State) (c : Instr) (rest : List Instr), s.pending = c :: rest → step s = exec c { s with pending := rest }

/-- No command stops the part, and none changes the queue of commands (95: every step is whole). -/
def Obligations.EveryCommandCompletes : Prop :=
  ∀ (c : Instr) (s : State), Completes c s (fun t => t.pending = s.pending)

/-- R2, R3 over the model's clock (assumption 3): on an empty queue with no work of its own the part takes a sample of each line,
and a line event waits exactly when that sample and the one before it agree on the level opposite to the taken one. -/
def Obligations.TwoSamplesMakeLineEvents : Prop :=
  ∀ s : State, s.pending = [] → s.toBlock.ownWork = [] → ∃ t, step s = .next t ∧
    t.xfer = { s.xfer with last := some s.xfer.pin } ∧ t.gen = { s.gen with last := some s.gen.pin } ∧
    t.derate = { s.derate with last := some s.derate.pin } ∧
    (Instr.xferEmergTakenAsserted ∈ t.pending ↔ s.xfer.last = some true ∧ s.xfer.pin = true ∧ s.xfer.taken = false) ∧
    (Instr.xferEmergTakenNegated ∈ t.pending ↔ s.xfer.last = some false ∧ s.xfer.pin = false ∧ s.xfer.taken = true) ∧
    (Instr.genReadyTakenAsserted ∈ t.pending ↔ s.gen.last = some true ∧ s.gen.pin = true ∧ s.gen.taken = false) ∧
    (Instr.genReadyTakenNegated ∈ t.pending ↔ s.gen.last = some false ∧ s.gen.pin = false ∧ s.gen.taken = true) ∧
    (∀ v, Instr.genDerateTaken v ∈ t.pending ↔ s.derate.last = some v ∧ s.derate.pin = v ∧ s.derate.taken = !v)

/-- The tick over the model's clock (assumption 3): at the tenth sample every running timer, those of each commitment included,
loses a tick and a stopped one stays stopped. An expiry is part of the part's own work exactly while its timer runs and has no
tick left, so a timer that is started again or stopped has none; and the own work is taken from its front, one command at a
time. -/
def Obligations.TickCountsTimersDown : Prop :=
  (∀ s : State, s.pending = [] → s.toBlock.ownWork = [] → 10 ≤ s.subTick + 1 → ∃ t, step s = .next t ∧
    t.subTick = 0 ∧
    t.transferTimer = s.transferTimer.map (fun n => n - 1) ∧ t.adoptionTimer = s.adoptionTimer.map (fun n => n - 1) ∧
    t.modeTimer = s.modeTimer.map (fun n => n - 1) ∧ t.settleTimer = s.settleTimer.map (fun n => n - 1) ∧
    t.mgmt = { s.mgmt with idleTimer := s.mgmt.idleTimer.map (fun n => n - 1) } ∧
    (∀ i, (t.toBlock.car i).learned.reportTimer = (s.toBlock.car i).learned.reportTimer.map (fun n => n - 1) ∧
      (t.toBlock.car i).doorTimer = (s.toBlock.car i).doorTimer.map (fun n => n - 1) ∧
      (t.toBlock.car i).resendTimer = (s.toBlock.car i).resendTimer.map (fun n => n - 1)) ∧
    t.commitments = s.commitments.map (fun c => { c with
      grantTimer := c.grantTimer.map (fun n => n - 1), accelTimer := c.accelTimer.map (fun n => n - 1)
      runTimer := match c.runTimer with | .running n => .running (n - 1) | .stopped => .stopped | .expired => .expired
      releaseTimer := c.releaseTimer.map (fun n => n - 1) })) ∧
  (∀ b : Block,
    (Instr.transferSettleExpiry ∈ b.ownWork ↔ b.transferTimer = some 0) ∧
    (Instr.adoptionExpiry ∈ b.ownWork ↔ b.adoptionTimer = some 0) ∧
    (Instr.modeRepeatExpiry ∈ b.ownWork ↔ b.modeTimer = some 0) ∧
    (Instr.settleTimerExpiry ∈ b.ownWork ↔ b.settleTimer = some 0) ∧
    (Instr.idleTimerExpiry ∈ b.ownWork ↔ b.mgmt.idleTimer = some 0) ∧
    (∀ i, Instr.reportTimerExpiry i ∈ b.ownWork ↔ (b.car i).learned.reportTimer = some 0) ∧
    (∀ i, Instr.doorTimerExpiry i ∈ b.ownWork ↔ (b.car i).doorTimer = some 0) ∧
    (∀ i, Instr.orderResendExpiry i ∈ b.ownWork ↔ (b.car i).resendTimer = some 0) ∧
    (∀ i, Instr.grantTimerExpiry i ∈ b.ownWork ↔ ∃ c, b.commitment? i = some c ∧ c.grantTimer = some 0) ∧
    (∀ i, Instr.accelerationTimerExpiry i ∈ b.ownWork ↔ ∃ c, b.commitment? i = some c ∧ c.accelTimer = some 0) ∧
    (∀ i, Instr.runTimerExpiry i ∈ b.ownWork ↔ ∃ c, b.commitment? i = some c ∧ c.runTimer = .running 0) ∧
    (∀ i, Instr.silentReleaseExpiry i ∈ b.ownWork ↔ ∃ c, b.commitment? i = some c ∧ c.releaseTimer = some 0)) ∧
  (∀ (s : State) (c : Instr) (rest : List Instr), s.pending = [] → s.toBlock.ownWork = c :: rest →
    step s = .next { s with pending := [c] })

/-! ### Reset and image load -/

/-- POWER_ON_RESET, RESET_N and RESTART_RESET put every block into its after-reset state, keep the levels at the input pins
(assumption 26), and leave an image that fails its check where a store operation ran (assumption 12). The first two set the
key attempt counter to 5 and end a freeze; RESTART_RESET keeps both and differs in nothing else (R164). -/
def Obligations.ResetsPutEveryBlockBack : Prop :=
  ∀ s : State,
    (∀ c : Instr, c = .powerOnReset ∨ c = .resetN → Completes c s (fun t =>
      t.pending = s.pending ∧ s.toBlock.IsReset t.toBlock ∧ t.mgmt.keyCounter = 5 ∧ t.mgmt.frozen = false)) ∧
    Completes .restartReset s (fun t =>
      t.pending = s.pending ∧ s.toBlock.IsReset t.toBlock ∧
        exec .powerOnReset s = .next { t with mgmt := { t.mgmt with keyCounter := 5, frozen := false } } ∧
        t.mgmt.keyCounter = s.mgmt.keyCounter ∧ t.mgmt.frozen = s.mgmt.frozen)

/-- R71: the commitment list after each kind of reset, and the adoption that takes a moving car back into it during ADOPT. -/
def Obligations.CommitmentsAfterReset : Prop :=
  (∀ (s : State) (c : Instr), c = .powerOnReset ∨ c = .resetN ∨ c = .restartReset →
    Completes c s (fun t => t.commitments = [] ∧ t.commitments.length = 0 ∧ t.toBlock.sumUpper = 0 ∧ t.toBlock.sumLower = 0 ∧
      (∀ i, t.toBlock.commitment? i = none) ∧ t.toBlock.slotHolder = none)) ∧
  (∀ (b : Block) (i : CarIx), b.plan = .adopt → b.commitment? i = none → (b.car i).learned.motion ≠ .stopped →
    ∃ c, (b.budgetStage i).1.commitments = b.commitments ++ [c] ∧ c.car = i ∧ c.phase = .adopted ∧ c.unauthorized = false)

/-- R159: the load ends with a valid image in configured mode, and with none in fallback mode; either way the adoption timer
starts and the blocks begin taking frames. The cars are bound and UNHEARD or VACANT as R23 says; nothing else changes. That an
ASSIGNED car is bound only if it is present (assumption 16) and the assigned node of the fallback table (assumption 24) are the
model's choice. -/
def Obligations.ImageLoadEnds : Prop :=
  (∀ (s : State) (l : Loaded), s.loaded = false → s.mgmt.image.load = some l →
    Completes .imageLoadComplete s (fun t =>
      t = { s with
        active := l.table, pendingTable := l.table, fallback := false, loaded := true
        mgmt := { s.mgmt with maintKey := l.maint, commKey := l.comm }
        aEff := if s.derate.taken then l.table.plan.a * l.table.plan.dr / 100 else l.table.plan.a
        adoptionTimer := some (l.table.plan.tGrant + l.table.plan.tSilent), cars := t.cars } ∧
      ∀ i, t.toBlock.car i = { s.toBlock.car i with
        bound := if (l.table.cars.get i).present = true ∧ (l.table.cars.get i).bind = .assigned
          then some (l.table.cars.get i).assigned else none
        state := if (l.table.cars.get i).present = true then .unheard else .vacant })) ∧
  (∀ s : State, s.loaded = false → s.mgmt.image.load = none →
    Completes .imageLoadComplete s (fun t =>
      t = { s with
        active := Table.fallbackTable, pendingTable := Table.default, fallback := true, loaded := true
        mgmt := { s.mgmt with maintKey := none, commKey := none }
        aEff := if s.derate.taken then 700 else 1000
        adoptionTimer := some 50, cars := t.cars } ∧
      t.active.plan.ownNode = 62 ∧
      ∀ i, t.toBlock.car i = { s.toBlock.car i with bound := none, state := .vacant })) ∧
  Image.load Image.blank = none

/-- The image that COMMIT writes loads to what was committed (12.6, R158, R159): for every table whose fields are all valid and
every pair of keys. What the spec leaves open of the image's bytes is the model's choice (assumption 13). -/
def Obligations.ImageRoundTrip : Prop :=
  ∀ (t : Table) (maint comm : Option Key), t.valid (if t.plan.mirror then 1 else 0) = true →
    Image.load (.bytes (encodeImage t maint comm)) = some { table := t, maint := maint, comm := comm } ∧
      (encodeImage t maint comm).length = 233

/-! ### Plan and power lines -/

/-- R7: XFER_EMERG taken asserted in NORMAL with the generator not settled: TRANSFER_WAIT, attempt counts 0, IN_GROUP cars
STANDING or placed by mode and class, every other state, the list and the settle timer as they were; the mode frame EMERGENCY
is queued first and the mode-repeat timer started (R16). With the generator settled already the same step goes on to RECALL, or
through it to SERVICE (R9, R10). -/
def Obligations.MainsFailureStandsCars : Prop :=
  (∀ s : State, s.plan = .normal → s.xfer.taken = false → s.genSettled = false →
    Completes .xferEmergTakenAsserted s (fun t =>
      t.plan = .transferWait ∧ t.toBlock.emergActive = true ∧ t.xfer.taken = true ∧ t.modeTimer = some 10 ∧
      t.commitments = s.commitments ∧
      t.settleTimer = s.settleTimer ∧ t.manual = s.manual ∧
      (∀ i, (t.toBlock.car i).attempts = 0) ∧
      (∀ i, (t.toBlock.car i).state =
        if (s.toBlock.car i).state = .inGroup then stoodState s.toBlock i else (s.toBlock.car i).state) ∧
      (s.cport.roomOwn = true → ∃ l, t.cport.tx = s.cport.tx ++ ownItem (s.toBlock.ownFrame 63 .modeFrame [1]) :: l) ∧
      ({ s.toBlock with xfer := { pin := true, last := some true, taken := true } } : Block).KeepsBase t.toBlock)) ∧
  (∀ s : State, s.plan = .normal → s.xfer.taken = false → s.genSettled = true → s.toBlock.Settled →
    Completes .xferEmergTakenAsserted s (fun t =>
      t.xfer.taken = true ∧ t.toBlock.emergActive = true ∧ s.commitments <+: t.commitments ∧
      (∀ i, (t.toBlock.car i).attempts = 0) ∧
      s.toBlock.EntersRecall (fun i =>
        if (s.toBlock.car i).state = .inGroup then stoodState s.toBlock i else (s.toBlock.car i).state) t.toBlock ∧
      ({ s.toBlock with xfer := { pin := true, last := some true, taken := true } } : Block).KeepsBase t.toBlock))

/-- R8, R70, R79: the generator lost in RECALL or SERVICE, or the mains lost again in MAINS_RETURN: TRANSFER_WAIT, the list
voided, the queue flushed, the settle timer stopped, every held order dropped, recalled cars back to RECALL_PENDING with an
attempt counted or FAILED at the limit. While the C-port has the places, and the entries' cars are bound and not moved
themselves, what it sends is the mode frame, the orders that are sent again in car-number order, and the refusals POWER_LOST in
queue order. That a LANDED car made RECALL_PENDING is not among the cars whose orders are sent again there is DEDUCED (assumption
19). The mains lost again with the generator settled: the list, queue, settle timer and attempts are as above, those frames are
sent first and more may follow, every slot is closed but that of a car that is selected-awaiting in SERVICE, which is empty, and the
plan goes on to RECALL or through it to SERVICE (R9, R10). -/
def Obligations.PowerLossVoidsEverything : Prop :=
  (∀ (s : State) (c : Instr),
    (c = .genReadyTakenNegated ∧ s.gen.taken = true ∧ (s.plan = .recall ∨ s.plan = .service)) ∨
      (c = .xferEmergTakenAsserted ∧ s.xfer.taken = false ∧ s.plan = .mainsReturn ∧ s.genSettled = false) →
    Completes c s (fun t =>
      t.plan = .transferWait ∧ t.commitments = [] ∧ t.toBlock.sumUpper = 0 ∧ t.toBlock.sumLower = 0 ∧ t.queue = [] ∧
      t.settleTimer = none ∧ t.manual = s.manual ∧ t.active = s.active ∧ t.mgmt = s.mgmt ∧
      (∀ i, (t.toBlock.car i).slot = .closed) ∧
      (∀ i, (t.toBlock.car i).state = lostState s.active.plan.attemptLimit (s.toBlock.car i)) ∧
      (∀ i, (t.toBlock.car i).attempts =
        if (s.toBlock.car i).state = .recalling ∨ (s.toBlock.car i).state = .diverting then (s.toBlock.car i).attempts + 1
        else (s.toBlock.car i).attempts) ∧
      (s.cport.up = true →
        s.cport.ownCount + 1 + (allCars.filter s.toBlock.lossResends).length + s.queue.length ≤ 8 →
        (∀ e ∈ s.queue, (s.toBlock.car e.car).bound ≠ none ∧ (s.toBlock.car e.car).state.lostByPower = false) →
        t.cport.tx = s.cport.tx ++ ownItem (s.toBlock.ownFrame 63 .modeFrame [1]) ::
          ((allCars.filter s.toBlock.lossResends).map s.toBlock.orderItem ++ s.queue.map (s.toBlock.flushItem 14))) ∧
      (∀ i, (s.toBlock.car i).SameKnown (t.toBlock.car i)) ∧
      (c = .genReadyTakenNegated → t.gen.taken = false ∧ t.genSettled = false ∧ t.transferTimer = none ∧ t.xfer = s.xfer))) ∧
  (∀ s : State, s.plan = .mainsReturn → s.xfer.taken = false → s.genSettled = true → s.toBlock.Settled →
    Completes .xferEmergTakenAsserted s (fun t =>
      t.xfer.taken = true ∧ t.commitments = [] ∧ t.queue = [] ∧ t.settleTimer = none ∧
      (∀ i, (t.toBlock.car i).attempts =
        if (s.toBlock.car i).state = .recalling ∨ (s.toBlock.car i).state = .diverting then (s.toBlock.car i).attempts + 1
        else (s.toBlock.car i).attempts) ∧
      (∀ i, (t.toBlock.car i).slot = if t.toBlock.awaiting i then .empty else .closed) ∧
      (s.RoomFor (1 + (allCars.filter s.toBlock.lossResends).length + s.queue.length) →
        (∀ e ∈ s.queue, (s.toBlock.car e.car).bound ≠ none ∧ (s.toBlock.car e.car).state.lostByPower = false) →
        s.cport.tx ++ ownItem (s.toBlock.ownFrame 63 .modeFrame [1]) ::
          ((allCars.filter s.toBlock.lossResends).map s.toBlock.orderItem ++ s.queue.map (s.toBlock.flushItem 14)) <+:
            t.cport.tx) ∧
      ({ s.toBlock with commitments := [] } : Block).EntersRecall
        (fun i => lostState s.active.plan.attemptLimit (s.toBlock.car i)) t.toBlock ∧
      ({ s.toBlock with xfer := { pin := true, last := some true, taken := true } } : Block).KeepsBase t.toBlock))

/-- R13, R14, R16, R79: XFER_EMERG taken negated in an outage: the queue is flushed and held orders dropped; with commitments left
the plan is MAINS_RETURN and they run on with every car state as it was; with none left it passes through MAINS_RETURN to NORMAL,
which clears every car and the manual selection. While the C-port has the places and the entries' cars are bound, what it sends is
the mode frame EMERGENCY, the refusals MAINS_RETURN in queue order, and in NORMAL the mode frame NORMAL behind them. -/
def Obligations.MainsReturnFlushes : Prop :=
  ∀ s : State, s.xfer.taken = true → s.plan = .transferWait ∨ s.plan = .recall ∨ s.plan = .service →
    Completes .xferEmergTakenNegated s (fun t =>
      t.xfer.taken = false ∧ t.queue = [] ∧ (∀ i, (t.toBlock.car i).slot = .closed) ∧ t.commitments = s.commitments ∧
      t.active = s.active ∧ t.mgmt = s.mgmt ∧ (∀ i, (s.toBlock.car i).SameKnown (t.toBlock.car i)) ∧
      t.modeTimer = some 10 ∧
      (s.commitments ≠ [] → t.plan = .mainsReturn ∧ t.manual = s.manual ∧
        ∀ i, (s.toBlock.car i).SameButMarks (t.toBlock.car i)) ∧
      (s.commitments = [] → t.plan = .normal ∧ t.manual = none ∧
        ∀ i, Car.Cleared (s.toBlock.car i) (t.toBlock.car i)) ∧
      ((∀ e ∈ s.queue, (s.toBlock.car e.car).bound ≠ none) →
        (s.commitments ≠ [] → s.RoomFor (1 + s.queue.length) → t.cport.tx = s.cport.tx ++
          ownItem (s.toBlock.ownFrame 63 .modeFrame [1]) :: s.queue.map (s.toBlock.flushItem 2)) ∧
        (s.commitments = [] → s.RoomFor (2 + s.queue.length) → t.cport.tx = s.cport.tx ++
          ownItem (s.toBlock.ownFrame 63 .modeFrame [1]) :: (s.queue.map (s.toBlock.flushItem 2) ++
            [ownItem (s.toBlock.ownFrame 63 .modeFrame [0])]))))

/-- R4, R5: the transfer-settle timer is started by GEN_READY taken asserted, in every plan state, and stopped with generator
settled cleared when it is taken negated; its expiry outside TRANSFER_WAIT only sets generator settled. -/
def Obligations.TransferSettleTimer : Prop :=
  ∀ s : State,
    (s.gen.taken = false → exec .genReadyTakenAsserted s = .next { s with
      gen := { pin := true, last := some true, taken := true }, transferTimer := some s.active.plan.tGen }) ∧
    (s.gen.taken = true → Completes .genReadyTakenNegated s (fun t =>
      t.gen.taken = false ∧ t.transferTimer = none ∧ t.genSettled = false ∧
      (s.plan ≠ .recall → s.plan ≠ .service → t.plan = s.plan))) ∧
    (s.transferTimer.isSome = true → s.plan ≠ .transferWait →
      exec .transferSettleExpiry s = .next { s with transferTimer := none, genSettled := true })

/-- R15: GEN_DERATE taken either way sets A_eff to floor(A × Dr / 100) or A and changes no plan; the commitments in the list keep
their figures, and the pass it triggers can only add to them. In SERVICE the service set is evaluated at the new level (R126,
R133); that a released car's order is held back for a commitment of any kind is DEDUCED (assumption 17). -/
def Obligations.DerateSetsAllowance : Prop :=
  ∀ (s : State) (v : Bool), s.derate.taken = !v →
    Completes (.genDerateTaken v) s (fun t =>
      t.derate.taken = v ∧ t.aEff = (if v then s.active.plan.a * s.active.plan.dr / 100 else s.active.plan.a) ∧
      t.plan = s.plan ∧ s.commitments <+: t.commitments ∧ t.xfer = s.xfer ∧ t.gen = s.gen ∧ t.active = s.active ∧
      t.mgmt = s.mgmt ∧ t.settleTimer = s.settleTimer ∧ t.manual = s.manual ∧
      (∀ i, (s.toBlock.car i).SameKnown (t.toBlock.car i)) ∧
      (s.plan = .service → s.toBlock.BudgetOk → s.toBlock.Settled →
        ({ s.toBlock with derate := { pin := v, last := some v, taken := v } } : Block).Evaluated t.toBlock))

/-- R9, R10, R12, R121: the transfer-settle expiry in TRANSFER_WAIT: generator settled, no car is STANDING any more, and the plan
is RECALL while a car holds recall open once the STANDING cars have their RECALL orders and the arrival checks are made, as one
does that is not yet at its landing; with none it is SERVICE. SERVICE may end the step with cars that hold recall open, because
its evaluation releases serving cars. EMERG_ACTIVE is asserted, and ALL_RECALLED exactly in SERVICE with no car holding recall
open (R17, R18). -/
def Obligations.SettleExpiryStartsRecall : Prop :=
  ∀ s : State, s.transferTimer.isSome = true → s.plan = .transferWait → s.toBlock.Settled →
    Completes .transferSettleExpiry s (fun t =>
      t.genSettled = true ∧ t.transferTimer = none ∧ t.modeTimer = some 10 ∧ t.toBlock.emergActive = true ∧
      (t.toBlock.allRecalled = true ↔ t.plan = .service ∧ ∀ i, (t.toBlock.car i).state.holdsRecall = false) ∧
      (t.plan = .recall → t.toBlock.recallWork ≠ 0) ∧
      s.toBlock.EntersRecall (fun i => (s.toBlock.car i).state) t.toBlock ∧
      (∀ i, (t.toBlock.car i).state ≠ .standing) ∧ s.commitments <+: t.commitments ∧
      ({ s.toBlock with transferTimer := none, genSettled := true } : Block).KeepsBase t.toBlock)

/-- R11, R12, R18: the report that recall work is empty takes RECALL to SERVICE while no car holds recall open; in every other
plan, and in RECALL when a car holds recall open again, it changes nothing but its own count. The count of reports, and that such a
report is let pass, are the model's (assumption 5). On entry into SERVICE the service set is evaluated (R126); that a released car's
order is held back for a commitment of any kind is DEDUCED (assumption 17). -/
def Obligations.RecallWorkEmptiesEntersService : Prop :=
  ∀ s : State,
    (s.plan = .recall → s.toBlock.recallWork = 0 → Completes .recallWorkEmpties s (fun t =>
      t.plan = .service ∧ t.modeTimer = some 10 ∧ s.commitments <+: t.commitments ∧
      (s.toBlock.BudgetOk → s.toBlock.Evaluated t.toBlock) ∧
      ({ s.toBlock with recallReports := s.recallReports - 1 } : Block).KeepsBase t.toBlock)) ∧
    (s.plan ≠ .recall ∨ s.toBlock.recallWork ≠ 0 →
      exec .recallWorkEmpties s = .next { s with recallReports := s.recallReports - 1 })

/-- R6, R14: NORMAL is entered by the adoption expiry with XFER_EMERG negated, which discards every adopted commitment, and by the
report of an empty list in MAINS_RETURN; with commitments left that report changes nothing but its own count. The count of reports
is the model's (assumption 5). -/
def Obligations.NormalIsEntered : Prop :=
  (∀ s : State, s.adoptionTimer.isSome = true → s.plan = .adopt → s.xfer.taken = false →
    Completes .adoptionExpiry s (fun t =>
      t.plan = .normal ∧ t.toBlock.emergActive = false ∧ t.toBlock.allRecalled = false ∧ t.adoptionTimer = none ∧
      t.modeTimer = some 10 ∧ t.commitments = [] ∧ t.manual = none ∧
      ∀ i, Car.Cleared (s.toBlock.car i) (t.toBlock.car i))) ∧
  (∀ s : State, s.plan = .mainsReturn → s.commitments = [] →
    Completes .commitmentListEmpties s (fun t =>
      t.plan = .normal ∧ t.modeTimer = some 10 ∧ t.commitments = [] ∧ t.manual = none ∧
      ∀ i, Car.Cleared (s.toBlock.car i) (t.toBlock.car i))) ∧
  (∀ s : State, s.plan ≠ .mainsReturn ∨ s.commitments ≠ [] →
    exec .commitmentListEmpties s = .next { s with listReports := s.listReports - 1 })

/-- R6, R7, R69: the adoption expiry with XFER_EMERG asserted and the generator not settled: TRANSFER_WAIT, and adopted
commitments stay. With the generator settled already the same step goes on to RECALL, or through it to SERVICE (R9, R10). -/
def Obligations.AdoptionExpiryKeepsCommitments : Prop :=
  (∀ s : State, s.adoptionTimer.isSome = true → s.plan = .adopt → s.xfer.taken = true → s.genSettled = false →
    Completes .adoptionExpiry s (fun t =>
      t.plan = .transferWait ∧ t.adoptionTimer = none ∧ t.commitments = s.commitments ∧ t.settleTimer = s.settleTimer ∧
      (∀ i, (t.toBlock.car i).attempts = 0) ∧ (∀ i, (t.toBlock.car i).state ≠ .inGroup) ∧
      ({ s.toBlock with adoptionTimer := none } : Block).KeepsBase t.toBlock)) ∧
  (∀ s : State, s.adoptionTimer.isSome = true → s.plan = .adopt → s.xfer.taken = true → s.genSettled = true →
    s.toBlock.Settled →
    Completes .adoptionExpiry s (fun t =>
      t.adoptionTimer = none ∧ s.commitments <+: t.commitments ∧ (∀ i, (t.toBlock.car i).attempts = 0) ∧
      s.toBlock.EntersRecall (fun i =>
        if (s.toBlock.car i).state = .inGroup then stoodState s.toBlock i else (s.toBlock.car i).state) t.toBlock ∧
      ({ s.toBlock with adoptionTimer := none } : Block).KeepsBase t.toBlock))

/-- R16, R102, R144: at the mode-repeat expiry the timer starts again and a mode frame for the current plan is queued, or skipped
with nothing recorded; the mirror copies it to the G-port, which otherwise does not change. -/
def Obligations.ModeFrameRepeats : Prop :=
  ∀ s : State, s.modeTimer.isSome = true →
    Completes .modeRepeatExpiry s (fun t =>
      t = { s with modeTimer := some 10, cport := t.cport, gport := t.gport } ∧
      t.cport = (if s.cport.roomOwn then
        { s.cport with tx := s.cport.tx ++
            [ownItem (s.toBlock.ownFrame 63 .modeFrame [if s.plan = .normal then 0 else 1])] }
        else s.cport) ∧
      t.gport = (if s.cport.roomOwn && s.active.plan.mirror && s.gport.roomOwn then
        s.gportWith (ownItem (s.toBlock.ownFrame 0 .modeFrame [if s.plan = .normal then 0 else 1])) else s.gport))

/-! ### The Car Table -/

/-- R26, R27, R30, R36: a report from the bound node, or for an unbound car, is learned with every field as R26 treats it, binds
the car, restarts its report timer and clears SILENT; no other car's learned part, and no line or key, changes, nor does a table
but in fallback mode, where the car becomes present (R22). Its motion advances the car's commitment, ends it or adopts a run
(R58, R59, R61, R66, R67, R69), behind which the step's pass may grant one more; an unauthorized run that ends fails its car
(R68), also where it was the last commitment in MAINS_RETURN: there R61 lets the change to NORMAL come before or after, and that
it comes after is a DESIGN CHOICE (assumption 31).

What the report makes of its car's restoration record is `Block.Restored`, for every plan: the car is placed by its first report
(R107, R108), a run that ends at its target lands it and one that ends elsewhere counts an attempt or fails it (R115, R116), a
fault code is kept (R114), an arrival lands it (R112), an open door parks it (R117), motion without a commitment moves no state
and stops the door timer (R118), and the mode comparison comes last (R109). That a run ended in GRANTED counts as elsewhere is
DEDUCED (assumption 21); that a LANDED car that moves with its door open parks is a DESIGN CHOICE (assumption 33). -/
def Obligations.ReportIsLearned : Prop :=
  ∀ (s : State) (i : CarIx) (dst src landing between motion dir door load mode fault ack : Byte),
    let f := reportFrame dst src i landing between motion dir door load mode fault ack
    s.Takes .c f .carReport → State.HearsReport s i src →
    (s.toBlock.car i).bound = none ∨ (s.toBlock.car i).bound = some src.toNat →
    Completes .carReport s (fun t =>
      (t.toBlock.car i).bound = some src.toNat ∧
      (t.toBlock.car i).learned =
        { heard := true
          landing := if between ≠ 0 ∧ 127 ≤ landing.toNat then 126 else min landing.toNat 127
          between := between ≠ 0
          motion := if motion = 0 then .stopped else if motion = 1 then .starting else .running
          dir := if dir = 1 then some .up else if dir = 2 then some .down else none
          door := if door = 1 then .moving else if door = 2 then .opened else .closed
          load := if load = 255 then .unknown else .known (min load.toNat 150)
          mode := if mode = 0 then .automatic else if mode = 1 then .firefighter else if mode = 2 then .inspection
            else if mode = 3 then .independent else .outOfService
          fault := fault
          ackMode := if ack = 1 then .emergency else .normal
          silent := false
          reportTimer := some s.active.plan.tSilent
          firstForeign := (s.toBlock.car i).learned.firstForeign } ∧
      (∀ j, j ≠ i → (s.toBlock.car j).SameKnown (t.toBlock.car j)) ∧
      t.cport.rx = s.cport.takeHead.rx ∧ t.xfer = s.xfer ∧ t.gen = s.gen ∧ t.derate = s.derate ∧ t.aEff = s.aEff ∧
      t.active.plan = s.active.plan ∧ t.mgmt = s.mgmt ∧ t.pendingTable = s.pendingTable ∧
      t.active = (if s.fallback then
        { s.active with cars := s.active.cars.set i.val { s.toBlock.conf i with present := true } i.isLt } else s.active) ∧
      (let kept := s.commitments.map (heardAgain i (s.toBlock.car i).learned.silent)
       let fig := if s.fallback then { ds := 0, dh := 0, dl := 0 }
         else figuresAdopted (s.toBlock.conf i) (t.toBlock.car i).learned.load (t.toBlock.car i).learned.dir
       (∀ c, s.toBlock.commitment? i = some c →
         (motion ≠ 0 → c.phase = .granted →
           kept.map (startedUp i s.active.plan.tAccel) <+: t.commitments ∧ t.settleTimer = s.settleTimer) ∧
         (motion = 1 → c.phase = .starting → kept <+: t.commitments ∧ t.settleTimer = s.settleTimer) ∧
         (motion ≠ 0 → motion ≠ 1 → c.phase = .starting → kept.map (ranUp i) <+: t.commitments ∧
           t.settleTimer = if s.active.plan.tSettle = 0 then s.settleTimer else some s.active.plan.tSettle) ∧
         (motion ≠ 0 → c.phase = .running ∨ c.phase = .adopted →
           kept <+: t.commitments ∧ t.settleTimer = s.settleTimer) ∧
         (motion = 0 → kept.filter (fun x => x.car ≠ i) <+: t.commitments ∧
           t.settleTimer = if c.phase = .starting ∧ s.active.plan.tSettle ≠ 0 then some s.active.plan.tSettle
             else s.settleTimer) ∧
         (motion = 0 → mode = 0 → c.unauthorized = true → s.plan ≠ .normal → (s.toBlock.car i).state ≠ .firefighter →
           (s.toBlock.car i).state ≠ .failed → (s.toBlock.car i).state ≠ .conflict →
           (t.toBlock.car i).state = .failed ∧ (t.toBlock.car i).reason = .unauthorized)) ∧
       (s.toBlock.commitment? i = none →
         (motion ≠ 0 → s.plan.emergency = true →
           s.commitments ++ [adoption i fig s.active.plan.tRun true] <+: t.commitments ∧ i ∉ queueCars t.queue) ∧
         (motion ≠ 0 → s.plan = .adopt →
           s.commitments ++ [adoption i fig s.active.plan.tRun false] <+: t.commitments ∧ i ∉ queueCars t.queue) ∧
         (motion = 0 ∨ s.plan = .normal → s.commitments <+: t.commitments))) ∧
      (s.toBlock.BudgetOk → s.toBlock.Settled → s.toBlock.Restored i src (t.toBlock.car i).learned t.toBlock))

/-- R25, R33, R29: reports that are not accepted. One from a node that is not the bound one is not learned: the car is in
CONFLICT, the node is barred and, at the first such report, becomes the first foreign node; the commitments in the list stay. At
that first report the car's queue entry is removed, with the refusal CONFLICT to its bound node, and a plan notice of the move
goes to node 0; the removal is a trigger, and but for its pass no other entry, commitment or car changes, unless the car left
SERVING in SERVICE, which is an evaluation event (R126). For a car in CONFLICT already none of this happens (R34). Checks 1 to 3
dispose of the others with no effect on any car: a source outside 1 to 61, and a DISABLED car, discard the report; a car number
outside 1 to 16, and an absent car in configured mode, send it up under the other row in force unless its source is barred
(R135, R136, R137), with TX_DISCARD where no relayed place is free (R148). -/
def Obligations.ForeignReportMakesConflict : Prop :=
  (∀ (s : State) (i : CarIx) (n : Nat) (dst src landing between motion dir door load mode fault ack : Byte),
    let f := reportFrame dst src i landing between motion dir door load mode fault ack
    s.Takes .c f .carReport → State.HearsReport s i src → (s.toBlock.car i).bound = some n → n ≠ src.toNat →
    Completes .carReport s (fun t =>
      (t.toBlock.car i).state = .conflict ∧ (t.toBlock.car i).bound = some n ∧ src.toNat ∈ (t.toBlock.car i).foreign ∧
      t.toBlock.barred src.toNat = true ∧
      (t.toBlock.car i).learned = { (s.toBlock.car i).learned with
        firstForeign := if (s.toBlock.car i).state = .conflict then (s.toBlock.car i).learned.firstForeign
          else some src.toNat } ∧
      s.commitments <+: t.commitments ∧ (∀ j, j ≠ i → (s.toBlock.car j).SameKnown (t.toBlock.car j)) ∧
      t.active = s.active ∧ t.mgmt = s.mgmt ∧ t.plan = s.plan ∧
      ((s.toBlock.car i).state = .conflict → s.toBlock.Settled →
        t.queue = s.queue ∧ t.commitments = s.commitments ∧ t.cport.tx = s.cport.tx ∧ t.gport.tx = s.gport.tx ∧
        (∀ j, (s.toBlock.car j).SameButMarks { t.toBlock.car j with foreign := (s.toBlock.car j).foreign })) ∧
      ((s.toBlock.car i).state ≠ .conflict → i ∉ queueCars t.queue ∧
        (let notice := ownItem (s.toBlock.ownFrame 0 .planNotice [s.plan.code, byteOf (carNo i), RState.conflict.code, 0])
         (s.toBlock.entry? i = none → s.gport.roomOwn = true → ∃ m, t.gport.tx = s.gport.tx ++ notice :: m) ∧
         (s.gport.up = true → s.gport.ownCount + 2 ≤ 8 →
           ∃ l m, l.length ≤ 1 ∧ t.gport.tx = s.gport.tx ++ l ++ notice :: m)) ∧
        (∀ e, s.toBlock.entry? i = some e →
          let refusal := s.refusal (byteOf n) i e.tag 5
          (s.cport.roomOwn = true → ∃ l, t.cport.tx = s.cport.tx ++ refusal :: l) ∧
          (s.cport.roomOwn = false → t.cport.errors.noticeLost = true) ∧
          (s.toBlock.Settled → s.plan ≠ .service ∨ (s.toBlock.car i).state ≠ .serving →
            (s.toBlock.withoutEntry i).ThenPass i (s.cportBehind refusal) t.toBlock)) ∧
        (s.toBlock.Settled → s.toBlock.entry? i = none → s.plan ≠ .service ∨ (s.toBlock.car i).state ≠ .serving →
          t.queue = s.queue ∧ t.commitments = s.commitments ∧ t.cport.tx = s.cport.tx ∧
          ∀ j, j ≠ i → (s.toBlock.car j).SameButMarks (t.toBlock.car j))))) ∧
  (∀ (s : State) (dst src car : Byte) (fields : List Byte),
    let f : Frame := { dst := dst, src := src, kind := 1, payload := car :: fields }
    let cell := if s.plan = .normal then s.active.plan.relay.otherNormal else s.active.plan.relay.otherEmergency
    s.Takes .c f .carReport →
    (src.toNat = 0 ∨ 61 < src.toNat → exec .carReport s = .next { s with cport := s.cport.takeHead }) ∧
    (1 ≤ src.toNat → src.toNat ≤ 61 →
      (car.toNat = 0 ∨ 16 < car.toNat ∨
        ∃ i, car = byteOf (carNo i) ∧ s.fallback = false ∧ (s.toBlock.conf i).present = false) →
      exec .carReport s = .next { s with
        cport := s.cport.takeHead
        gport := if cell && !s.toBlock.barred src.toNat then s.gport.offered f else s.gport }) ∧
    (∀ i, 1 ≤ src.toNat → src.toNat ≤ 61 → car = byteOf (carNo i) →
      s.fallback = true ∨ (s.toBlock.conf i).present = true → (s.toBlock.conf i).relay = .disabled →
      exec .carReport s = .next { s with cport := s.cport.takeHead }))

/-- R36, R65, R122: at the report timer's expiry the car is SILENT with the timer stopped, its commitment is held with the silent-
release timer started, and its restoration state does not change; the notice SILENT goes out first if it finds room. -/
def Obligations.ReportTimerMakesSilent : Prop :=
  ∀ (s : State) (i : CarIx), (s.toBlock.car i).learned.reportTimer.isSome = true → s.toBlock.Settled →
    Completes (.reportTimerExpiry i) s (fun t =>
      (t.toBlock.car i).learned = { (s.toBlock.car i).learned with silent := true, reportTimer := none } ∧
      (t.toBlock.car i).state = (s.toBlock.car i).state ∧
      s.commitments.map (heldForSilence i s.active.plan.tRelease) <+: t.commitments ∧
      (s.gport.roomOwn = true → ∃ l, t.gport.tx = s.gport.tx ++
        ownItem (s.toBlock.ownFrame 0 .planNotice
          [s.plan.code, byteOf (carNo i), (s.toBlock.car i).state.code, 5]) :: l) ∧
      (∀ j, j ≠ i → (s.toBlock.car j).SameKnown (t.toBlock.car j)) ∧ t.plan = s.plan ∧ t.mgmt = s.mgmt ∧ t.active = s.active)

/-- R117: at the door timer's expiry a LANDED car parks with the door alarm set, PARKED_AWAY under a DIVERT order and PARKED
otherwise. In SERVICE its parking is an evaluation event, which leaves it parked or makes it SERVING under a SERVE order; that the
door alarm of a car made SERVING stays set is DEDUCED (assumption 20).

R131, R141: in SERVICE a car of the manual selection is made SERVING by it, and its slot is closed by release: where no other car
moves, its held order goes to the C-port behind the SERVE order, or in its place if that was skipped for want of room, and the
notice RELEASED goes to the order's source. That the slot is kept from the parking to that evaluation is DEDUCED (assumption
28). -/
def Obligations.DoorTimerParks : Prop :=
  ∀ (s : State) (i : CarIx), (s.toBlock.car i).doorTimer.isSome = true → (s.toBlock.car i).state = .landed →
    s.toBlock.Settled →
    Completes (.doorTimerExpiry i) s (fun t =>
      (t.toBlock.car i).doorAlarm = true ∧ (t.toBlock.car i).doorTimer = none ∧ t.plan = s.plan ∧
      s.commitments <+: t.commitments ∧ s.toBlock.KeepsBase t.toBlock ∧
      ((t.toBlock.car i).state = (match (s.toBlock.car i).order with
          | some (.divert _) => .parkedAway
          | _ => .parked) ∨
        (s.plan = .service ∧ (t.toBlock.car i).state = .serving ∧ (t.toBlock.car i).selected = true ∧
          (t.toBlock.car i).order = some .serve)) ∧
      (∀ m, s.plan = .service → s.manual = some m → i ∈ m →
        (t.toBlock.car i).state = .serving ∧ (t.toBlock.car i).slot = .closed ∧
        ∀ dst src landing : Byte,
          let f := dispatchFrame dst src i landing
          (s.toBlock.car i).slot = .holding f → s.toBlock.entry? i = none →
          (∀ j, j ≠ i → ((s.toBlock.car j).state.isParked = true → j ∉ m) ∧ ((s.toBlock.car j).state = .serving → j ∈ m)) →
          (∃ l, t.cport.tx = s.cport.tx ++
            (if s.cport.roomOwn then
              [ownItem (s.toBlock.ownFrame (s.toBlock.busNode i) .carOrder [byteOf (carNo i), 3, 0])] else []) ++
            (if s.cport.roomRelayed then [relayedItem f] else []) ++ l) ∧
          (s.cport.roomRelayed = false → t.cport.errors.txDiscard = true) ∧
          (src ≠ 63 → s.gport.up = true → s.gport.ownCount + 4 ≤ 8 →
            ∃ l m, t.gport.tx = s.gport.tx ++ l ++ s.noticeItem (byteOf (carNo i)) src landing 3 :: m)))

/-! ### Demand arithmetic -/

/-- R48: the start figure and its bounds, for every car record in range, every load and both directions. -/
def Obligations.StartFigureBounds : Prop :=
  ∀ (c : CarConf) (load : Load) (d : Dir), c.inRange = true →
    let g := figuresDir c load d
    g.ds = max g.dh ((c.pm * c.s + 99) / 100 : Nat) ∧
    (c.pm : Int) ≤ ((c.pm * c.s + 99) / 100 : Nat) ∧ (((c.pm * c.s + 99) / 100 : Nat) : Int) ≤ 3 * c.pm ∧
    1 ≤ g.ds ∧ g.ds ≤ 3 * c.pm ∧
    g.dh ≤ ((c.pm * 219 + 99) / 100 : Nat) ∧ (((c.pm * 219 + 99) / 100 : Nat) : Int) ≤ 3 * c.pm ∧
    -((c.pm * 220 / 100 : Nat) : Int) ≤ g.dl

/-- R47: a running percentage as power, rounded up when not negative and toward zero when negative; Dh is taken from the
percentage of the demand side and Dl from that of the returned side; for a car record in range the percentages lie between
−220 and 219 and Pm × |r| is at most 550000. -/
def Obligations.RunningPower : Prop :=
  (∀ (c : CarConf) (r : Int), 0 ≤ r → c.pm * r ≤ 100 * powerOf c r ∧ 100 * powerOf c r < c.pm * r + 100) ∧
  (∀ (c : CarConf) (r : Int), r < 0 → 100 * -powerOf c r ≤ c.pm * -r ∧ c.pm * -r < 100 * -powerOf c r + 100) ∧
  (∀ (c : CarConf) (load : Load) (d : Dir),
    (figuresDir c load d).dh = powerOf c (runPercent c (imbalance c d (effHigh load d))) ∧
    (figuresDir c load d).dl = powerOf c (runPercent c (imbalance c d (effLow load d)))) ∧
  (∀ (c : CarConf) (load : Load) (d : Dir), c.inRange = true →
    ∀ r, r = runPercent c (imbalance c d (effHigh load d)) ∨ r = runPercent c (imbalance c d (effLow load d)) →
      -220 ≤ r ∧ r ≤ 219 ∧ c.pm * r.natAbs ≤ 550000)

/-- R43: the figures of an adopted run: in the reported direction, or at the worst of both when the report names none. -/
def Obligations.AdoptedFigures : Prop :=
  ∀ (b : Block) (i : CarIx), b.fallback = false →
    let c := b.conf i
    let load := (b.car i).learned.load
    (∀ d, (b.car i).learned.dir = some d → b.figuresOfReport i = figuresDir c load d) ∧
    ((b.car i).learned.dir = none →
      (b.figuresOfReport i).dh = max (figuresDir c load .up).dh (figuresDir c load .down).dh ∧
      (b.figuresOfReport i).dl = min (figuresDir c load .up).dl (figuresDir c load .down).dl ∧
      (b.figuresOfReport i).ds = max (figuresDir c load .up).ds (figuresDir c load .down).ds)

/-! ### Commitments -/

/-- R62: the grant lapses: the commitment leaves the list, the car is refused LAPSED if the frame finds room, and a RECALLING or
DIVERTING car counts an attempt. -/
def Obligations.GrantLapses : Prop :=
  ∀ (s : State) (i : CarIx) (c : Commitment) (tag : Byte) (n : Nat),
    s.toBlock.BudgetOk → s.toBlock.Settled → s.toBlock.commitment? i = some c → c.phase = .granted →
    c.grantTimer.isSome = true → c.tag = some tag → (s.toBlock.car i).bound = some n →
    Completes (.grantTimerExpiry i) s (fun t =>
      i ∉ listCars t.commitments ∧ s.commitments.filter (fun x => x.car ≠ i) <+: t.commitments ∧
      (s.cport.roomOwn = true → ∃ l, t.cport.tx = s.cport.tx ++
        ownItem (s.toBlock.ownFrame (byteOf n) .startRefusal [byteOf (carNo i), tag, 15]) :: l) ∧
      ((s.toBlock.car i).state = .recalling ∨ (s.toBlock.car i).state = .diverting →
        (t.toBlock.car i).attempts = (s.toBlock.car i).attempts + 1 ∧
        ((s.toBlock.car i).attempts + 1 < s.active.plan.attemptLimit → (t.toBlock.car i).state = .recallPending)) ∧
      t.plan = s.plan ∧ t.settleTimer = s.settleTimer ∧ s.toBlock.KeepsBase t.toBlock)

/-- R60: at the acceleration timer's expiry the commitment is RUNNING with SLOW_START at the figures it had, and the slot is freed
with settle: with T_settle above 0 the settle timer starts and no pass is made; the queue does not change. -/
def Obligations.AccelerationExpirySlowStart : Prop :=
  ∀ (s : State) (i : CarIx) (c : Commitment), s.toBlock.Settled → s.toBlock.commitment? i = some c → c.phase = .starting →
    c.accelTimer.isSome = true → s.active.plan.tSettle ≠ 0 →
    Completes (.accelerationTimerExpiry i) s (fun t =>
      t = { s with commitments := s.commitments.map (slowStarted i), settleTimer := some s.active.plan.tSettle,
                   cars := t.cars } ∧
      ∀ j, (s.toBlock.car j).SameButMarks (t.toBlock.car j))

/-- R64, R115: at the run timer's expiry the commitment is kept with everything but its run timer, and the car is FAILED with
reason RUN_LIMIT unless it is FAILED or in CONFLICT already. -/
def Obligations.RunLimitFailsCar : Prop :=
  ∀ (s : State) (i : CarIx) (c : Commitment) (k : Nat), s.toBlock.Settled → s.toBlock.commitment? i = some c →
    c.runTimer = .running k →
    Completes (.runTimerExpiry i) s (fun t =>
      s.commitments.map (ranOut i) <+: t.commitments ∧
      ((s.toBlock.car i).state ≠ .failed → (s.toBlock.car i).state ≠ .conflict →
        (t.toBlock.car i).state = .failed ∧ (t.toBlock.car i).reason = .runLimit ∧ (t.toBlock.car i).order = none) ∧
      ((s.toBlock.car i).state = .failed ∨ (s.toBlock.car i).state = .conflict →
        (s.toBlock.car i).SameButMarks (t.toBlock.car i)) ∧
      t.plan = s.plan ∧ t.settleTimer = s.settleTimer ∧ s.toBlock.KeepsBase t.toBlock)

/-- R66: at the silent-release expiry the commitment is removed, the slot is freed without settle, and the car is FAILED with
reason SILENT unless it is FAILED or in CONFLICT already. -/
def Obligations.SilentReleaseFailsCar : Prop :=
  ∀ (s : State) (i : CarIx) (c : Commitment), s.toBlock.BudgetOk → s.toBlock.Settled → s.toBlock.commitment? i = some c →
    c.silentHold = true → c.releaseTimer.isSome = true →
    Completes (.silentReleaseExpiry i) s (fun t =>
      i ∉ listCars t.commitments ∧ s.commitments.filter (fun x => x.car ≠ i) <+: t.commitments ∧
      ((s.toBlock.car i).state ≠ .failed → (s.toBlock.car i).state ≠ .conflict →
        (t.toBlock.car i).state = .failed ∧ (t.toBlock.car i).reason = .silent) ∧
      t.plan = s.plan ∧ t.settleTimer = s.settleTimer ∧ s.toBlock.KeepsBase t.toBlock)

/-! ### The start queue -/

/-- R84, R86, R87: what a scan of the queue grants: the first entry that fits, with every entry before it passed over; the entries
noted are those before it that are not silent and have verdict UPPER, and none of these is BLOCKING. And it does grant: an entry
that fits, whose car is not silent, with only entries that are passed over before it. -/
def Obligations.ScanGrantsFirstFit : Prop :=
  (∀ (b : Block) (e : Entry) (noted : List CarIx), b.scan b.queue [] = some (e, noted) →
    ∃ pre post, b.queue = pre ++ e :: post ∧ b.verdict e = .fits ∧ (b.car e.car).learned.silent = false ∧
      (∀ x ∈ pre, (b.car x.car).learned.silent = true ∨ b.verdict x ≠ .fits) ∧
      (∀ x ∈ pre, (b.car x.car).learned.silent = false → b.verdict x = .upper → x.blocking = false ∧ x.car ∈ noted) ∧
      (∀ i ∈ noted, ∃ x ∈ pre, x.car = i ∧ (b.car i).learned.silent = false ∧ b.verdict x = .upper)) ∧
  (∀ (b : Block) (e : Entry) (pre post : List Entry), b.queue = pre ++ e :: post → (∀ x ∈ pre, b.passesOver x) →
    (b.car e.car).learned.silent = false → b.verdict e = .fits → ∃ noted, b.scan b.queue [] = some (e, noted))

/-- R81, R82, R85, R56: the settle timer's expiry is a trigger: with the slot free, the plan RECALL or SERVICE, room on the C-port
and a fitting entry of a car that is not silent at the head, that entry is granted. Such an entry behind others that are passed
over is granted too, and each of those that the upper condition held back has one skip more and is BLOCKING at the skip limit;
every other entry is as it was. -/
def Obligations.SettleExpiryGrantsHead : Prop :=
  (∀ (s : State) (e : Entry) (rest : List Entry), s.settleTimer.isSome = true → s.toBlock.Settled → s.toBlock.BudgetOk →
    s.toBlock.HeadFits e rest → s.cport.roomOwn = true →
    Completes .settleTimerExpiry s (fun t =>
      t.settleTimer = none ∧ s.toBlock.GrantsHead e rest s.cport.tx t.toBlock ∧ s.toBlock.KeepsBase t.toBlock ∧
      t.plan = s.plan)) ∧
  (∀ (s : State) (e : Entry) (pre post : List Entry), s.settleTimer.isSome = true → s.toBlock.Settled → s.toBlock.BudgetOk →
    s.queue = pre ++ e :: post → s.plan = .recall ∨ s.plan = .service → s.toBlock.slotHolder = none →
    s.cport.roomOwn = true → (∀ x ∈ pre, s.toBlock.passesOver x) → (s.toBlock.car e.car).learned.silent = false →
    s.toBlock.verdict e = .fits →
    Completes .settleTimerExpiry s (fun t =>
      t.settleTimer = none ∧ t.queue = pre.map s.toBlock.skipped ++ post ∧ t.toBlock.slotHolder = some e.car ∧
      s.commitments <+: t.commitments ∧ t.commitments.length = s.commitments.length + 1 ∧
      s.toBlock.KeepsBase t.toBlock ∧ t.plan = s.plan))

/-! ### The start protocol -/

/-- R93 checks 1 and 2, R6, R14: outside TRANSFER_WAIT, RECALL and SERVICE every request of a car controller is refused, with
reason NOT_EMERGENCY in NORMAL and ADOPT and MAINS_RETURN in MAINS_RETURN; the refusal goes to its sender with its tag, and no
entry and no commitment is made. In those three, checks 3 to 12: the reason of the first check that applies, an entry left as it
stood (R94), and after WRONG_TARGET the order again to a car in RECALL_PENDING or LANDED (R95). Check 13: TOO_LARGE removes the
entry and fails the car of a RECALL or DIVERT request (R51). Check 14: REGEN removes the entry and fails the car of a DIVERT request
(R52); after a RECALL request the car is diverted, or FAILED if it has no divert landing (R113, R112). The last two are stated of
every car but a LANDED one, whose request comes to them by assumption 32 or 34 only. -/
def Obligations.RequestRefusedByPlan : Prop :=
  (∀ (s : State) (i : CarIx) (dst src tag target load : Byte),
    s.Takes .c (requestFrame dst src i tag target load) .startRequest → 1 ≤ src.toNat → src.toNat ≤ 61 →
    s.plan = .normal ∨ s.plan = .adopt ∨ s.plan = .mainsReturn → s.toBlock.Settled →
    Completes .startRequest s (fun t =>
      t.queue = s.queue ∧ t.commitments = s.commitments ∧ t.plan = s.plan ∧
      (t.toBlock.car i).lastTag =
        (if (s.toBlock.car i).bound = some src.toNat then some tag else (s.toBlock.car i).lastTag) ∧
      (s.cport.roomOwn = true → t.cport.tx = s.cport.tx ++
        [ownItem (s.toBlock.ownFrame src .startRefusal
          [byteOf (carNo i), tag, if s.plan = .mainsReturn then 2 else 1])]) ∧
      (s.cport.roomOwn = false → t.cport.tx = s.cport.tx ∧ t.cport.errors.noticeLost = true))) ∧
  (∀ (s : State) (i : CarIx) (dst src tag target load r : Byte), s.TakesRequest i dst src tag target load →
    s.toBlock.turnsAway i src tag target.toNat = some r →
    let again := r = 9 ∧ (s.toBlock.car i).state ≠ .standing
    Completes .startRequest s (fun t =>
      t.queue = s.queue ∧ t.commitments = s.commitments ∧ t.plan = s.plan ∧ t.settleTimer = s.settleTimer ∧
      (t.toBlock.car i).lastTag =
        (if (s.toBlock.car i).bound = some src.toNat then some tag else (s.toBlock.car i).lastTag) ∧
      (s.toBlock.car i).SameButMarks { t.toBlock.car i with lastTag := (s.toBlock.car i).lastTag } ∧
      (∀ j, j ≠ i → (s.toBlock.car j).SameButMarks (t.toBlock.car j)) ∧
      (s.cport.roomOwn = true → ∃ l, t.cport.tx = s.cport.tx ++ s.refusal src i tag r :: l) ∧
      (¬ again → s.cport.roomOwn = true → t.cport.tx = s.cport.tx ++ [s.refusal src i tag r]) ∧
      (again → s.RoomFor 2 → t.cport.tx = s.cport.tx ++ [s.refusal src i tag r, s.toBlock.orderItem i]) ∧
      (again → (s.toBlock.car i).state = .recallPending → s.toBlock.entry? i = none →
        (t.toBlock.car i).resendTimer = some s.active.plan.tSilent) ∧
      (s.cport.roomOwn = false → t.cport.tx = s.cport.tx ∧ t.cport.errors.noticeLost = true))) ∧
  (∀ (s : State) (i : CarIx) (dst src tag target load : Byte) (k : RunKind) (d : Dir),
    let f := s.toBlock.figuresRequested i (Load.ofByte load) d
    let tooLarge := (s.active.plan.a : Int) < f.ds ∨ (s.active.plan.k ≠ 0 ∧ (s.active.plan.k : Int) < f.ds)
    let watched := k = .recall ∨ k = .divert
    s.TakesRequest i dst src tag target load → s.toBlock.Admits i src tag target.toNat k d →
    (s.toBlock.car i).state ≠ .landed → s.fallback = false → tooLarge ∨ min f.dl 0 < -(s.active.plan.q : Int) →
    Completes .startRequest s (fun t =>
      i ∉ queueCars t.queue ∧ i ∉ listCars t.commitments ∧ s.commitments <+: t.commitments ∧ t.plan = s.plan ∧
      (s.toBlock.entry? i = none → s.plan ≠ .service ∨ k ≠ .recall →
        t.queue = s.queue ∧ t.commitments = s.commitments) ∧
      (t.toBlock.car i).lastTag = some tag ∧ (t.toBlock.car i).attempts = (s.toBlock.car i).attempts ∧
      (s.cport.roomOwn = true → ∃ l, t.cport.tx = s.cport.tx ++ s.refusal src i tag (if tooLarge then 12 else 13) :: l) ∧
      (¬ watched → (t.toBlock.car i).state = (s.toBlock.car i).state ∧ (t.toBlock.car i).order = (s.toBlock.car i).order) ∧
      (watched → tooLarge → (t.toBlock.car i).state = .failed ∧ (t.toBlock.car i).reason = .tooLarge) ∧
      (k = .divert → ¬ tooLarge → (t.toBlock.car i).state = .failed ∧ (t.toBlock.car i).reason = .regen) ∧
      (k = .recall → ¬ tooLarge → s.toBlock.divertTo i load = none →
        (t.toBlock.car i).state = .failed ∧ (t.toBlock.car i).reason = .regen) ∧
      (∀ p, k = .recall → ¬ tooLarge → s.toBlock.divertTo i load = some p →
        (s.RoomFor 2 → ∃ l, t.cport.tx = s.cport.tx ++ s.refusal src i tag 13 ::
          ownItem (s.toBlock.ownFrame src .carOrder [byteOf (carNo i), 2, byteOf p]) :: l) ∧
        ((t.toBlock.car i).order = some (.divert p) ∨ (s.plan = .service ∧ (t.toBlock.car i).state = .serving)) ∧
        (let here := s.plan ≠ .transferWait ∧ (s.toBlock.car i).learned.between = false ∧
           (s.toBlock.car i).learned.motion = .stopped
         (¬ here → (t.toBlock.car i).state = .recallPending) ∧
         (here → (s.toBlock.car i).learned.door ≠ .opened → (t.toBlock.car i).state = .landed) ∧
         (here → (s.toBlock.car i).learned.door = .opened → (t.toBlock.car i).state = .parkedAway ∨
           (s.plan = .service ∧ (t.toBlock.car i).state = .serving))))))

/-- R93, R75, R85, R97: a SERVING car's request from its bound node, for a run in its served range that fits, with nothing
queued, the slot free and no settle running, is granted in its own pass: the commitment is made at the figures of the run and
the grant is sent with the full window. Any request that passes all checks joins the queue behind its class or refreshes its
car's entry (R75, R76, R77), that of a LANDED car which a report has put elsewhere among them (`Block.Admits`): that it passes
check 12 and joins is a DESIGN CHOICE (assumption 34). While no pass can be made (in TRANSFER_WAIT, with the slot held or the
settle timer running) that is all it does to queue and list, and whenever it is not granted it is answered by a wait with the
position it took (R97). A repeat of a granted request fetches the grant again with the window that is left, and changes neither
queue nor list (R96). -/
def Obligations.RequestIsGranted : Prop :=
  (∀ (s : State) (i : CarIx) (dst src tag target load : Byte) (d : Dir),
    let f := s.toBlock.figuresRequested i (Load.ofByte load) d
    s.Takes .c (requestFrame dst src i tag target load) .startRequest → 1 ≤ src.toNat → src.toNat ≤ 61 →
    s.plan = .recall ∨ s.plan = .service → s.toBlock.Settled → s.queue = [] → s.toBlock.slotHolder = none →
    s.settleTimer = none → s.cport.roomOwn = true → s.toBlock.commitment? i = none →
    (s.toBlock.car i).state = .serving → (s.toBlock.car i).bound = some src.toNat →
    (s.toBlock.car i).learned.silent = false → (s.toBlock.conf i).lowest ≤ target.toNat →
    target.toNat ≤ (s.toBlock.conf i).highest → target.toNat ≤ 127 →
    runDir (s.toBlock.car i).learned target.toNat = some d → s.toBlock.upperUnfit f = false →
    s.toBlock.lowerUnfit f = false →
    (s.fallback = true → s.commitments = []) →
    (s.fallback = false → s.toBlock.sumUpper + f.ds ≤ s.aEff ∧ (s.active.plan.k = 0 ∨ f.ds ≤ s.active.plan.k) ∧
      -(s.active.plan.q : Int) ≤ s.toBlock.sumLower + min f.dl 0 ∧ s.commitments.length < s.active.plan.m) →
    Completes .startRequest s (fun t =>
      t.queue = [] ∧
      t.commitments = s.commitments ++
        [{ car := i, kind := .service, phase := .granted, fig := f, upper := f.ds, lower := min f.dl 0,
           target := some target.toNat, tag := some tag, slowStart := false, unauthorized := false, silentHold := false,
           grantTimer := some s.active.plan.tGrant, accelTimer := none, runTimer := .running s.active.plan.tRun,
           releaseTimer := none }] ∧
      t.cport.tx = s.cport.tx ++
        [ownItem (s.toBlock.ownFrame (byteOf src.toNat) .startGrant [byteOf (carNo i), tag, byteOf s.active.plan.tGrant])] ∧
      (t.toBlock.car i).lastTag = some tag ∧ (t.toBlock.car i).state = .serving ∧ t.plan = s.plan)) ∧
  (∀ (s : State) (i : CarIx) (dst src tag target load : Byte) (k : RunKind) (d : Dir),
    let e := s.toBlock.entryOf i tag target load k d
    let queue := s.toBlock.queueWith e
    let wait := ownItem (s.toBlock.ownFrame src .startWait [byteOf (carNo i), tag, byteOf (queuePosition i queue)])
    s.TakesRequest i dst src tag target load → s.toBlock.BudgetOk → s.toBlock.Admits i src tag target.toNat k d →
    (s.fallback = false → e.fig.ds ≤ (s.active.plan.a : Int) ∧
      (s.active.plan.k = 0 ∨ e.fig.ds ≤ (s.active.plan.k : Int)) ∧ -(s.active.plan.q : Int) ≤ min e.fig.dl 0) →
    Completes .startRequest s (fun t =>
      (i ∈ listCars t.commitments ∨ i ∈ queueCars t.queue) ∧ s.commitments <+: t.commitments ∧ t.plan = s.plan ∧
      (t.toBlock.car i).lastTag = some tag ∧
      (i ∉ listCars t.commitments → s.RoomFor 2 → ∃ l, t.cport.tx = s.cport.tx ++ l ++ [wait] ∧ l.length ≤ 1) ∧
      (s.plan = .transferWait ∨ s.toBlock.slotHolder ≠ none ∨ s.settleTimer ≠ none →
        t.queue = queue ∧ t.commitments = s.commitments ∧
        (s.toBlock.car i).SameButMarks { t.toBlock.car i with lastTag := (s.toBlock.car i).lastTag } ∧
        (s.cport.roomOwn = true → t.cport.tx = s.cport.tx ++ [wait]) ∧
        (s.cport.roomOwn = false → t.cport.tx = s.cport.tx ∧ t.cport.errors.noticeLost = true)))) ∧
  (∀ (s : State) (i : CarIx) (dst src tag target load : Byte) (c : Commitment) (n : Nat),
    s.TakesRequest i dst src tag target load → (s.toBlock.car i).bound = some src.toNat →
    (s.toBlock.car i).state ∉ [RState.vacant, .unheard, .conflict, .excluded, .failed, .parked, .parkedAway] →
    s.toBlock.commitment? i = some c → c.phase = .granted → c.tag = some tag → (s.toBlock.car i).lastTag = some tag →
    c.grantTimer = some n →
    Completes .startRequest s (fun t =>
      t.queue = s.queue ∧ t.commitments = s.commitments ∧ t.settleTimer = s.settleTimer ∧ t.plan = s.plan ∧
      (∀ j, (s.toBlock.car j).SameButMarks (t.toBlock.car j)) ∧
      (s.cport.roomOwn = true → t.cport.tx = s.cport.tx ++
        [ownItem (s.toBlock.ownFrame src .startGrant [byteOf (carNo i), tag, byteOf n])]) ∧
      (s.cport.roomOwn = false → t.cport.tx = s.cport.tx ∧ t.cport.errors.noticeLost = true)))

/-- R98: a cancel from the bound node whose tag is the entry's removes that entry and no other, leaves its car as it is, and is
answered CANCELLED; one with another tag is answered TOO_LATE and removes nothing. With no entry: one whose tag is the grant tag
of a commitment in GRANTED removes it without settle, no attempt counted, and is answered CANCELLED (R63, R115); a RECALLING or
DIVERTING car is then RECALL_PENDING, its order-resend timer started if it was stopped (R101). Against any other commitment it
is answered TOO_LATE and changes nothing, and without a commitment CANCELLED and changes nothing. Each removal is a trigger
(R78, R83): its pass may grant one entry, and does grant a head that fits; where none can be made, queue, list and every other
car are as they were. The car of a removed commitment that was RECALL_PENDING may land and park there (R115), and then moves
others by the evaluation of its parking. From another node a cancel is answered CONFLICT in CONFLICT and else UNKNOWN_CAR, as
for a car VACANT or UNHEARD, and changes nothing. -/
def Obligations.CancelRemovesEntry : Prop :=
  (∀ (s : State) (i : CarIx) (dst src tag : Byte) (e : Entry),
    s.Takes .c (cancelFrame dst src i tag) .startCancel → 1 ≤ src.toNat → src.toNat ≤ 61 →
    s.toBlock.Settled → (s.toBlock.car i).bound = some src.toNat → (s.toBlock.car i).state ≠ .vacant →
    (s.toBlock.car i).state ≠ .unheard → s.toBlock.entry? i = some e →
    Completes .startCancel s (fun t =>
      (e.tag = tag → i ∉ queueCars t.queue ∧
        (s.toBlock.withoutEntry i).ThenPass i (s.cportBehind (s.refusal src i tag 16)) t.toBlock ∧
        (s.toBlock.car i).SameButMarks (t.toBlock.car i) ∧
        ((s.toBlock.car i).state = .recallPending → s.toBlock.commitment? i = none → (s.toBlock.car i).resendTimer = none →
          (t.toBlock.car i).resendTimer = some s.active.plan.tSilent)) ∧
      (e.tag ≠ tag → t.queue = s.queue) ∧ s.commitments <+: t.commitments ∧
      (s.cport.roomOwn = true → ∃ l, t.cport.tx = s.cport.tx ++
        ownItem (s.toBlock.ownFrame src .startRefusal
          [byteOf (carNo i), tag, if e.tag = tag then 16 else 17]) :: l) ∧
      t.plan = s.plan ∧ t.mgmt = s.mgmt ∧ t.active = s.active) ∧
    (e.tag ≠ tag → s.AnswersCancel (s.refusal src i tag 17))) ∧
  (∀ (s : State) (i : CarIx) (dst src tag : Byte), s.Takes .c (cancelFrame dst src i tag) .startCancel → 1 ≤ src.toNat →
    src.toNat ≤ 61 → s.toBlock.Settled → (s.toBlock.car i).bound = some src.toNat → (s.toBlock.car i).state ≠ .vacant →
    (s.toBlock.car i).state ≠ .unheard → s.toBlock.entry? i = none →
    (∀ c, s.toBlock.commitment? i = some c → c.phase = .granted → c.tag = some tag →
      Completes .startCancel s (fun t =>
        i ∉ listCars t.commitments ∧ s.commitments.filter (fun x => x.car ≠ i) <+: t.commitments ∧
        t.settleTimer = s.settleTimer ∧ t.plan = s.plan ∧ t.mgmt = s.mgmt ∧ t.active = s.active ∧
        (∀ j, (s.toBlock.car j).SameKnown (t.toBlock.car j)) ∧
        (s.cport.roomOwn = true → ∃ l, t.cport.tx = s.cport.tx ++ s.refusal src i tag 16 :: l) ∧
        (t.toBlock.car i).attempts = (s.toBlock.car i).attempts ∧
        ((s.toBlock.car i).state ≠ .recallPending →
          (s.toBlock.withoutCommitment i).ThenPass i (s.cportBehind (s.refusal src i tag 16)) t.toBlock) ∧
        ((s.toBlock.car i).state ∉ [RState.recalling, .diverting, .recallPending] →
          (s.toBlock.car i).SameButMarks (t.toBlock.car i)) ∧
        ((s.toBlock.car i).state = .recalling ∨ (s.toBlock.car i).state = .diverting →
          (t.toBlock.car i).state = .recallPending ∧ (t.toBlock.car i).order = (s.toBlock.car i).order ∧
          ((s.toBlock.car i).resendTimer = none → (t.toBlock.car i).resendTimer = some s.active.plan.tSilent)))) ∧
    (∀ c, s.toBlock.commitment? i = some c → c.phase ≠ .granted ∨ c.tag ≠ some tag →
      s.AnswersCancel (s.refusal src i tag 17)) ∧
    (s.toBlock.commitment? i = none → s.AnswersCancel (s.refusal src i tag 16))) ∧
  (∀ (s : State) (i : CarIx) (dst src tag : Byte), s.Takes .c (cancelFrame dst src i tag) .startCancel → 1 ≤ src.toNat →
    src.toNat ≤ 61 → s.toBlock.Settled →
    (s.toBlock.car i).bound ≠ some src.toNat ∨ (s.toBlock.car i).state = .vacant ∨ (s.toBlock.car i).state = .unheard →
    s.AnswersCancel (s.refusal src i tag (if (s.toBlock.car i).state = .conflict then 5 else 3)))

/-- R101, R100: at the order-resend expiry of a RECALL_PENDING car with neither entry nor commitment its order is sent again, to
its bound node or to broadcast, and the timer starts again at T_silent; without room the order is skipped and the timer starts
all the same (R102). At that of a SERVING car whose SERVE order has not been sent that order is tried again, and the timer stops
once it is sent. -/
def Obligations.OrderIsResent : Prop :=
  (∀ (s : State) (i : CarIx) (p : Nat), (s.toBlock.car i).resendTimer.isSome = true → s.toBlock.Settled →
    (s.toBlock.car i).state = .recallPending → s.toBlock.entry? i = none → s.toBlock.commitment? i = none →
    (s.toBlock.car i).order = some (.recall p) ∨ (s.toBlock.car i).order = some (.divert p) →
    Completes (.orderResendExpiry i) s (fun t =>
      (t.toBlock.car i).resendTimer = some s.active.plan.tSilent ∧
      (s.toBlock.car i).SameButMarks (t.toBlock.car i) ∧ t.queue = s.queue ∧ t.commitments = s.commitments ∧
      t.plan = s.plan ∧ t.mgmt = s.mgmt ∧
      t.cport = (if s.cport.roomOwn then
        { s.cport with tx := s.cport.tx ++
            [ownItem (s.toBlock.ownFrame
              (match (s.toBlock.car i).bound with | some n => byteOf n | none => 63) .carOrder
              [byteOf (carNo i), orderKindCode (s.toBlock.car i).order, byteOf p])] }
        else s.cport))) ∧
  (∀ (s : State) (i : CarIx), (s.toBlock.car i).resendTimer.isSome = true → s.toBlock.Settled →
    (s.toBlock.car i).state = .serving → (s.toBlock.car i).order = some .serve → (s.toBlock.car i).serveUnsent = true →
    Completes (.orderResendExpiry i) s (fun t =>
      (t.toBlock.car i).resendTimer = (if s.cport.roomOwn then none else some s.active.plan.tSilent) ∧
      (t.toBlock.car i).serveUnsent = !s.cport.roomOwn ∧
      (∀ j, (s.toBlock.car j).SameButMarks (t.toBlock.car j)) ∧ t.queue = s.queue ∧ t.commitments = s.commitments ∧
      t.plan = s.plan ∧ t.mgmt = s.mgmt ∧
      t.cport = (if s.cport.roomOwn then { s.cport with tx := s.cport.tx ++ [s.toBlock.orderItem i] } else s.cport)))

/-! ### Relay and held orders -/

/-- R138, R139, R142: a dispatch order that passes checks 1 to 3: in NORMAL with its cell at PASS, and for a SERVING car in every
other plan, it goes to the C-port unchanged; for a selected-awaiting car it is held with the notice HELD, and takes the place
of an order held before, whose source is told REPLACED first. Every other order, one whose car number is outside 1 to 16 among
them, is dropped with the notice DROPPED. A forwarded order without a relayed place is recorded as TX_DISCARD (R148); no notice goes
to node 63, and one without room is lost with NOTICE_LOST. The receive FIFO gives up its head; nothing else changes. -/
def Obligations.DispatchOrderByCarState : Prop :=
  (∀ (s : State) (i : CarIx) (dst src landing : Byte),
    let f := dispatchFrame dst src i landing
    s.Takes .g f .dispatchOrder →
    (s.OrderPasses i landing → ((s.plan = .normal ∧ s.active.plan.relay.dispatchNormal = true) ∨
        (s.plan ≠ .normal ∧ (s.toBlock.car i).state = .serving)) →
      exec .dispatchOrder s = .next { s with gport := s.gport.takeHead, cport := s.cport.offered f }) ∧
    (s.OrderPasses i landing → s.plan ≠ .normal → (s.toBlock.car i).state ≠ .serving → s.toBlock.awaiting i = true →
      (s.toBlock.car i).slot = .empty →
      Completes .dispatchOrder s (fun t =>
        t = { s with
          gport := s.gport.takeHead.noticed src (s.noticeItem (byteOf (carNo i)) src landing 1)
          cars := t.cars } ∧
        t.toBlock.car i = { s.toBlock.car i with slot := .holding f } ∧
        ∀ j, j ≠ i → t.toBlock.car j = s.toBlock.car j)) ∧
    (∀ dst' src' landing' : Byte, s.OrderPasses i landing → s.plan ≠ .normal → (s.toBlock.car i).state ≠ .serving →
      s.toBlock.awaiting i = true → (s.toBlock.car i).slot = .holding (dispatchFrame dst' src' i landing') →
      Completes .dispatchOrder s (fun t =>
        t = { s with
          gport := (s.gport.takeHead.noticed src' (s.noticeItem (byteOf (carNo i)) src' landing' 2)).noticed src
            (s.noticeItem (byteOf (carNo i)) src landing 1)
          cars := t.cars } ∧
        t.toBlock.car i = { s.toBlock.car i with slot := .holding f } ∧
        ∀ j, j ≠ i → t.toBlock.car j = s.toBlock.car j)) ∧
    (¬ s.OrderPasses i landing ∨ (s.plan = .normal ∧ s.active.plan.relay.dispatchNormal = false) ∨
        (s.plan ≠ .normal ∧ (s.toBlock.car i).state ≠ .serving ∧ s.toBlock.awaiting i = false) →
      exec .dispatchOrder s = .next { s with
        gport := s.gport.takeHead.noticed src (s.noticeItem (byteOf (carNo i)) src landing 4) })) ∧
  (∀ (s : State) (dst src car landing : Byte),
    s.Takes .g { dst := dst, src := src, kind := 16, payload := [car, landing] } .dispatchOrder →
    car.toNat = 0 ∨ 16 < car.toNat →
    exec .dispatchOrder s = .next { s with
      gport := s.gport.takeHead.noticed src (s.noticeItem car src landing 4) })

/-- R134, R135, R137: a frame that is neither taken by a block nor a dispatch order leaves unchanged by the opposite port when its
cell holds PASS, its source is not barred (tested on the C-port only) and a relayed place is free; with no place free it is
discarded and TX_DISCARD recorded; under DROP or from a barred source it is discarded without record. A frame that the checks
on its addresses turn away is discarded (R165). An accepted car report goes up behind what its taking sends, and ahead of what the
step sends after it, when the car-report cell in force holds PASS, its source is not barred and its car's relay mode is FORWARD or
LISTEN; otherwise it is withheld (R136). -/
def Obligations.RelayedFramePasses : Prop :=
  (∀ (s : State) (p : PortId) (f : Frame), s.Takes p f .discard →
    exec (.relayedFrame p) s = .next { s with toBlock := s.toBlock.modPort p Port.takeHead }) ∧
  (∀ (s : State) (p : PortId) (f : Frame) (r : Route), s.Takes p f r → r = .management ∨ r = .other →
    let cell := match r, s.plan with
      | .management, .normal => s.active.plan.relay.mgmtNormal
      | .management, _ => s.active.plan.relay.mgmtEmergency
      | _, .normal => s.active.plan.relay.otherNormal
      | _, _ => s.active.plan.relay.otherEmergency
    let pass := cell && !(decide (p = .c) && s.toBlock.barred f.src.toNat)
    let taken := s.toBlock.modPort p Port.takeHead
    (pass = true → (s.toBlock.port (opposite p)).roomRelayed = true →
      exec (.relayedFrame p) s = .next { s with
        toBlock := taken.modPort (opposite p) (fun q => { q with tx := q.tx ++ [relayedItem f] }) }) ∧
    (pass = true → (s.toBlock.port (opposite p)).roomRelayed = false →
      exec (.relayedFrame p) s = .next { s with
        toBlock := taken.modPort (opposite p) (fun q => { q with errors := { q.errors with txDiscard := true } }) }) ∧
    (pass = false → exec (.relayedFrame p) s = .next { s with toBlock := taken })) ∧
  (∀ (s : State) (i : CarIx) (dst src landing between motion dir door load mode fault ack : Byte),
    let f := reportFrame dst src i landing between motion dir door load mode fault ack
    let cell := if s.plan = .normal then s.active.plan.relay.reportNormal else s.active.plan.relay.reportEmergency
    let pass := cell && !s.toBlock.barred src.toNat &&
      (decide ((s.toBlock.conf i).relay = .forward) || decide ((s.toBlock.conf i).relay = .listen))
    s.Takes .c f .carReport → State.HearsReport s i src →
    (s.toBlock.car i).bound = none ∨ (s.toBlock.car i).bound = some src.toNat →
    Completes .carReport s (fun t =>
      (∃ l m, (∀ x ∈ l ++ m, x.own = true) ∧
        t.gport.tx = s.gport.tx ++ l ++ (if pass && s.gport.roomRelayed then [relayedItem f] else []) ++ m) ∧
      t.gport.errors.txDiscard = (s.gport.errors.txDiscard || (pass && !s.gport.roomRelayed))))

/-! ### Link ports -/

/-- R145, R165, 12.1: the bytes of a run are judged a good frame exactly when they are the wire form of a frame with at most 32
payload bytes: envelope, payload and the check of R165. -/
def Obligations.GoodFrameIsWireForm : Prop :=
  ∀ (bytes : List Byte) (f : Frame), judgeFrame bytes = .good f ↔ f.payload.length ≤ 32 ∧ bytes = f.wire

/-- R145, R146, R147: a frame built from its first byte and ended by its gap: a good one enters the FIFO, or waits when sixteen
frames are held; a bad one is discarded with its kind recorded, TRUNCATED, LENGTH or CHECK by what its length field and its
check say. The first byte of a next frame loses a waiting one with OVERRUN, and begins a frame in the ordinary way once a place
has freed; a port that sends or is in FAULT receives none. Either command of a first byte does either (assumption 1). No other
port and no block changes. -/
def Obligations.FramesAreReceived : Prop :=
  (∀ (s : State) (p : PortId) (x : Byte) (c : Instr), c = .firstByteAfterIdleLine p x ∨ c = .nextFrameBegins p x →
    ((s.toBlock.port p).up = true → (s.toBlock.port p).sending = false → (s.toBlock.port p).assembly = .empty →
      exec c s = .next { s with toBlock := s.toBlock.modPort p (fun q => { q with assembly := .building [x] }) }) ∧
    (∀ f : Frame, (s.toBlock.port p).up = true → (s.toBlock.port p).sending = false →
      (s.toBlock.port p).assembly = .waiting f → (s.toBlock.port p).Ok →
      exec c s = .next { s with
        toBlock := s.toBlock.modPort p (fun q =>
          { q with assembly := .building [x], errors := { q.errors with overrun := true } }) }) ∧
    ((s.toBlock.port p).up = false ∨ (s.toBlock.port p).sending = true → exec c s = .next s)) ∧
  (∀ (s : State) (p : PortId) (x : Byte) (rest : List Byte) (f : Frame), (s.toBlock.port p).assembly = .building [x] →
    x :: rest = f.wire → f.payload.length ≤ 32 → (s.toBlock.port p).rx.length < 16 →
    exec (.frameEnd p rest) s = .next { s with
      toBlock := s.toBlock.modPort p (fun q =>
        { q with rx := q.rx ++ [f], assembly := .empty,
                 holdOut := if 14 ≤ q.rx.length + 1 then true else if q.rx.length + 1 ≤ 8 then false else q.holdOut }) }) ∧
  (∀ (s : State) (p : PortId) (x : Byte) (rest : List Byte) (f : Frame), (s.toBlock.port p).assembly = .building [x] →
    x :: rest = f.wire → f.payload.length ≤ 32 → 16 ≤ (s.toBlock.port p).rx.length →
    exec (.frameEnd p rest) s = .next { s with
      toBlock := s.toBlock.modPort p (fun q => { q with assembly := .waiting f, holdOut := true }) }) ∧
  (∀ (s : State) (p : PortId) (x : Byte) (rest : List Byte) (k : ErrKind), (s.toBlock.port p).assembly = .building [x] →
    judgeFrame (x :: rest) = .discarded k →
    exec (.frameEnd p rest) s = .next { s with
      toBlock := s.toBlock.modPort p (fun q => { q with assembly := .empty, errors := q.errors.add k }) }) ∧
  (∀ bytes : List Byte,
    (bytes.length < 4 → judgeFrame bytes = .discarded .truncated) ∧
    (∀ n : Byte, bytes[3]? = some n →
      (judgeFrame bytes = .discarded .truncated ↔ n.toNat ≤ 32 ∧ bytes.length < n.toNat + 6) ∧
      (judgeFrame bytes = .discarded .length ↔ 32 < n.toNat ∨ n.toNat + 6 < bytes.length) ∧
      (judgeFrame bytes = .discarded .check ↔ n.toNat ≤ 32 ∧ bytes.length = n.toNat + 6 ∧
        bytes.drop (n.toNat + 4) ≠ be16 (checkOf (bytes.take (n.toNat + 4))).toNat)))

/-- R149, R148, R83: the hold-off input is as the partner sets it; a frame is begun only while the port is UP, the input negated,
no frame being received and none being sent; a sent frame frees its place, and on the G-port nothing else changes. An own
frame sent on the C-port triggers a pass, which can grant at most one entry more (R83): with the slot free, no settle running and a
fitting entry of a car that is not silent at the head, that entry is granted (R82, R84, R85). -/
def Obligations.FramesAreSent : Prop :=
  (∀ (s : State) (p : PortId) (v : Bool),
    exec (.holdInChange p v) s = .next { s with toBlock := s.toBlock.modPort p (fun q => { q with holdIn := v }) }) ∧
  (∀ (s : State) (p : PortId), (s.toBlock.port p).up = true → (s.toBlock.port p).holdIn = false →
    (s.toBlock.port p).sending = false → (∀ l, (s.toBlock.port p).assembly ≠ .building l) → (s.toBlock.port p).tx ≠ [] →
    exec (.frameSendStart p) s = .next { s with toBlock := s.toBlock.modPort p (fun q => { q with sending := true }) }) ∧
  (∀ (s : State) (p : PortId), (s.toBlock.port p).up = false ∨ (s.toBlock.port p).holdIn = true ∨
      (s.toBlock.port p).sending = true ∨ (∃ l, (s.toBlock.port p).assembly = .building l) ∨ (s.toBlock.port p).tx = [] →
    exec (.frameSendStart p) s = .next s) ∧
  (∀ (s : State) (p : PortId) (x : TxItem) (rest : List TxItem), (s.toBlock.port p).sending = true →
    (s.toBlock.port p).tx = x :: rest → x.restart = false → p = .g ∨ x.own = false →
    exec (.frameSent p) s = .next { s with
      toBlock := s.toBlock.modPort p (fun q => { q with tx := rest, sending := false }) }) ∧
  (∀ (s : State) (x : TxItem) (rest : List TxItem), s.cport.sending = true → s.cport.tx = x :: rest → x.restart = false →
    x.own = true → s.toBlock.Settled →
    Completes (.frameSent .c) s (fun t =>
      t.cport.sending = false ∧ rest <+: t.cport.tx ∧ s.commitments <+: t.commitments ∧
      t.commitments.length ≤ s.commitments.length + 1 ∧ t.plan = s.plan ∧ t.mgmt = s.mgmt ∧ t.cport.rx = s.cport.rx ∧
      (∀ e queue, s.toBlock.HeadFits e queue → s.toBlock.BudgetOk → s.settleTimer = none → s.cport.up = true →
        s.cport.ownCount ≤ 8 → s.toBlock.GrantsHead e queue rest t.toBlock)))

/-- R150: a line fault discards the frame being built and keeps a waiting one, empties the transmit queue and records LINE_FAULT;
recovery brings the port back UP. At the G-port the waiting response parts are dropped and nothing else changes; at the C-port
the notice LINK_FAULT or LINK_UP goes out if the image load has completed, and no grant is made while the port is in FAULT; its
recovery triggers a pass, which grants a fitting entry of a car that is not silent at the head (R82, R83, R84). At a fault no car
moves, and the order-resend timer of a SERVING car whose SERVE order was removed with the queue is started at T_silent: that such an
order counts as unsent (R101) is DEDUCED (assumption 35). -/
def Obligations.LineFaultAndRecovery : Prop :=
  (∀ s : State, s.gport.up = true → (∀ x ∈ s.gport.tx, x.restart = false) →
    exec (.lineFault .g) s = .next { s with
      gport := { s.gport with
        assembly := (match s.gport.assembly with | .building _ => .empty | a => a)
        tx := [], sending := false, up := false, errors := { s.gport.errors with lineFault := true } }
      mgmt := { s.mgmt with response := [] } }) ∧
  (∀ s : State, s.gport.up = false → exec (.lineUp .g) s = .next { s with gport := { s.gport with up := true } }) ∧
  (∀ s : State, s.cport.up = true → s.toBlock.Settled → Completes (.lineFault .c) s (fun t =>
    t.cport = { s.cport with
      assembly := (match s.cport.assembly with | .building _ => .empty | a => a)
      tx := [], sending := false, up := false, errors := { s.cport.errors with lineFault := true } } ∧
    t.commitments = s.commitments ∧ t.queue = s.queue ∧ t.plan = s.plan ∧ t.mgmt = s.mgmt ∧
    (∀ i, (s.toBlock.car i).SameButMarks (t.toBlock.car i)) ∧
    (∀ i, (s.toBlock.car i).state = .serving → (s.toBlock.car i).resendTimer = none →
      ((s.toBlock.car i).order = some .serve → s.toBlock.orderItem i ∈ s.cport.tx →
        (t.toBlock.car i).resendTimer = some s.active.plan.tSilent ∧ (t.toBlock.car i).serveUnsent = true)) ∧
    (s.loaded = false → t.gport = s.gport) ∧
    (s.loaded = true → s.gport.roomOwn = true → t.gport =
      s.gportWith (ownItem (s.toBlock.ownFrame 0 .planNotice [s.plan.code, 0, 0, 10]))))) ∧
  (∀ s : State, s.cport.up = false → s.toBlock.Settled → Completes (.lineUp .c) s (fun t =>
    t.cport.up = true ∧ s.commitments <+: t.commitments ∧ t.plan = s.plan ∧ t.mgmt = s.mgmt ∧
    (s.loaded = true → s.gport.roomOwn = true → ∃ l, t.gport.tx = s.gport.tx ++
      ownItem (s.toBlock.ownFrame 0 .planNotice [s.plan.code, 0, 0, 11]) :: l) ∧
    (∀ e queue, s.toBlock.HeadFits e queue → s.toBlock.BudgetOk → s.settleTimer = none → s.cport.ownCount < 8 →
      s.toBlock.GrantsHead e queue s.cport.tx t.toBlock)))

/-! ### Management -/

/-- R155, R151, 12.5: READ_PLAN, READ_LINK and READ_QUEUE of an empty queue: one answer, DONE, with the bytes of the record of 12.5,
and nothing changes but what every request taken changes (R153) and, for READ_LINK, the two error summaries, which are cleared.
The bit of a summary's byte that no kind has is 0 (assumption 13). -/
def Obligations.SingleRecordReads : Prop :=
  ∀ (s : State) (src : Node), s.Ready src →
    exec (.readPlan src) s = .next { s with
      mgmt := s.begun, gport := s.gportWith (s.answer src 1 .done
        ([s.plan.code,
            flagByte [s.xfer.taken, s.gen.taken, s.derate.taken, s.genSettled, s.settleTimer.isSome, s.fallback,
              s.manual.isSome, decide (s.mgmt.storeOp ≠ .idle)]] ++
          be16 s.aEff ++ be32s (s.commitments.map (fun c => c.upper)).sum ++
          be32s (s.commitments.map (fun c => c.lower)).sum ++
          [byteOf s.commitments.length, match s.toBlock.slotHolder with | none => 0 | some i => byteOf (carNo i),
            s.mgmt.level.code, byteOf s.mgmt.keyCounter, if s.mgmt.frozen then 1 else 0])) } ∧
    s.toBlock.planRecord.length = 17 ∧
    exec (.readLink src) s = .next { s with
      mgmt := s.begun
      gport := { s.gport with
        tx := s.gport.tx ++ [s.answer src 5 .done
          [flagByte [s.gport.errors.check, s.gport.errors.length, s.gport.errors.truncated, s.gport.errors.overrun,
              s.gport.errors.lineFault, s.gport.errors.txDiscard, s.gport.errors.noticeLost],
            flagByte [s.cport.errors.check, s.cport.errors.length, s.cport.errors.truncated, s.cport.errors.overrun,
              s.cport.errors.lineFault, s.cport.errors.txDiscard, s.cport.errors.noticeLost]]]
        errors := ErrorSummary.empty }
      cport := { s.cport with errors := ErrorSummary.empty } } ∧
    (s.queue = [] → exec (.readQueue src) s = .next { s with
      mgmt := s.begun, gport := s.gportWith (s.answer src 3 .done []) })

/-- R155, R40, R89, R54: READ_CARS, READ_QUEUE and READ_COMMITMENTS are answered DONE with one part for each record, in order, the
last marked: one for each car from the start car, at most to car 16; one for each entry; one for each commitment, each with the
bytes of 12.5. The landing byte of an order that names a landing is that landing and the tag byte of a commitment with a tag that
tag; where the spec gives no value the byte is free (assumption 14), and a bit of a flags byte that 12.5 does not name is 0
(assumption 13). Parts are placed at once as far as there is room (assumption 9). Only the answer, the free-value counter and
what every request taken changes is changed. A READ_CARS whose start car is none is answered NOT_FOUND, and one whose count is
not 1 to 16 BAD_FIELD. -/
def Obligations.ListReads : Prop :=
  (∀ (s : State) (src : Node) (start : CarIx) (count : Byte), s.loaded = true → src.val ≠ 63 → s.mgmt.storeAnswer = [] →
    1 ≤ count.toNat → count.toNat ≤ 16 →
    Completes (.readCars src (byteOf (carNo start)) count) s (fun t =>
      (∃ parts, State.PlacesParts s t parts ∧ parts.length = min count.toNat (16 - start.val) ∧
        ∀ k, k < parts.length → ∀ i : CarIx, i.val = start.val + k → ∃ x,
          (∀ p, (s.toBlock.car i).order = some (.recall p) ∨ (s.toBlock.car i).order = some (.divert p) → x = byteOf p) ∧
          State.IsPart s src 2 parts k
          (byteOf (carNo i) :: ((s.toBlock.conf i).encode ++
            [flagByte [(s.toBlock.car i).learned.heard, (s.toBlock.car i).learned.silent, (s.toBlock.car i).learned.between,
                (s.toBlock.car i).doorAlarm, (s.toBlock.car i).selected, (s.manual.getD []).contains i,
                decide (s.plan = .service) && (s.manual.getD []).contains i && (s.toBlock.car i).state.holdsRecall],
              byteOf (s.toBlock.car i).learned.landing, (s.toBlock.car i).learned.motion.code,
              dirCode (s.toBlock.car i).learned.dir, (s.toBlock.car i).learned.door.code,
              (s.toBlock.car i).learned.load.code, (s.toBlock.car i).learned.mode.code, (s.toBlock.car i).learned.fault,
              (s.toBlock.car i).learned.ackMode.code, nodeOrNone (s.toBlock.car i).bound,
              nodeOrNone (s.toBlock.car i).learned.firstForeign, (s.toBlock.car i).state.code,
              (s.toBlock.car i).reason.code, byteOf (s.toBlock.car i).attempts,
              orderKindCode (s.toBlock.car i).order, x]))) ∧
      t = { s with gport := { s.gport with tx := t.gport.tx }, mgmt := { s.begun with response := t.mgmt.response },
                   freeCount := t.freeCount })) ∧
  (∀ (s : State) (src : Node), s.loaded = true → src.val ≠ 63 → s.mgmt.storeAnswer = [] → s.queue ≠ [] →
    Completes (.readQueue src) s (fun t =>
      (∃ parts, State.PlacesParts s t parts ∧ parts.length = s.queue.length ∧
        ∀ k e, s.queue[k]? = some e →
          ((queueCars s.queue).Nodup → queuePosition e.car s.queue = k + 1) ∧
          State.IsPart s src 3 parts k
            ([byteOf (queuePosition e.car s.queue), byteOf (carNo e.car), e.kind.code, byteOf e.cls, byteOf e.target,
                dirCode (some e.dir), e.load.code] ++ be16s e.fig.ds ++ be16s e.fig.dh ++ be16s e.fig.dl ++
              [byteOf e.skip, flagByte [e.blocking, (s.toBlock.car e.car).learned.silent], e.tag])) ∧
      t = { s with gport := { s.gport with tx := t.gport.tx }, mgmt := { s.begun with response := t.mgmt.response } })) ∧
  (∀ (s : State) (src : Node), s.loaded = true → src.val ≠ 63 → s.mgmt.storeAnswer = [] → s.commitments ≠ [] →
    Completes (.readCommitments src) s (fun t =>
      (∃ parts, State.PlacesParts s t parts ∧ parts.length = s.commitments.length ∧
        ∀ k c, s.commitments[k]? = some c → ∃ x, (∀ tag, c.tag = some tag → x = tag) ∧ State.IsPart s src 4 parts k
          ([byteOf (carNo c.car), c.kind.code, c.phase.code] ++ be16s c.fig.ds ++ be16s c.fig.dh ++ be16s c.fig.dl ++
            be16s c.upper ++ be16s c.lower ++
            [nodeOrNone c.target, x, flagByte [c.slowStart, c.unauthorized, c.silentHold, c.tag.isSome],
              timerByte c.grantTimer, timerByte c.accelTimer] ++ c.runTimer.word ++ timerWord c.releaseTimer)) ∧
      t = { s with gport := { s.gport with tx := t.gport.tx }, mgmt := { s.begun with response := t.mgmt.response },
                   freeCount := t.freeCount })) ∧
  (∀ (s : State) (src : Node), s.Ready src →
    (s.commitments = [] → exec (.readCommitments src) s = .next { s with
      mgmt := s.begun, gport := s.gportWith (s.answer src 4 .done []) }) ∧
    (∀ start count : Byte, start.toNat < 1 ∨ 16 < start.toNat →
      exec (.readCars src start count) s = .next { s with
        mgmt := s.begun, gport := s.gportWith (s.answer src 2 .notFound []) }) ∧
    (∀ (start : CarIx) (count : Byte), count.toNat < 1 ∨ 16 < count.toNat →
      exec (.readCars src (byteOf (carNo start)) count) s = .next { s with
        mgmt := s.begun, gport := s.gportWith (s.answer src 2 .badField [2, 0]) }))

/-- R157: WRITE_CARS of one valid record writes it into the pending table and is answered DONE_NEW or DONE_REPLACED by whether the
pending record was marked absent; an invalid one writes nothing and is answered BAD_FIELD with its car number and 1; a start
and count outside 1 to 16 are answered BAD_FIELD as they came. Nothing else changes. -/
def Obligations.WriteCarsWritesPending : Prop :=
  ∀ (s : State) (src : Node) (i : CarIx) (record : List Byte) (c : CarConf), s.Ready src → s.Allowed .commission →
    CarConf.decode record = some c →
    (c.valid s.pendingTable.plan.ownNode = true →
      exec (.writeCars src (byteOf (carNo i)) 1 record) s = .next { s with
        pendingTable := { s.pendingTable with cars := s.pendingTable.cars.set i.val c i.isLt }
        mgmt := s.begun
        gport := s.gportWith (s.answer src 8
          (if (s.pendingTable.cars.get i).present then .doneReplaced else .doneNew) []) }) ∧
    (c.valid s.pendingTable.plan.ownNode = false →
      exec (.writeCars src (byteOf (carNo i)) 1 record) s = .next { s with
        mgmt := s.begun, gport := s.gportWith (s.answer src 8 .badField [byteOf (carNo i), 1]) }) ∧
    (∀ (start count : Byte) (records : List Byte), records.length = 12 * count.toNat →
      start.toNat < 1 ∨ 16 < start.toNat ∨ count.toNat < 1 ∨ 16 < count.toNat ∨ 17 < start.toNat + count.toNat →
      exec (.writeCars src start count records) s = .next { s with
        mgmt := s.begun, gport := s.gportWith (s.answer src 8 .badField [start, count]) })

/-- R157: the records of a WRITE_CARS are taken in turn: a request whose records are all valid writes each to its car and no
other; a first invalid record stops it, the records before it stay written, and the answer names its car and the records left.
The command, for a start and count inside the table, is that writing of the pending table, answered BAD_FIELD with the invalid
record's car number and the remaining count, or DONE_NEW or DONE_REPLACED by the start car's pending record. -/
def Obligations.WriteCarsStopsAtInvalid : Prop :=
  (∀ (t : Table) (n : Nat) (good bad : List (List Byte)),
    (∀ r ∈ good, ∃ c, CarConf.decode r = some c ∧ c.valid t.plan.ownNode = true) → 1 ≤ n → n + good.length ≤ 17 →
    (∀ r rest, bad = r :: rest → ∀ c, CarConf.decode r = some c → c.valid t.plan.ownNode = false) →
    (t.writeCars n (good ++ bad)).1.plan = t.plan ∧
    (∀ i : CarIx, n ≤ carNo i → carNo i < n + good.length →
      ∃ r, good[carNo i - n]? = some r ∧ CarConf.decode r = some ((t.writeCars n (good ++ bad)).1.cars.get i)) ∧
    (∀ i : CarIx, carNo i < n ∨ n + good.length ≤ carNo i →
      (t.writeCars n (good ++ bad)).1.cars.get i = t.cars.get i) ∧
    (t.writeCars n (good ++ bad)).2 = (if bad = [] then none else some (n + good.length, bad.length))) ∧
  (∀ (s : State) (src : Node) (i : CarIx) (records : List (List Byte)), s.Ready src → s.Allowed .commission →
    (∀ r ∈ records, r.length = 12) → 1 ≤ records.length → carNo i + records.length ≤ 17 →
    let w := s.pendingTable.writeCars (carNo i) records
    exec (.writeCars src (byteOf (carNo i)) (byteOf records.length) records.flatten) s = .next { s with
      pendingTable := w.1
      mgmt := s.begun
      gport := s.gportWith
        (match w.2 with
         | none =>
           s.answer src 8 (if (s.pendingTable.cars.get i).present then .doneReplaced else .doneNew) []
         | some (car, left) => s.answer src 8 .badField [byteOf car, byteOf left]) })

/-- R157, R158: WRITE_PLAN writes a plan record whose fields are all valid, and otherwise leaves the pending one and names the
first invalid field; DISCARD copies the active table, or the defaults in fallback mode, into the pending table. -/
def Obligations.WritePlanAndDiscard : Prop :=
  ∀ (s : State) (src : Node), s.Ready src → s.Allowed .commission →
    (∀ (record : List Byte) (p : PlanRecord) (m : Byte), PlanRecord.decode record = some (p, m) →
      (p.checks m (s.pendingTable.claims p.ownNode)).all id = true →
      exec (.writePlan src record) s = .next { s with
        pendingTable := { s.pendingTable with plan := p }, mgmt := s.begun
        gport := s.gportWith (s.answer src 9 .done []) }) ∧
    (∀ (record : List Byte) (p : PlanRecord) (m : Byte) (k : Nat), PlanRecord.decode record = some (p, m) → k < 21 →
      ((p.checks m (s.pendingTable.claims p.ownNode)).take k).all id = true →
      (p.checks m (s.pendingTable.claims p.ownNode))[k]? = some false →
      exec (.writePlan src record) s = .next { s with
        mgmt := s.begun, gport := s.gportWith (s.answer src 9 .badField [byteOf (k + 1), 0]) }) ∧
    exec (.discard src) s = .next { s with
      pendingTable := if s.fallback then Table.default else s.active, mgmt := s.begun
      gport := s.gportWith (s.answer src 11 .done []) }

/-- R158, R19, R39: COMMIT in NORMAL with the store idle: the pending table is active at once and stays pending, the part is in
configured mode, A_eff is recomputed, the store write of the new image begins with no answer yet (its open bytes: assumption 13).
A car whose record changes from present to absent is VACANT; one that becomes present, DISABLED, or of another binding is UNHEARD
with its binding made anew; one that leaves DISABLED is UNHEARD with its binding kept; every other keeps its record whole but for
its marks, an absent one too (assumption 16). The generator's settling, the running timers and the list do not change (R81). -/
def Obligations.CommitReplacesTables : Prop :=
  ∀ (s : State) (src : Node), s.loaded = true → src.val ≠ 63 → s.Allowed .commission → s.plan = .normal →
    s.mgmt.storeOp = .idle → s.toBlock.Settled →
    Completes (.commit src) s (fun t =>
      t.active = s.pendingTable ∧ t.pendingTable = s.pendingTable ∧ t.fallback = false ∧ t.plan = .normal ∧
      t.aEff = (if s.derate.taken then s.pendingTable.plan.a * s.pendingTable.plan.dr / 100 else s.pendingTable.plan.a) ∧
      t.mgmt = { s.begun with
        storeOp := .writing (encodeImage s.pendingTable s.mgmt.maintKey s.mgmt.commKey) src } ∧
      t.transferTimer = s.transferTimer ∧ t.genSettled = s.genSettled ∧ t.commitments = s.commitments ∧
      t.settleTimer = s.settleTimer ∧ t.modeTimer = s.modeTimer ∧ t.adoptionTimer = s.adoptionTimer ∧
      (∀ i, (s.toBlock.conf i).present = true → (s.pendingTable.cars.get i).present = false →
        (t.toBlock.car i).state = .vacant ∧ (t.toBlock.car i).bound = none ∧ (t.toBlock.car i).foreign = [] ∧
        (t.toBlock.car i).learned = Learned.reset) ∧
      (∀ i, (s.toBlock.conf i).present = false → (s.pendingTable.cars.get i).present = true →
        (t.toBlock.car i).state = .unheard ∧ (t.toBlock.car i).learned = Learned.reset ∧
        (t.toBlock.car i).bound =
          if (s.pendingTable.cars.get i).bind = .assigned then some (s.pendingTable.cars.get i).assigned else none) ∧
      (∀ i, (s.toBlock.conf i).present = true → (s.pendingTable.cars.get i).present = true →
        (((s.toBlock.conf i).relay ≠ .disabled ∧ (s.pendingTable.cars.get i).relay = .disabled) ∨
            (s.toBlock.conf i).bind ≠ (s.pendingTable.cars.get i).bind ∨
            ((s.pendingTable.cars.get i).bind = .assigned ∧
              (s.toBlock.conf i).assigned ≠ (s.pendingTable.cars.get i).assigned) →
          (t.toBlock.car i).state = .unheard ∧ (t.toBlock.car i).learned = Learned.reset ∧
          (t.toBlock.car i).foreign = [] ∧
          (t.toBlock.car i).bound =
            if (s.pendingTable.cars.get i).bind = .assigned then some (s.pendingTable.cars.get i).assigned else none) ∧
        ((s.toBlock.conf i).bind = (s.pendingTable.cars.get i).bind →
          ((s.pendingTable.cars.get i).bind = .assigned →
            (s.toBlock.conf i).assigned = (s.pendingTable.cars.get i).assigned) →
          ((s.toBlock.conf i).relay = .disabled → (s.pendingTable.cars.get i).relay ≠ .disabled →
            (t.toBlock.car i).state = .unheard ∧ (s.toBlock.car i).SameKnown (t.toBlock.car i)) ∧
          (((s.toBlock.conf i).relay = .disabled ↔ (s.pendingTable.cars.get i).relay = .disabled) →
            (s.toBlock.car i).SameButMarks (t.toBlock.car i)))) ∧
      (∀ i, (s.toBlock.conf i).present = false → (s.pendingTable.cars.get i).present = false →
        (s.toBlock.car i).SameButMarks (t.toBlock.car i)) ∧
      (∀ i, s.toBlock.conf i = s.pendingTable.cars.get i → (s.toBlock.car i).SameButMarks (t.toBlock.car i)))

/-- R125, R164: SELECT sets the manual selection to the listed cars, each once, or clears it, and is answered DONE; in a plan other
than SERVICE no car changes, and in SERVICE the service set is evaluated against the new selection (R126). That the answer stands
behind what else the step has sent is a DESIGN CHOICE (assumption 27), and that a released car's order is held back for a commitment
of any kind is DEDUCED (assumption 17). A number outside 1 to 16 is answered BAD_FIELD with its place and the entries from it, and
leaves the selection. -/
def Obligations.SelectSetsSelection : Prop :=
  ∀ (s : State) (src : Node), s.Ready src → s.Allowed .maintenance → s.toBlock.Settled →
    (∀ l : List CarIx, l.length ≤ 16 →
      Completes (.select src 1 (l.map (fun i => byteOf (carNo i)))) s (fun t =>
        (∃ set, t.manual = some set ∧ set.Nodup ∧ (∀ i, i ∈ set ↔ i ∈ l) ∧ (l.Nodup → set = l) ∧
          (s.plan = .service → s.toBlock.BudgetOk →
            ({ s.toBlock with manual := some set } : Block).Evaluated t.toBlock)) ∧
        t.plan = s.plan ∧ t.active = s.active ∧ s.commitments <+: t.commitments ∧
        s.AnsweredLast t (s.answer src 16 .done []) ∧
        (s.plan ≠ .service → ∀ i, (s.toBlock.car i).SameButMarks (t.toBlock.car i)) ∧
        (s.plan ≠ .service → (∀ i, (s.toBlock.car i).slot = .closed) →
          t.mgmt = s.begun ∧ t.gport = s.gportWith (s.answer src 16 .done [])))) ∧
    Completes (.select src 0 []) s (fun t =>
      t.manual = none ∧ t.plan = s.plan ∧ t.active = s.active ∧ s.commitments <+: t.commitments ∧
      s.AnsweredLast t (s.answer src 16 .done []) ∧
      (s.plan = .service → s.toBlock.BudgetOk → ({ s.toBlock with manual := none } : Block).Evaluated t.toBlock) ∧
      (s.plan ≠ .service → ∀ i, (s.toBlock.car i).SameButMarks (t.toBlock.car i)) ∧
      (s.plan ≠ .service → (∀ i, (s.toBlock.car i).slot = .closed) →
        t.mgmt = s.begun ∧ t.gport = s.gportWith (s.answer src 16 .done []))) ∧
    (∀ (l : List CarIx) (x : Byte) (rest : List Byte), carIx? x.toNat = none → l.length + rest.length < 16 →
      exec (.select src 1 (l.map (fun i => byteOf (carNo i)) ++ x :: rest)) s = .next { s with
        mgmt := s.begun
        gport := s.gportWith (s.answer src 16 .badField [byteOf (l.length + 1), byteOf (rest.length + 1)]) })

/-- R123, R35, R164: RETRY_CAR of a FAILED or CONFLICT car (such a car has no queue entry) that was not heard makes it UNHEARD,
and of one heard makes it IN_GROUP in NORMAL and ADOPT, and in an emergency plan FIREFIGHTER or HELD_OUT by its car mode,
EXCLUDED if of class 0, and otherwise RECALL_PENDING under a RECALL order to its recall landing, from where in RECALL and
SERVICE it may land, park and be selected in the same step; its reason, attempt count, door alarm and order are cleared. A
conflict's nodes are released and its binding is made again from the configured part, a FIRST_HEARD car unbound and an ASSIGNED
one bound to its assigned node. The request is answered DONE, behind what the step sends before it: that the answer stands last
is a DESIGN CHOICE (assumption 27). No other car, entry or commitment changes, but by the evaluation that a parking in SERVICE
causes (R126), in which the order of a released car is held back for a commitment of any kind (DEDUCED, assumption 17). A car in
another state is left and answered NOT_FOUND, as a number outside 1 to 16 is. -/
def Obligations.RetryCarRestarts : Prop :=
  ∀ (s : State) (src : Node) (i : CarIx), s.loaded = true → src.val ≠ 63 → s.Allowed .maintenance → s.toBlock.Settled →
    ((s.toBlock.car i).state = .failed ∨ (s.toBlock.car i).state = .conflict → s.toBlock.entry? i = none →
      Completes (.retryCar src (byteOf (carNo i))) s (fun t =>
        (t.toBlock.car i).reason = .none ∧ (t.toBlock.car i).attempts = 0 ∧ (t.toBlock.car i).doorAlarm = false ∧
        ((s.toBlock.car i).state = .conflict → (t.toBlock.car i).foreign = [] ∧
          (t.toBlock.car i).learned = { (s.toBlock.car i).learned with firstForeign := none } ∧
          (t.toBlock.car i).lastTag = (s.toBlock.car i).lastTag ∧
          ((s.toBlock.conf i).bind = .firstHeard → (t.toBlock.car i).bound = none) ∧
          ((s.toBlock.conf i).bind = .assigned → (s.toBlock.conf i).present = true →
            (t.toBlock.car i).bound = some (s.toBlock.conf i).assigned)) ∧
        ((s.toBlock.car i).state = .failed → (s.toBlock.car i).SameKnown (t.toBlock.car i)) ∧
        ((t.toBlock.car i).state ∈ [RState.unheard, .inGroup, .firefighter, .heldOut, .excluded] →
          (t.toBlock.car i).order = none) ∧
        ((s.toBlock.car i).learned.heard = false → (t.toBlock.car i).state = .unheard) ∧
        ((s.toBlock.car i).learned.heard = true → s.plan = .normal ∨ s.plan = .adopt →
          (t.toBlock.car i).state = .inGroup) ∧
        ((s.toBlock.car i).learned.heard = true → s.plan.emergency = true →
          ((s.toBlock.car i).learned.mode = .firefighter → (t.toBlock.car i).state = .firefighter) ∧
          ((s.toBlock.car i).learned.mode ≠ .firefighter → (s.toBlock.car i).learned.mode ≠ .automatic →
            (t.toBlock.car i).state = .heldOut) ∧
          ((s.toBlock.car i).learned.mode = .automatic → (s.toBlock.conf i).cls = 0 →
            (t.toBlock.car i).state = .excluded) ∧
          ((s.toBlock.car i).learned.mode = .automatic → (s.toBlock.conf i).cls ≠ 0 →
            s.plan = .transferWait ∨ s.plan = .mainsReturn →
            (t.toBlock.car i).state = .recallPending ∧
              (t.toBlock.car i).order = some (.recall (s.toBlock.conf i).recallLanding)) ∧
          ((s.toBlock.car i).learned.mode = .automatic → (s.toBlock.conf i).cls ≠ 0 →
            s.plan = .recall ∨ s.plan = .service →
            (t.toBlock.car i).state ∈ [RState.recallPending, .landed, .parked, .serving] ∧
              (s.plan = .recall → (t.toBlock.car i).state ≠ .serving) ∧
              ((t.toBlock.car i).state ≠ .serving →
                (t.toBlock.car i).order = some (.recall (s.toBlock.conf i).recallLanding))) ∧
          ((s.toBlock.car i).learned.mode = .automatic → (s.toBlock.conf i).cls ≠ 0 → s.cport.roomOwn = true →
            ∃ l, t.cport.tx = s.cport.tx ++ ownItem (s.toBlock.ownFrame (t.toBlock.busNode i) .carOrder
              [byteOf (carNo i), 1, byteOf (s.toBlock.conf i).recallLanding]) :: l)) ∧
        t.plan = s.plan ∧ t.active = s.active ∧ t.manual = s.manual ∧ t.settleTimer = s.settleTimer ∧
        s.commitments <+: t.commitments ∧
        (s.mgmt.storeAnswer = [] → s.AnsweredLast t (s.answer src 17 .done [])) ∧
        (∀ j, j ≠ i → (s.toBlock.car j).SameKnown (t.toBlock.car j)) ∧
        (s.plan ≠ .service ∨ ((t.toBlock.car i).state.isParked = false ∧ (t.toBlock.car i).state ≠ .serving) →
          t.queue = s.queue ∧ t.commitments = s.commitments ∧
          ∀ j, j ≠ i → (s.toBlock.car j).SameButMarks (t.toBlock.car j)) ∧
        (s.plan = .service → s.toBlock.BudgetOk →
          (t.toBlock.car i).state.isParked = true ∨ (t.toBlock.car i).state = .serving →
          (s.toBlock.modCar i (fun c => { c with state := .parked })).Evaluated t.toBlock))) ∧
    ((s.toBlock.car i).state ≠ .failed → (s.toBlock.car i).state ≠ .conflict → s.gport.roomOwn = true →
      s.mgmt.storeAnswer = [] →
      exec (.retryCar src (byteOf (carNo i))) s = .next { s with
        mgmt := s.begun, gport := s.gportWith (s.answer src 17 .notFound []) }) ∧
    (∀ x : Byte, carIx? x.toNat = none → s.gport.roomOwn = true → s.mgmt.storeAnswer = [] →
      exec (.retryCar src x) s = .next { s with
        mgmt := s.begun, gport := s.gportWith (s.answer src 17 .notFound []) })

/-- R164: RESTART's answer is placed with the mark that its sending is followed by the restart reset; where it finds no room the
restart reset is taken at once. The restart reset is taken when that answer has been sent, and when a G-port fault removes it;
that it is taken within these commands is the model's reading (assumption 8). -/
def Obligations.RestartIsAnsweredFirst : Prop :=
  (∀ (s : State) (src : Node), s.Allowed .maintenance →
    (s.Ready src → exec (.restart src) s = .next { s with
      mgmt := s.begun
      gport := s.gportWith { s.answer src 18 .done [] with restart := true } }) ∧
    (s.loaded = true → src.val ≠ 63 → s.gport.roomOwn = false →
      Completes (.restart src) s (fun t => exec .restartReset s = .next t))) ∧
  (∀ (s : State) (x : TxItem) (rest : List TxItem), s.gport.sending = true → s.gport.tx = x :: rest → x.restart = true →
    Completes (.frameSent .g) s (fun t => exec .restartReset s = .next t)) ∧
  (∀ s : State, s.gport.up = true → (∃ x ∈ s.gport.tx, x.restart = true) →
    Completes (.lineFault .g) s (fun t => exec .restartReset s = .next t))

/-- R153 checks 1, 2, 4 and 5: a request at too low a level is answered LEVEL; COMMIT, WIPE_PREPARE and WIPE are answered
PLAN_STATE outside NORMAL and STORE_BUSY while the store is busy; data of the wrong length are answered BAD_REQUEST. None of
these has any effect but what every request taken has. -/
def Obligations.ChecksTurnRequestsAway : Prop :=
  ∀ (s : State) (src : Node), s.Ready src →
    (∀ (c : Instr) (kind : Byte),
      (s.mgmt.level = .opened ∧
          ((c = .select src 0 [] ∧ kind = 16) ∨ (∃ cars, cars.length ≤ 16 ∧ c = .select src 1 cars ∧ kind = 16) ∨
            (∃ x, c = .retryCar src x ∧ kind = 17) ∨ (c = .restart src ∧ kind = 18))) ∨
        (s.mgmt.level ≠ .commission ∧
          ((∃ x n r, r.length = 12 * n.toNat ∧ c = .writeCars src x n r ∧ kind = 8) ∨
            (∃ r, r.length = 28 ∧ c = .writePlan src r ∧ kind = 9) ∨ (c = .commit src ∧ kind = 10) ∨
            (c = .discard src ∧ kind = 11) ∨ (∃ x k, c = .setKey src x k ∧ kind = 26) ∨ (c = .freeze src ∧ kind = 27) ∨
            (c = .wipePrepare src ∧ kind = 28) ∨ (c = .wipe src ∧ kind = 29))) →
      exec c s = .next { s with mgmt := s.begun, gport := s.gportWith (s.answer src kind .level []) }) ∧
    (∀ (c : Instr) (kind : Byte), s.mgmt.level = .commission →
      (c = .commit src ∧ kind = 10) ∨
        (s.mgmt.frozen = false ∧ ((c = .wipePrepare src ∧ kind = 28) ∨ (c = .wipe src ∧ kind = 29))) →
      (s.plan ≠ .normal →
        exec c s = .next { s with mgmt := s.begun, gport := s.gportWith (s.answer src kind .planState []) }) ∧
      (s.plan = .normal → s.mgmt.storeOp ≠ .idle →
        exec c s = .next { s with mgmt := s.begun, gport := s.gportWith (s.answer src kind .storeBusy []) })) ∧
    (∀ (c : Instr) (kind : Byte),
      (∃ x n r, r.length ≠ 12 * n.toNat ∧ c = .writeCars src x n r ∧ kind = 8) ∨
        (∃ r, r.length ≠ 28 ∧ c = .writePlan src r ∧ kind = 9) ∨
        (∃ cars, 16 < cars.length ∧ c = .select src 1 cars ∧ kind = 16) →
      exec c s = .next { s with mgmt := s.begun, gport := s.gportWith (s.answer src kind .badRequest []) })

/-- R161: UNLOCK with a right key sets the level asked; with a wrong one the counter falls by one and the level stays; with the
counter at 0 it is answered LOCKOUT and changes nothing, whatever its level byte (assumption 15); a level byte other than 1
and 2 is BAD_FIELD. LOCK and the idle timer's expiry set OPEN. -/
def Obligations.UnlockAndLock : Prop :=
  ∀ (s : State) (src : Node), s.Ready src →
    (∀ (x : Byte) (l : Level) (k : Key), s.mgmt.keyCounter ≠ 0 → (x = 1 ∧ l = .maintenance) ∨ (x = 2 ∧ l = .commission) →
      exec (.unlock src x k) s = .next
        (if (l = .maintenance ∧ (s.mgmt.maintKey = none ∨ s.mgmt.maintKey = some k ∨ s.mgmt.commKey = some k)) ∨
            (l = .commission ∧ (s.mgmt.commKey = none ∨ s.mgmt.commKey = some k)) then
          { s with mgmt := { s.begun with level := l }, gport := s.gportWith (s.answer src 24 .done []) }
        else
          { s with mgmt := { s.begun with keyCounter := s.mgmt.keyCounter - 1 }
                   gport := s.gportWith (s.answer src 24 .level []) })) ∧
    (∀ (x : Byte) (k : Key), s.mgmt.keyCounter = 0 →
      exec (.unlock src x k) s = .next { s with
        mgmt := s.begun, gport := s.gportWith (s.answer src 24 .lockout []) }) ∧
    (∀ (x : Byte) (k : Key), s.mgmt.keyCounter ≠ 0 → x ≠ 1 → x ≠ 2 →
      exec (.unlock src x k) s = .next { s with
        mgmt := s.begun, gport := s.gportWith (s.answer src 24 .badField [1, 0]) }) ∧
    exec (.lock src) s = .next { s with
      mgmt := { s.begun with level := .opened }, gport := s.gportWith (s.answer src 25 .done []) } ∧
    (s.mgmt.idleTimer.isSome = true →
      exec .idleTimerExpiry s = .next { s with mgmt := { s.mgmt with level := .opened, idleTimer := none } })

/-- R162, R163, R153: SET_KEY replaces the key in force, FREEZE freezes, WIPE_PREPARE in NORMAL with the store idle sets the
prepare flag, each answered DONE; while frozen SET_KEY, WIPE_PREPARE and WIPE are answered FROZEN and change nothing. -/
def Obligations.KeysFreezeAndPrepare : Prop :=
  ∀ (s : State) (src : Node) (k : Key), s.Ready src → s.Allowed .commission →
    (s.mgmt.frozen = false →
      exec (.setKey src 1 k) s = .next { s with
        mgmt := { s.begun with maintKey := some k }, gport := s.gportWith (s.answer src 26 .done []) } ∧
      exec (.setKey src 2 k) s = .next { s with
        mgmt := { s.begun with commKey := some k }, gport := s.gportWith (s.answer src 26 .done []) } ∧
      (s.plan = .normal → s.mgmt.storeOp = .idle → exec (.wipePrepare src) s = .next { s with
        mgmt := { s.begun with prepare := true }, gport := s.gportWith (s.answer src 28 .done []) })) ∧
    (s.mgmt.frozen = true →
      (∀ x, exec (.setKey src x k) s = .next { s with
        mgmt := s.begun, gport := s.gportWith (s.answer src 26 .frozen []) }) ∧
      exec (.wipePrepare src) s = .next { s with
        mgmt := s.begun, gport := s.gportWith (s.answer src 28 .frozen []) } ∧
      exec (.wipe src) s = .next { s with
        mgmt := s.begun, gport := s.gportWith (s.answer src 29 .frozen []) }) ∧
    exec (.freeze src) s = .next { s with
      mgmt := { s.begun with frozen := true }, gport := s.gportWith (s.answer src 27 .done []) }

/-- R163, R160, R154: WIPE with the prepare flag set begins the erase and sets the pending table to the defaults, without an
answer yet; without the flag it is answered NO_PREPARE. The end of the erase or of a store write clears the busy flag, leaves
the image as it ended (assumption 12), and is answered DONE or STORE_FAULT from the place of its own; without room the answer
waits there. -/
def Obligations.WipeAndStoreCompletions : Prop :=
  (∀ (s : State) (src : Node), s.loaded = true → src.val ≠ 63 → s.Allowed .commission → s.mgmt.frozen = false →
    s.plan = .normal → s.mgmt.storeOp = .idle → s.mgmt.prepare = true →
    exec (.wipe src) s = .next { s with pendingTable := Table.default, mgmt := { s.begun with storeOp := .erasing src } }) ∧
  (∀ (s : State) (src : Node), s.Ready src → s.Allowed .commission → s.mgmt.frozen = false →
    s.plan = .normal → s.mgmt.storeOp = .idle → s.mgmt.prepare = false →
    exec (.wipe src) s = .next { s with
      mgmt := s.begun, gport := s.gportWith (s.answer src 29 .noPrepare []) }) ∧
  (∀ (s : State) (src : Node) (blank : Bool), s.mgmt.storeOp = .erasing src → s.mgmt.storeAnswer = [] →
    s.mgmt.response = [] →
    exec (.eraseComplete blank) s = .next { s with
      mgmt := { s.mgmt with
        storeOp := .idle, image := if blank then Image.blank else .failing
        storeAnswer := if s.gport.roomOwn then []
          else [(s.answer src 29 (if blank then .done else .storeFault) []).frame] }
      gport := if s.gport.roomOwn then s.gportWith (s.answer src 29 (if blank then .done else .storeFault) [])
        else s.gport }) ∧
  (∀ (s : State) (src : Node) (image : List Byte) (matched : Bool), s.mgmt.storeOp = .writing image src →
    s.mgmt.storeAnswer = [] → s.mgmt.response = [] →
    exec (.storeWriteComplete matched) s = .next { s with
      mgmt := { s.mgmt with
        storeOp := .idle, image := if matched then .bytes image else .failing
        storeAnswer := if s.gport.roomOwn then []
          else [(s.answer src 10 (if matched then .done else .storeFault) []).frame] }
      gport := if s.gport.roomOwn then s.gportWith (s.answer src 10 (if matched then .done else .storeFault) [])
        else s.gport })

/-- R166: a part 1 that is not the last begins a new request; the next part of the same node is appended; a part of another number
from the assembling node, or one that would overflow the buffer, empties it and is answered BAD_REQUEST with the first data byte
held. Any other part, and a frame without a part byte, is discarded. A last part takes the request and empties the buffer: data
that spell a command have that command's whole effect (assumption 2), and data that spell none are answered BAD_REQUEST with
their first byte, or 0 where there is none (assumption 22). -/
def Obligations.RequestPartsAssemble : Prop :=
  (∀ (s : State) (dst : Byte) (src : Node) (data : List Byte), s.Takes .g (requestPartFrame dst src 1 data) .requestPart →
    exec .managementRequestPart s = .next { State.headTaken s with
      mgmt := { s.mgmt with request := some { node := src, next := 2, data := data } } }) ∧
  (∀ (s : State) (dst part : Byte) (src : Node) (data held : List Byte), 2 ≤ part.toNat → part.toNat ≤ 127 →
    s.Takes .g (requestPartFrame dst src part data) .requestPart →
    s.mgmt.request = some { node := src, next := part.toNat, data := held } → held.length + data.length ≤ 248 →
    exec .managementRequestPart s = .next { State.headTaken s with
      mgmt := { s.mgmt with request := some { node := src, next := part.toNat + 1, data := held ++ data } } }) ∧
  (∀ (s : State) (dst part : Byte) (src : Node) (data held : List Byte) (n : Nat), part.toNat % 128 ≠ 1 →
    part.toNat % 128 ≠ n ∨ 248 < held.length + data.length → s.Takes .g (requestPartFrame dst src part data) .requestPart →
    s.mgmt.request = some { node := src, next := n, data := held } → src.val ≠ 63 →
    s.mgmt.storeAnswer = [] → s.mgmt.response = [] → s.gport.takeHead.roomOwn = true →
    exec .managementRequestPart s = .next { State.headTaken s with
      mgmt := { s.mgmt with request := none }
      gport := { s.gport.takeHead with tx := s.gport.tx ++ [s.answer src (held.headD 0) .badRequest []] } }) ∧
  (∀ (s : State) (dst part : Byte) (src : Node) (data : List Byte), part.toNat % 128 ≠ 1 →
    s.Takes .g (requestPartFrame dst src part data) .requestPart → (∀ r, s.mgmt.request = some r → r.node ≠ src) →
    exec .managementRequestPart s = .next (State.headTaken s)) ∧
  (∀ (s : State) (dst src : Byte), s.Takes .g { dst := dst, src := src, kind := 32, payload := [] } .requestPart →
    exec .managementRequestPart s = .next (State.headTaken s)) ∧
  (∀ (s : State) (dst part : Byte) (src : Node) (held data : List Byte),
    s.Takes .g (requestPartFrame dst src part data) .requestPart →
    (part = 129 ∧ held = []) ∨
      (130 ≤ part.toNat ∧ s.mgmt.request = some { node := src, next := part.toNat - 128, data := held } ∧
        held.length + data.length ≤ 248) →
    (∀ c : Instr, c.requestData = some (src, held ++ data) →
      exec .managementRequestPart s = exec c { State.headTaken s with mgmt := { s.mgmt with request := none } }) ∧
    ((∀ c : Instr, c.requestData ≠ some (src, held ++ data)) → src.val ≠ 63 → s.mgmt.storeAnswer = [] →
      s.gport.takeHead.roomOwn = true →
      exec .managementRequestPart s = .next { State.headTaken s with
        mgmt := { s.begun with request := none }
        gport := { s.gport.takeHead with
          tx := s.gport.tx ++ [s.answer src ((held ++ data).headD 0) .badRequest []] } }))

/-- R154: one waiting part is placed when the G-port has room, an answer of the store ahead of the parts of a response; nothing
else changes, and without room nothing does. -/
def Obligations.WaitingPartsArePlaced : Prop :=
  ∀ s : State,
    (∀ f rest, s.mgmt.storeAnswer = f :: rest → s.gport.roomOwn = true →
      exec .responsePartPlaced s = .next { s with
        mgmt := { s.mgmt with storeAnswer := rest }, gport := s.gportWith (ownItem f) }) ∧
    (∀ f rest, s.mgmt.storeAnswer = [] → s.mgmt.response = f :: rest → s.gport.roomOwn = true →
      exec .responsePartPlaced s = .next { s with
        mgmt := { s.mgmt with response := rest }, gport := s.gportWith (ownItem f) }) ∧
    (s.gport.roomOwn = false → exec .responsePartPlaced s = .next s)

/-! ### What every step keeps -/

/-- Every step keeps both ports in order: FIFO and shares within their sizes (R146, R148), a waiting frame only before a full
FIFO, nothing queued or sent in FAULT (R150), the hold-off output as R147 gives. -/
def Obligations.EveryStepKeepsPorts : Prop :=
  ∀ s t : State, s.toBlock.PortsOk → step s = .next t → t.toBlock.PortsOk

/-- Every step keeps the budget in order: at most one commitment and one entry for a car and never both (R54, R72), at most one
holder of the start slot (R57, R80), the queue in order of effective class (R74). That no trigger and no evaluation is left
over at the end of a step is the model's own invariant (assumptions 6 and 7). -/
def Obligations.EveryStepKeepsBudget : Prop :=
  ∀ s t : State, s.toBlock.BudgetOk → s.toBlock.Settled → step s = .next t → t.toBlock.BudgetOk ∧ t.toBlock.Settled

/-- The state after reset is in order, with no command waiting and the plan ADOPT. Its image and pin levels are the model's choice
(assumptions 11 and 26) and play no part here. -/
def Obligations.ResetIsInOrder : Prop :=
  State.reset.toBlock.PortsOk ∧ State.reset.toBlock.BudgetOk ∧ State.reset.toBlock.Settled ∧ State.reset.pending = [] ∧
    State.reset.plan = .adopt

/-- R161: only a power-on reset and RESET_N raise the key attempt counter, and no command but these two ends a freeze (R162). -/
def Obligations.KeyCounterOnlyFalls : Prop :=
  ∀ (c : Instr) (s t : State), c ≠ .powerOnReset → c ≠ .resetN → exec c s = .next t →
    t.mgmt.keyCounter ≤ s.mgmt.keyCounter ∧ (s.mgmt.frozen = true → t.mgmt.frozen = true)
end

