-- ==== Sys2Proof/Laws/State.lean ====
section
/-! SUPPORT. One lemma for each field under each update of the part, so that no later proof unfolds a record update. -/

namespace Sys2Proof.Machine

/-! ### One car -/

/-- Reading a car after a change of a car. -/
theorem Block.car_modCar (b : Block) (i j : CarIx) (f : Car → Car) :
    (b.modCar i f).car j = if j = i then f (b.car i) else b.car j := by
  by_cases h : j = i
  · subst h; simp [Block.car, Block.modCar, Vector.get_eq_getElem]
  · have hv : i.val ≠ j.val := fun hh => h (Fin.ext hh.symm)
    simp only [Block.car, Block.modCar, Vector.get_eq_getElem, h, if_false]
    exact Vector.getElem_set_ne _ _ hv

/-- Reading the car that was changed. -/
@[simp] theorem Block.car_modCar_same (b : Block) (i : CarIx) (f : Car → Car) : (b.modCar i f).car i = f (b.car i) := by
  simp [Block.car_modCar]

/-- Reading another car than the one changed. -/
theorem Block.car_modCar_other (b : Block) {i j : CarIx} (f : Car → Car) (h : j ≠ i) :
    (b.modCar i f).car j = b.car j := by
  simp [Block.car_modCar, h]

/-! ### The other fields under a change of a car -/

@[simp] theorem Block.plan_modCar (b : Block) (i : CarIx) (f : Car → Car) : (b.modCar i f).plan = b.plan := rfl

@[simp] theorem Block.xfer_modCar (b : Block) (i : CarIx) (f : Car → Car) : (b.modCar i f).xfer = b.xfer := rfl

@[simp] theorem Block.gen_modCar (b : Block) (i : CarIx) (f : Car → Car) : (b.modCar i f).gen = b.gen := rfl

@[simp] theorem Block.derate_modCar (b : Block) (i : CarIx) (f : Car → Car) : (b.modCar i f).derate = b.derate := rfl

@[simp] theorem Block.transferTimer_modCar (b : Block) (i : CarIx) (f : Car → Car) : (b.modCar i f).transferTimer = b.transferTimer := rfl

@[simp] theorem Block.genSettled_modCar (b : Block) (i : CarIx) (f : Car → Car) : (b.modCar i f).genSettled = b.genSettled := rfl

@[simp] theorem Block.adoptionTimer_modCar (b : Block) (i : CarIx) (f : Car → Car) : (b.modCar i f).adoptionTimer = b.adoptionTimer := rfl

@[simp] theorem Block.modeTimer_modCar (b : Block) (i : CarIx) (f : Car → Car) : (b.modCar i f).modeTimer = b.modeTimer := rfl

@[simp] theorem Block.aEff_modCar (b : Block) (i : CarIx) (f : Car → Car) : (b.modCar i f).aEff = b.aEff := rfl

@[simp] theorem Block.recallReports_modCar (b : Block) (i : CarIx) (f : Car → Car) : (b.modCar i f).recallReports = b.recallReports := rfl

@[simp] theorem Block.listReports_modCar (b : Block) (i : CarIx) (f : Car → Car) : (b.modCar i f).listReports = b.listReports := rfl

@[simp] theorem Block.active_modCar (b : Block) (i : CarIx) (f : Car → Car) : (b.modCar i f).active = b.active := rfl

@[simp] theorem Block.fallback_modCar (b : Block) (i : CarIx) (f : Car → Car) : (b.modCar i f).fallback = b.fallback := rfl

@[simp] theorem Block.pendingTable_modCar (b : Block) (i : CarIx) (f : Car → Car) : (b.modCar i f).pendingTable = b.pendingTable := rfl

@[simp] theorem Block.loaded_modCar (b : Block) (i : CarIx) (f : Car → Car) : (b.modCar i f).loaded = b.loaded := rfl

@[simp] theorem Block.commitments_modCar (b : Block) (i : CarIx) (f : Car → Car) : (b.modCar i f).commitments = b.commitments := rfl

@[simp] theorem Block.queue_modCar (b : Block) (i : CarIx) (f : Car → Car) : (b.modCar i f).queue = b.queue := rfl

@[simp] theorem Block.settleTimer_modCar (b : Block) (i : CarIx) (f : Car → Car) : (b.modCar i f).settleTimer = b.settleTimer := rfl

@[simp] theorem Block.manual_modCar (b : Block) (i : CarIx) (f : Car → Car) : (b.modCar i f).manual = b.manual := rfl

@[simp] theorem Block.gport_modCar (b : Block) (i : CarIx) (f : Car → Car) : (b.modCar i f).gport = b.gport := rfl

@[simp] theorem Block.cport_modCar (b : Block) (i : CarIx) (f : Car → Car) : (b.modCar i f).cport = b.cport := rfl

@[simp] theorem Block.mgmt_modCar (b : Block) (i : CarIx) (f : Car → Car) : (b.modCar i f).mgmt = b.mgmt := rfl

@[simp] theorem Block.arbDue_modCar (b : Block) (i : CarIx) (f : Car → Car) : (b.modCar i f).arbDue = b.arbDue := rfl

@[simp] theorem Block.evalDue_modCar (b : Block) (i : CarIx) (f : Car → Car) : (b.modCar i f).evalDue = b.evalDue := rfl

@[simp] theorem Block.subTick_modCar (b : Block) (i : CarIx) (f : Car → Car) : (b.modCar i f).subTick = b.subTick := rfl

@[simp] theorem Block.freeCount_modCar (b : Block) (i : CarIx) (f : Car → Car) : (b.modCar i f).freeCount = b.freeCount := rfl

/-! ### A change of a port -/

@[simp] theorem Block.plan_modPort (b : Block) (p : PortId) (f : Port → Port) : (b.modPort p f).plan = b.plan := by cases p <;> rfl

@[simp] theorem Block.xfer_modPort (b : Block) (p : PortId) (f : Port → Port) : (b.modPort p f).xfer = b.xfer := by cases p <;> rfl

@[simp] theorem Block.gen_modPort (b : Block) (p : PortId) (f : Port → Port) : (b.modPort p f).gen = b.gen := by cases p <;> rfl

@[simp] theorem Block.derate_modPort (b : Block) (p : PortId) (f : Port → Port) : (b.modPort p f).derate = b.derate := by cases p <;> rfl

@[simp] theorem Block.transferTimer_modPort (b : Block) (p : PortId) (f : Port → Port) : (b.modPort p f).transferTimer = b.transferTimer := by cases p <;> rfl

@[simp] theorem Block.genSettled_modPort (b : Block) (p : PortId) (f : Port → Port) : (b.modPort p f).genSettled = b.genSettled := by cases p <;> rfl

@[simp] theorem Block.adoptionTimer_modPort (b : Block) (p : PortId) (f : Port → Port) : (b.modPort p f).adoptionTimer = b.adoptionTimer := by cases p <;> rfl

@[simp] theorem Block.modeTimer_modPort (b : Block) (p : PortId) (f : Port → Port) : (b.modPort p f).modeTimer = b.modeTimer := by cases p <;> rfl

@[simp] theorem Block.aEff_modPort (b : Block) (p : PortId) (f : Port → Port) : (b.modPort p f).aEff = b.aEff := by cases p <;> rfl

@[simp] theorem Block.recallReports_modPort (b : Block) (p : PortId) (f : Port → Port) : (b.modPort p f).recallReports = b.recallReports := by cases p <;> rfl

@[simp] theorem Block.listReports_modPort (b : Block) (p : PortId) (f : Port → Port) : (b.modPort p f).listReports = b.listReports := by cases p <;> rfl

@[simp] theorem Block.active_modPort (b : Block) (p : PortId) (f : Port → Port) : (b.modPort p f).active = b.active := by cases p <;> rfl

@[simp] theorem Block.fallback_modPort (b : Block) (p : PortId) (f : Port → Port) : (b.modPort p f).fallback = b.fallback := by cases p <;> rfl

@[simp] theorem Block.pendingTable_modPort (b : Block) (p : PortId) (f : Port → Port) : (b.modPort p f).pendingTable = b.pendingTable := by cases p <;> rfl

@[simp] theorem Block.loaded_modPort (b : Block) (p : PortId) (f : Port → Port) : (b.modPort p f).loaded = b.loaded := by cases p <;> rfl

@[simp] theorem Block.cars_modPort (b : Block) (p : PortId) (f : Port → Port) : (b.modPort p f).cars = b.cars := by cases p <;> rfl

@[simp] theorem Block.commitments_modPort (b : Block) (p : PortId) (f : Port → Port) : (b.modPort p f).commitments = b.commitments := by cases p <;> rfl

@[simp] theorem Block.queue_modPort (b : Block) (p : PortId) (f : Port → Port) : (b.modPort p f).queue = b.queue := by cases p <;> rfl

@[simp] theorem Block.settleTimer_modPort (b : Block) (p : PortId) (f : Port → Port) : (b.modPort p f).settleTimer = b.settleTimer := by cases p <;> rfl

@[simp] theorem Block.manual_modPort (b : Block) (p : PortId) (f : Port → Port) : (b.modPort p f).manual = b.manual := by cases p <;> rfl

@[simp] theorem Block.mgmt_modPort (b : Block) (p : PortId) (f : Port → Port) : (b.modPort p f).mgmt = b.mgmt := by cases p <;> rfl

@[simp] theorem Block.arbDue_modPort (b : Block) (p : PortId) (f : Port → Port) : (b.modPort p f).arbDue = b.arbDue := by cases p <;> rfl

@[simp] theorem Block.evalDue_modPort (b : Block) (p : PortId) (f : Port → Port) : (b.modPort p f).evalDue = b.evalDue := by cases p <;> rfl

@[simp] theorem Block.subTick_modPort (b : Block) (p : PortId) (f : Port → Port) : (b.modPort p f).subTick = b.subTick := by cases p <;> rfl

@[simp] theorem Block.freeCount_modPort (b : Block) (p : PortId) (f : Port → Port) : (b.modPort p f).freeCount = b.freeCount := by cases p <;> rfl

@[simp] theorem Block.port_modPort_same (b : Block) (p : PortId) (f : Port → Port) : (b.modPort p f).port p = f (b.port p) := by
  cases p <;> rfl

@[simp] theorem Block.port_modPort_opposite (b : Block) (p : PortId) (f : Port → Port) :
    (b.modPort p f).port (opposite p) = b.port (opposite p) := by
  cases p <;> rfl

@[simp] theorem Block.gport_modPort_g (b : Block) (f : Port → Port) : (b.modPort .g f).gport = f b.gport := rfl

@[simp] theorem Block.cport_modPort_g (b : Block) (f : Port → Port) : (b.modPort .g f).cport = b.cport := rfl

@[simp] theorem Block.gport_modPort_c (b : Block) (f : Port → Port) : (b.modPort .c f).gport = b.gport := rfl

@[simp] theorem Block.cport_modPort_c (b : Block) (f : Port → Port) : (b.modPort .c f).cport = f b.cport := rfl

@[simp] theorem Block.car_modPort (b : Block) (p : PortId) (f : Port → Port) (i : CarIx) : (b.modPort p f).car i = b.car i := by
  cases p <;> rfl

/-! ### A change of a commitment -/

@[simp] theorem Block.plan_modCommitment (b : Block) (i : CarIx) (f : Commitment → Commitment) : (b.modCommitment i f).plan = b.plan := rfl

@[simp] theorem Block.xfer_modCommitment (b : Block) (i : CarIx) (f : Commitment → Commitment) : (b.modCommitment i f).xfer = b.xfer := rfl

@[simp] theorem Block.gen_modCommitment (b : Block) (i : CarIx) (f : Commitment → Commitment) : (b.modCommitment i f).gen = b.gen := rfl

@[simp] theorem Block.derate_modCommitment (b : Block) (i : CarIx) (f : Commitment → Commitment) : (b.modCommitment i f).derate = b.derate := rfl

@[simp] theorem Block.transferTimer_modCommitment (b : Block) (i : CarIx) (f : Commitment → Commitment) : (b.modCommitment i f).transferTimer = b.transferTimer := rfl

@[simp] theorem Block.genSettled_modCommitment (b : Block) (i : CarIx) (f : Commitment → Commitment) : (b.modCommitment i f).genSettled = b.genSettled := rfl

@[simp] theorem Block.adoptionTimer_modCommitment (b : Block) (i : CarIx) (f : Commitment → Commitment) : (b.modCommitment i f).adoptionTimer = b.adoptionTimer := rfl

@[simp] theorem Block.modeTimer_modCommitment (b : Block) (i : CarIx) (f : Commitment → Commitment) : (b.modCommitment i f).modeTimer = b.modeTimer := rfl

@[simp] theorem Block.aEff_modCommitment (b : Block) (i : CarIx) (f : Commitment → Commitment) : (b.modCommitment i f).aEff = b.aEff := rfl

@[simp] theorem Block.recallReports_modCommitment (b : Block) (i : CarIx) (f : Commitment → Commitment) : (b.modCommitment i f).recallReports = b.recallReports := rfl

@[simp] theorem Block.listReports_modCommitment (b : Block) (i : CarIx) (f : Commitment → Commitment) : (b.modCommitment i f).listReports = b.listReports := rfl

@[simp] theorem Block.active_modCommitment (b : Block) (i : CarIx) (f : Commitment → Commitment) : (b.modCommitment i f).active = b.active := rfl

@[simp] theorem Block.fallback_modCommitment (b : Block) (i : CarIx) (f : Commitment → Commitment) : (b.modCommitment i f).fallback = b.fallback := rfl

@[simp] theorem Block.pendingTable_modCommitment (b : Block) (i : CarIx) (f : Commitment → Commitment) : (b.modCommitment i f).pendingTable = b.pendingTable := rfl

@[simp] theorem Block.loaded_modCommitment (b : Block) (i : CarIx) (f : Commitment → Commitment) : (b.modCommitment i f).loaded = b.loaded := rfl

@[simp] theorem Block.cars_modCommitment (b : Block) (i : CarIx) (f : Commitment → Commitment) : (b.modCommitment i f).cars = b.cars := rfl

@[simp] theorem Block.queue_modCommitment (b : Block) (i : CarIx) (f : Commitment → Commitment) : (b.modCommitment i f).queue = b.queue := rfl

@[simp] theorem Block.settleTimer_modCommitment (b : Block) (i : CarIx) (f : Commitment → Commitment) : (b.modCommitment i f).settleTimer = b.settleTimer := rfl

@[simp] theorem Block.manual_modCommitment (b : Block) (i : CarIx) (f : Commitment → Commitment) : (b.modCommitment i f).manual = b.manual := rfl

@[simp] theorem Block.gport_modCommitment (b : Block) (i : CarIx) (f : Commitment → Commitment) : (b.modCommitment i f).gport = b.gport := rfl

@[simp] theorem Block.cport_modCommitment (b : Block) (i : CarIx) (f : Commitment → Commitment) : (b.modCommitment i f).cport = b.cport := rfl

@[simp] theorem Block.mgmt_modCommitment (b : Block) (i : CarIx) (f : Commitment → Commitment) : (b.modCommitment i f).mgmt = b.mgmt := rfl

@[simp] theorem Block.arbDue_modCommitment (b : Block) (i : CarIx) (f : Commitment → Commitment) : (b.modCommitment i f).arbDue = b.arbDue := rfl

@[simp] theorem Block.evalDue_modCommitment (b : Block) (i : CarIx) (f : Commitment → Commitment) : (b.modCommitment i f).evalDue = b.evalDue := rfl

@[simp] theorem Block.subTick_modCommitment (b : Block) (i : CarIx) (f : Commitment → Commitment) : (b.modCommitment i f).subTick = b.subTick := rfl

@[simp] theorem Block.freeCount_modCommitment (b : Block) (i : CarIx) (f : Commitment → Commitment) : (b.modCommitment i f).freeCount = b.freeCount := rfl

/-! ### A change of the Management Unit and Plan Store -/

@[simp] theorem Block.plan_modMgmt (b : Block) (f : Mgmt → Mgmt) : (b.modMgmt f).plan = b.plan := rfl

@[simp] theorem Block.xfer_modMgmt (b : Block) (f : Mgmt → Mgmt) : (b.modMgmt f).xfer = b.xfer := rfl

@[simp] theorem Block.gen_modMgmt (b : Block) (f : Mgmt → Mgmt) : (b.modMgmt f).gen = b.gen := rfl

@[simp] theorem Block.derate_modMgmt (b : Block) (f : Mgmt → Mgmt) : (b.modMgmt f).derate = b.derate := rfl

@[simp] theorem Block.transferTimer_modMgmt (b : Block) (f : Mgmt → Mgmt) : (b.modMgmt f).transferTimer = b.transferTimer := rfl

@[simp] theorem Block.genSettled_modMgmt (b : Block) (f : Mgmt → Mgmt) : (b.modMgmt f).genSettled = b.genSettled := rfl

@[simp] theorem Block.adoptionTimer_modMgmt (b : Block) (f : Mgmt → Mgmt) : (b.modMgmt f).adoptionTimer = b.adoptionTimer := rfl

@[simp] theorem Block.modeTimer_modMgmt (b : Block) (f : Mgmt → Mgmt) : (b.modMgmt f).modeTimer = b.modeTimer := rfl

@[simp] theorem Block.aEff_modMgmt (b : Block) (f : Mgmt → Mgmt) : (b.modMgmt f).aEff = b.aEff := rfl

@[simp] theorem Block.recallReports_modMgmt (b : Block) (f : Mgmt → Mgmt) : (b.modMgmt f).recallReports = b.recallReports := rfl

@[simp] theorem Block.listReports_modMgmt (b : Block) (f : Mgmt → Mgmt) : (b.modMgmt f).listReports = b.listReports := rfl

@[simp] theorem Block.active_modMgmt (b : Block) (f : Mgmt → Mgmt) : (b.modMgmt f).active = b.active := rfl

@[simp] theorem Block.fallback_modMgmt (b : Block) (f : Mgmt → Mgmt) : (b.modMgmt f).fallback = b.fallback := rfl

@[simp] theorem Block.pendingTable_modMgmt (b : Block) (f : Mgmt → Mgmt) : (b.modMgmt f).pendingTable = b.pendingTable := rfl

@[simp] theorem Block.loaded_modMgmt (b : Block) (f : Mgmt → Mgmt) : (b.modMgmt f).loaded = b.loaded := rfl

@[simp] theorem Block.cars_modMgmt (b : Block) (f : Mgmt → Mgmt) : (b.modMgmt f).cars = b.cars := rfl

@[simp] theorem Block.commitments_modMgmt (b : Block) (f : Mgmt → Mgmt) : (b.modMgmt f).commitments = b.commitments := rfl

@[simp] theorem Block.queue_modMgmt (b : Block) (f : Mgmt → Mgmt) : (b.modMgmt f).queue = b.queue := rfl

@[simp] theorem Block.settleTimer_modMgmt (b : Block) (f : Mgmt → Mgmt) : (b.modMgmt f).settleTimer = b.settleTimer := rfl

@[simp] theorem Block.manual_modMgmt (b : Block) (f : Mgmt → Mgmt) : (b.modMgmt f).manual = b.manual := rfl

@[simp] theorem Block.gport_modMgmt (b : Block) (f : Mgmt → Mgmt) : (b.modMgmt f).gport = b.gport := rfl

@[simp] theorem Block.cport_modMgmt (b : Block) (f : Mgmt → Mgmt) : (b.modMgmt f).cport = b.cport := rfl

@[simp] theorem Block.arbDue_modMgmt (b : Block) (f : Mgmt → Mgmt) : (b.modMgmt f).arbDue = b.arbDue := rfl

@[simp] theorem Block.evalDue_modMgmt (b : Block) (f : Mgmt → Mgmt) : (b.modMgmt f).evalDue = b.evalDue := rfl

@[simp] theorem Block.subTick_modMgmt (b : Block) (f : Mgmt → Mgmt) : (b.modMgmt f).subTick = b.subTick := rfl

@[simp] theorem Block.freeCount_modMgmt (b : Block) (f : Mgmt → Mgmt) : (b.modMgmt f).freeCount = b.freeCount := rfl

@[simp] theorem Block.mgmt_modMgmt (b : Block) (f : Mgmt → Mgmt) : (b.modMgmt f).mgmt = f b.mgmt := rfl

/-! ### An arbitration trigger -/

@[simp] theorem Block.plan_trigger (b : Block) : (b.trigger).plan = b.plan := rfl

@[simp] theorem Block.xfer_trigger (b : Block) : (b.trigger).xfer = b.xfer := rfl

@[simp] theorem Block.gen_trigger (b : Block) : (b.trigger).gen = b.gen := rfl

@[simp] theorem Block.derate_trigger (b : Block) : (b.trigger).derate = b.derate := rfl

@[simp] theorem Block.transferTimer_trigger (b : Block) : (b.trigger).transferTimer = b.transferTimer := rfl

@[simp] theorem Block.genSettled_trigger (b : Block) : (b.trigger).genSettled = b.genSettled := rfl

@[simp] theorem Block.adoptionTimer_trigger (b : Block) : (b.trigger).adoptionTimer = b.adoptionTimer := rfl

@[simp] theorem Block.modeTimer_trigger (b : Block) : (b.trigger).modeTimer = b.modeTimer := rfl

@[simp] theorem Block.aEff_trigger (b : Block) : (b.trigger).aEff = b.aEff := rfl

@[simp] theorem Block.recallReports_trigger (b : Block) : (b.trigger).recallReports = b.recallReports := rfl

@[simp] theorem Block.listReports_trigger (b : Block) : (b.trigger).listReports = b.listReports := rfl

@[simp] theorem Block.active_trigger (b : Block) : (b.trigger).active = b.active := rfl

@[simp] theorem Block.fallback_trigger (b : Block) : (b.trigger).fallback = b.fallback := rfl

@[simp] theorem Block.pendingTable_trigger (b : Block) : (b.trigger).pendingTable = b.pendingTable := rfl

@[simp] theorem Block.loaded_trigger (b : Block) : (b.trigger).loaded = b.loaded := rfl

@[simp] theorem Block.cars_trigger (b : Block) : (b.trigger).cars = b.cars := rfl

@[simp] theorem Block.commitments_trigger (b : Block) : (b.trigger).commitments = b.commitments := rfl

@[simp] theorem Block.queue_trigger (b : Block) : (b.trigger).queue = b.queue := rfl

@[simp] theorem Block.settleTimer_trigger (b : Block) : (b.trigger).settleTimer = b.settleTimer := rfl

@[simp] theorem Block.manual_trigger (b : Block) : (b.trigger).manual = b.manual := rfl

@[simp] theorem Block.gport_trigger (b : Block) : (b.trigger).gport = b.gport := rfl

@[simp] theorem Block.cport_trigger (b : Block) : (b.trigger).cport = b.cport := rfl

@[simp] theorem Block.mgmt_trigger (b : Block) : (b.trigger).mgmt = b.mgmt := rfl

@[simp] theorem Block.evalDue_trigger (b : Block) : (b.trigger).evalDue = b.evalDue := rfl

@[simp] theorem Block.subTick_trigger (b : Block) : (b.trigger).subTick = b.subTick := rfl

@[simp] theorem Block.freeCount_trigger (b : Block) : (b.trigger).freeCount = b.freeCount := rfl

@[simp] theorem Block.arbDue_trigger (b : Block) : b.trigger.arbDue = true := rfl

/-! ### A change of the queue or of a port -/

@[simp] theorem Port.rx_record (p : Port) (k : ErrKind) : (p.record k).rx = p.rx := rfl

@[simp] theorem Port.tx_record (p : Port) (k : ErrKind) : (p.record k).tx = p.tx := rfl

@[simp] theorem Port.tx_push (p : Port) (x : TxItem) : (p.push x).tx = p.tx ++ [x] := rfl

@[simp] theorem Port.rx_updateHold (p : Port) : p.updateHold.rx = p.rx := rfl

@[simp] theorem Port.tx_updateHold (p : Port) : p.updateHold.tx = p.tx := rfl

@[simp] theorem Port.assembly_updateHold (p : Port) : p.updateHold.assembly = p.assembly := rfl

end Sys2Proof.Machine
end

