-- ==== Sys2Proof/Laws/Sends.lean ====
section
/-! SUPPORT. Every operation that only sends frames leaves everything else as it was: one lemma for each. -/

namespace Sys2Proof.Machine

/-! ### The relations are preorders -/

theorem Port.Sends.refl (p : Port) : p.Sends p :=
  ⟨rfl, rfl, rfl, rfl, rfl, rfl, ⟨[], by simp⟩, fun _ => rfl, id, id⟩

theorem Port.Sends.trans {p q r : Port} (h : p.Sends q) (k : q.Sends r) : p.Sends r where
  rx := k.rx.trans h.rx
  assembly := k.assembly.trans h.assembly
  holdOut := k.holdOut.trans h.holdOut
  holdIn := k.holdIn.trans h.holdIn
  sending := k.sending.trans h.sending
  up := k.up.trans h.up
  grows := by
    obtain ⟨l, hl⟩ := h.grows
    obtain ⟨m, hm⟩ := k.grows
    exact ⟨l ++ m, by rw [hm, hl, List.append_assoc]⟩
  faulty hu := (k.faulty (h.up.trans hu)).trans (h.faulty hu)
  own := k.own ∘ h.own
  relayed := k.relayed ∘ h.relayed

theorem Car.SameKnown.refl (c : Car) : c.SameKnown c := ⟨rfl, rfl, rfl, rfl⟩

theorem Car.SameKnown.trans {c d e : Car} (h : c.SameKnown d) (k : d.SameKnown e) : c.SameKnown e :=
  ⟨k.learned.trans h.learned, k.bound.trans h.bound, k.foreign.trans h.foreign, k.lastTag.trans h.lastTag⟩

theorem QueueShrinks.refl (q : List Entry) : QueueShrinks q q := ⟨fun _ => id, id, id⟩

theorem QueueShrinks.trans {q r s : List Entry} (h : QueueShrinks q r) (k : QueueShrinks r s) : QueueShrinks q s :=
  ⟨fun i => h.1 i ∘ k.1 i, k.2.1 ∘ h.2.1, k.2.2 ∘ h.2.2⟩

theorem Block.KeepsBase.refl (b : Block) : b.KeepsBase b :=
  ⟨rfl, rfl, rfl, rfl, rfl, rfl, rfl, rfl, rfl, rfl, rfl, rfl, rfl, .refl _, .refl _, fun _ => .refl _⟩

theorem Block.KeepsBase.trans {b c d : Block} (h : b.KeepsBase c) (k : c.KeepsBase d) : b.KeepsBase d where
  xfer := k.xfer.trans h.xfer
  gen := k.gen.trans h.gen
  derate := k.derate.trans h.derate
  transferTimer := k.transferTimer.trans h.transferTimer
  genSettled := k.genSettled.trans h.genSettled
  adoptionTimer := k.adoptionTimer.trans h.adoptionTimer
  aEff := k.aEff.trans h.aEff
  active := k.active.trans h.active
  fallback := k.fallback.trans h.fallback
  pendingTable := k.pendingTable.trans h.pendingTable
  loaded := k.loaded.trans h.loaded
  mgmt := k.mgmt.trans h.mgmt
  subTick := k.subTick.trans h.subTick
  gport := h.gport.trans k.gport
  cport := h.cport.trans k.cport
  known i := (h.known i).trans (k.known i)

theorem Block.KeepsPlan.refl (b : Block) : b.KeepsPlan b := ⟨.refl b, rfl, rfl, rfl, rfl, rfl, .refl _⟩

theorem Block.KeepsPlan.trans {b c d : Block} (h : b.KeepsPlan c) (k : c.KeepsPlan d) : b.KeepsPlan d :=
  ⟨h.toKeepsBase.trans k.toKeepsBase, k.plan.trans h.plan, k.modeTimer.trans h.modeTimer,
    k.listReports.trans h.listReports, k.settleTimer.trans h.settleTimer, k.manual.trans h.manual,
    h.queue.trans k.queue⟩

theorem Block.KeepsBudget.refl (b : Block) : b.KeepsBudget b := ⟨.refl b, rfl⟩

theorem Block.KeepsBudget.trans {b c d : Block} (h : b.KeepsBudget c) (k : c.KeepsBudget d) : b.KeepsBudget d :=
  ⟨h.toKeepsPlan.trans k.toKeepsPlan, k.commitments.trans h.commitments⟩

theorem Block.OnlySends.refl (b : Block) : b.OnlySends b := ⟨.refl b, rfl, rfl, rfl, rfl, rfl⟩

theorem Block.OnlySends.trans {b c d : Block} (h : b.OnlySends c) (k : c.OnlySends d) : b.OnlySends d :=
  ⟨h.toKeepsBudget.trans k.toKeepsBudget, k.sameQueue.trans h.sameQueue, k.cars.trans h.cars,
    k.recallReports.trans h.recallReports, k.arbDue.trans h.arbDue, k.evalDue.trans h.evalDue⟩

/-- A fold of steps that each stand in a preorder stands in it. -/
theorem foldl_rel {α β : Type} {R : β → β → Prop} (refl : ∀ b, R b b) (trans : ∀ {b c d}, R b c → R c d → R b d)
    {f : β → α → β} (step : ∀ b a, R b (f b a)) (l : List α) (b : β) : R b (l.foldl f b) := by
  induction l generalizing b with
  | nil => exact refl b
  | cons a l ih => exact trans (step b a) (ih (f b a))

/-! ### Ports -/

/-- Recording a kind only changes the error summary (R151). -/
theorem Port.record_sends (p : Port) (k : ErrKind) : p.Sends (p.record k) :=
  ⟨rfl, rfl, rfl, rfl, rfl, rfl, ⟨[], by simp⟩, fun _ => rfl, id, id⟩

/-- An own frame pushed where there is room keeps both shares within their sizes (R148). -/
theorem Port.push_own_sends (p : Port) (f : Frame) (restart : Bool) (h : p.roomOwn = true) :
    p.Sends (p.push { own := true, frame := f, restart := restart }) := by
  simp only [Port.roomOwn, Bool.and_eq_true, decide_eq_true_eq] at h
  refine ⟨rfl, rfl, rfl, rfl, rfl, rfl, ⟨_, rfl⟩, fun hu => ?_, fun _ => ?_, fun hr => ?_⟩
  · rw [hu] at h; simp at h
  · have := h.2
    simp only [Port.ownCount, Port.push, List.filter_append, List.length_append] at this ⊢
    simp; omega
  · simpa [Port.relayedCount, Port.push, List.filter_append] using hr

/-- A relayed frame pushed where there is room keeps both shares within their sizes (R148). -/
theorem Port.push_relayed_sends (p : Port) (f : Frame) (h : p.roomRelayed = true) :
    p.Sends (p.push { own := false, frame := f, restart := false }) := by
  simp only [Port.roomRelayed, Bool.and_eq_true, decide_eq_true_eq] at h
  refine ⟨rfl, rfl, rfl, rfl, rfl, rfl, ⟨_, rfl⟩, fun hu => ?_, fun ho => ?_, fun _ => ?_⟩
  · rw [hu] at h; simp at h
  · simpa [Port.ownCount, Port.push, List.filter_append] using ho
  · have := h.2
    simp only [Port.relayedCount, Port.push, List.filter_append, List.length_append] at this ⊢
    simp; omega

/-- A change of one port that only sends. -/
theorem Block.modPort_only (b : Block) (p : PortId) (f : Port → Port) (h : (b.port p).Sends (f (b.port p))) :
    b.OnlySends (b.modPort p f) := by
  cases p <;>
    exact ⟨⟨⟨⟨rfl, rfl, rfl, rfl, rfl, rfl, rfl, rfl, rfl, rfl, rfl, rfl, rfl,
      by first | exact h | exact .refl _, by first | exact h | exact .refl _, fun _ => .refl _⟩,
      rfl, rfl, rfl, rfl, rfl, .refl _⟩, rfl⟩, rfl, rfl, rfl, rfl, rfl⟩

/-- An own frame is placed, or nothing changes (R148). -/
theorem Block.placeOwn_only (b : Block) (p : PortId) (f : Frame) (restart : Bool) :
    b.OnlySends (b.placeOwn p f restart).1 := by
  unfold Block.placeOwn
  split
  · rename_i h
    exact Block.modPort_only b p (fun q => q.push { own := true, frame := f, restart := restart })
      (Port.push_own_sends _ f restart h)
  · exact .refl b

/-- A relayed frame is placed or recorded as discarded (R148). -/
theorem Block.relayTo_only (b : Block) (p : PortId) (f : Frame) : b.OnlySends (b.relayTo p f) := by
  unfold Block.relayTo
  split
  · rename_i h
    exact Block.modPort_only b p (fun q => q.push { own := false, frame := f, restart := false })
      (Port.push_relayed_sends _ f h)
  · exact b.modPort_only p _ (Port.record_sends _ _)

theorem Block.mirrorCopy_only (b : Block) (f : Frame) : b.OnlySends (b.mirrorCopy f) := by
  unfold Block.mirrorCopy
  split
  · exact b.placeOwn_only .g _ false
  · exact .refl b

/-- An own frame for the car bus is placed and mirrored, or not placed (R102, R144). -/
theorem Block.sendCar_only (b : Block) (dst : Byte) (k : FrameKind) (payload : List Byte) :
    b.OnlySends (b.sendCar dst k payload).1 := by
  unfold Block.sendCar
  dsimp only
  split
  · exact (b.placeOwn_only .c _ false).trans (Block.mirrorCopy_only _ _)
  · exact b.placeOwn_only .c _ false

theorem Block.sendCarOrLose_only (b : Block) (dst : Byte) (k : FrameKind) (payload : List Byte) :
    b.OnlySends (b.sendCarOrLose dst k payload) := by
  unfold Block.sendCarOrLose
  dsimp only
  split
  · exact b.sendCar_only dst k payload
  · exact (b.sendCar_only dst k payload).trans (Block.modPort_only _ _ _ (Port.record_sends _ _))

theorem Block.sendNotice_only (b : Block) (dst : Byte) (k : FrameKind) (payload : List Byte) :
    b.OnlySends (b.sendNotice dst k payload) := by
  unfold Block.sendNotice
  dsimp only
  split
  · exact b.placeOwn_only .g _ false
  · exact (b.placeOwn_only .g _ false).trans (Block.modPort_only _ _ _ (Port.record_sends _ _))

theorem Block.planNotice_only (b : Block) (r : NoticeReason) : b.OnlySends (b.planNotice r) := b.sendNotice_only _ _ _

theorem Block.carNotice_only (b : Block) (i : CarIx) (r : NoticeReason) : b.OnlySends (b.carNotice i r) :=
  b.sendNotice_only _ _ _

theorem Block.orderNotice_only (b : Block) (src car landing : Byte) (o : NoticeOutcome) :
    b.OnlySends (b.orderNotice src car landing o) := by
  unfold Block.orderNotice
  split
  · exact .refl b
  · exact b.sendNotice_only _ _ _

theorem Block.announce_only (b : Block) (f : Frame) (o : NoticeOutcome) : b.OnlySends (b.announce f o) :=
  b.orderNotice_only _ _ _ o

theorem Block.free_only (b : Block) : b.OnlySends b.free.1 :=
  ⟨⟨⟨⟨rfl, rfl, rfl, rfl, rfl, rfl, rfl, rfl, rfl, rfl, rfl, rfl, rfl, .refl _, .refl _, fun _ => .refl _⟩,
    rfl, rfl, rfl, rfl, rfl, .refl _⟩, rfl⟩, rfl, rfl, rfl, rfl, rfl⟩

theorem Block.boundNode_only (b : Block) (i : CarIx) : b.OnlySends (b.boundNode i).1 := by
  unfold Block.boundNode
  split
  · exact .refl b
  · exact b.free_only

theorem Block.refuse_only (b : Block) (dst : Byte) (i : CarIx) (tag : Byte) (r : RefusalReason) :
    b.OnlySends (b.refuse dst i tag r) := b.sendCarOrLose_only _ _ _

theorem Block.refuseBound_only (b : Block) (i : CarIx) (tag : Byte) (r : RefusalReason) :
    b.OnlySends (b.refuseBound i tag r) := (b.boundNode_only i).trans (Block.refuse_only _ _ _ _ _)

theorem Block.sendGrant_only (b : Block) (i : CarIx) (tag : Byte) (window : Nat) :
    b.OnlySends (b.sendGrant i tag window) := (b.boundNode_only i).trans (Block.sendCarOrLose_only _ _ _ _)

theorem Block.sendMode_only (b : Block) : b.OnlySends b.sendMode := b.sendCar_only _ _ _

theorem Block.relayUnder_only (b : Block) (p : PortId) (f : Frame) (cell : Bool) :
    b.OnlySends (b.relayUnder p f cell) := by
  unfold Block.relayUnder
  split
  · exact b.relayTo_only _ f
  · exact .refl b

/-- A frame that is neither taken nor a dispatch order only sends (R134). -/
theorem Block.relayFrame_only (p : PortId) (b : Block) (f : Frame) : b.OnlySends (b.relayFrame p f) := by
  unfold Block.relayFrame
  split
  · exact b.relayUnder_only p f _
  · exact b.relayUnder_only p f _
  · exact .refl b

end Sys2Proof.Machine
end

