-- ==== Sys2Proof/Laws/Moves.lean ====
section
/-! SUPPORT. Every operation of the start queue that only takes entries away, and every move of a car, keeps the plan, the commitment
list, the tables, the Management Unit and what is known of the cars: one lemma for each. -/

namespace Sys2Proof.Machine

/-! ### The start queue -/

/-- A queue with entries taken out. -/
theorem QueueShrinks.filter (q : List Entry) (f : Entry → Bool) : QueueShrinks q (q.filter f) := by
  refine ⟨fun i hi => ?_, fun h => ?_, fun h => ?_⟩
  · simp only [queueCars, List.mem_map, List.mem_filter] at hi ⊢
    obtain ⟨e, ⟨he, -⟩, rfl⟩ := hi
    exact ⟨e, he, rfl⟩
  · exact (List.Sublist.map _ List.filter_sublist).nodup h
  · exact h.sublist List.filter_sublist

/-- A queue whose entries keep their cars and classes. -/
theorem QueueShrinks.map (q : List Entry) (f : Entry → Entry) (hc : ∀ e, (f e).car = e.car) (hk : ∀ e, (f e).cls = e.cls) :
    QueueShrinks q (q.map f) := by
  have h : queueCars (q.map f) = queueCars q := by simp [queueCars, hc]
  refine ⟨fun i hi => h ▸ hi, fun hn => h ▸ hn, fun hs => ?_⟩
  unfold queueSorted at hs ⊢
  rw [List.pairwise_map]
  simpa [hk] using hs

/-- An inserted entry joins the others (R75). -/
theorem insertEntry_perm (e : Entry) (q : List Entry) : (insertEntry e q).Perm (e :: q) := by
  induction q with
  | nil => exact .refl _
  | cons x xs ih =>
    unfold insertEntry
    split
    · exact (ih.cons x).trans (.swap e x xs)
    · exact .refl _

/-- An insertion keeps the order of effective class (R74). -/
theorem insertEntry_sorted (e : Entry) (q : List Entry) (h : queueSorted q) : queueSorted (insertEntry e q) := by
  induction q with
  | nil => simp [insertEntry, queueSorted]
  | cons x xs ih =>
    have hx := List.pairwise_cons.1 h
    unfold insertEntry
    split
    · rename_i hle
      refine List.pairwise_cons.2 ⟨fun y hy => ?_, ih hx.2⟩
      rcases List.mem_cons.1 ((insertEntry_perm e xs).subset hy) with rfl | hy
      · exact hle
      · exact hx.1 y hy
    · rename_i hlt
      refine List.pairwise_cons.2 ⟨fun y hy => ?_, h⟩
      rcases List.mem_cons.1 hy with rfl | hy
      · omega
      · exact (hx.1 y hy).trans (by omega)

/-- The cars of a queue after an insertion. -/
theorem mem_queueCars_insert (e : Entry) (q : List Entry) (i : CarIx) :
    i ∈ queueCars (insertEntry e q) ↔ i = e.car ∨ i ∈ queueCars q := by
  have := ((insertEntry_perm e q).map (fun e => e.car)).mem_iff (a := i)
  simpa [queueCars] using this

/-- An entry moved to a new place in its queue (R77). -/
theorem QueueShrinks.reinsert (q : List Entry) (e : Entry) (h : e.car ∈ queueCars q) :
    QueueShrinks q (insertEntry e (q.filter (fun x => x.car ≠ e.car))) := by
  have hf := QueueShrinks.filter q (fun x => x.car ≠ e.car)
  refine ⟨fun i hi => ?_, fun hn => ?_, fun hs => insertEntry_sorted e _ (hf.2.2 hs)⟩
  · rcases (mem_queueCars_insert e _ i).1 hi with rfl | hi
    · exact h
    · exact hf.1 i hi
  · have hp : (queueCars (insertEntry e (q.filter (fun x => x.car ≠ e.car)))).Perm
        (e.car :: queueCars (q.filter (fun x => x.car ≠ e.car))) :=
      (insertEntry_perm e (q.filter (fun x => x.car ≠ e.car))).map (fun x : Entry => x.car)
    refine hp.nodup_iff.2 (List.nodup_cons.2 ⟨fun hm => ?_, hf.2.1 hn⟩)
    simp only [queueCars, List.mem_map, List.mem_filter, ne_eq, decide_not, Bool.not_eq_true'] at hm
    obtain ⟨a, ⟨-, ha⟩, hb⟩ := hm
    simp [hb] at ha

/-! ### The two primitive changes -/

/-- A change of one car that leaves what is known of it. -/
theorem Block.modCar_keeps (b : Block) (i : CarIx) (f : Car → Car) (h : (b.car i).SameKnown (f (b.car i))) :
    b.KeepsBudget (b.modCar i f) :=
  ⟨⟨⟨rfl, rfl, rfl, rfl, rfl, rfl, rfl, rfl, rfl, rfl, rfl, rfl, rfl, .refl _, .refl _, fun j => by
    by_cases hj : j = i
    · subst hj; simpa using h
    · rw [Block.car_modCar_other b f hj]; exact .refl _⟩, rfl, rfl, rfl, rfl, rfl, .refl _⟩, rfl⟩

/-- A change of the queue by which entries only leave or change, with a trigger. -/
theorem Block.queue_keeps (b : Block) (q : List Entry) (due : Bool) (h : QueueShrinks b.queue q) :
    b.KeepsBudget { b with queue := q, arbDue := due } :=
  ⟨⟨⟨rfl, rfl, rfl, rfl, rfl, rfl, rfl, rfl, rfl, rfl, rfl, rfl, rfl, .refl _, .refl _, fun _ => .refl _⟩,
    rfl, rfl, rfl, rfl, rfl, h⟩, rfl⟩

theorem Block.trigger_keeps (b : Block) : b.KeepsBudget b.trigger := b.queue_keeps b.queue true (.refl _)

/-! ### Queue operations -/

theorem Block.removeEntry_keeps (b : Block) (i : CarIx) : b.KeepsBudget (b.removeEntry i) :=
  b.queue_keeps _ true (.filter _ _)

theorem Block.entry_mem (b : Block) (i : CarIx) (e : Entry) (h : b.entry? i = some e) : e ∈ b.queue ∧ e.car = i := by
  unfold Block.entry? at h
  exact ⟨List.mem_of_find?_eq_some h, by simpa using List.find?_some h⟩

theorem Block.setEntryKind_keeps (b : Block) (i : CarIx) (k : RunKind) : b.KeepsBudget (b.setEntryKind i k) := by
  unfold Block.setEntryKind
  split
  · exact .refl b
  · rename_i e he
    obtain ⟨hm, hc⟩ := b.entry_mem i e he
    dsimp only
    split
    · refine b.queue_keeps _ b.arbDue (.map _ _ (fun e => ?_) (fun e => ?_)) <;> split <;> rfl
    · have h := QueueShrinks.reinsert b.queue
        { e with kind := k, cls := b.effectiveClass i k, skip := 0, blocking := decide (b.active.plan.skipLimit = 0) }
        (List.mem_map.2 ⟨e, hm, rfl⟩)
      exact b.queue_keeps _ true (by simpa only [hc] using h)

theorem Block.flush_keeps (b : Block) (r : RefusalReason) : b.KeepsBudget (b.flush r) := by
  unfold Block.flush
  refine (b.queue_keeps [] b.arbDue ⟨by simp [queueCars], by simp [queueCars], by simp [queueSorted]⟩).trans ?_
  exact foldl_rel .refl .trans (fun b e => (b.refuseBound_only _ _ _).toKeepsBudget) _ _

/-! ### Orders and slots -/

theorem Block.sendOrder_keeps (b : Block) (i : CarIx) : b.KeepsBudget (b.sendOrder i) := by
  unfold Block.sendOrder
  split
  · exact .refl b
  · dsimp only
    split
    · exact (b.sendCar_only _ _ _).toKeepsBudget.trans (Block.modCar_keeps _ _ _ ⟨rfl, rfl, rfl, rfl⟩)
    · exact (b.sendCar_only _ _ _).toKeepsBudget.trans (Block.modCar_keeps _ _ _ ⟨rfl, rfl, rfl, rfl⟩)

theorem Block.setSlot_keeps (b : Block) (i : CarIx) (x : Slot) : b.KeepsBudget (b.setSlot i x) :=
  b.modCar_keeps i _ ⟨rfl, rfl, rfl, rfl⟩

theorem Block.releaseSlot_keeps (b : Block) (i : CarIx) : b.KeepsBudget (b.releaseSlot i) := by
  unfold Block.releaseSlot
  split
  · exact ((b.setSlot_keeps i _).trans (Block.relayTo_only _ _ _).toKeepsBudget).trans
      (Block.announce_only _ _ _).toKeepsBudget
  · exact b.setSlot_keeps i _

theorem Block.dropSlot_keeps (b : Block) (i : CarIx) : b.KeepsBudget (b.dropSlot i) := by
  unfold Block.dropSlot
  split
  · exact (b.setSlot_keeps i _).trans (Block.announce_only _ _ _).toKeepsBudget
  · exact b.setSlot_keeps i _

theorem Block.tellRelay_keeps (b : Block) (i : CarIx) : b.KeepsBudget (b.tellRelay i) := by
  unfold Block.tellRelay
  split
  · split
    · exact b.setSlot_keeps i _
    · exact .refl b
  · split
    · exact .refl b
    · split
      · exact b.releaseSlot_keeps i
      · split
        · exact .refl b
        · exact b.dropSlot_keeps i

theorem Block.tellRelayAll_keeps (b : Block) : b.KeepsBudget b.tellRelayAll :=
  foldl_rel .refl .trans (fun b i => b.tellRelay_keeps i) _ _

/-! ### Moves -/

theorem Block.rejudge_keeps (b : Block) (i : CarIx) : b.KeepsBudget (b.rejudge i).1 := by
  unfold Block.rejudge
  split
  · exact .refl b
  · split
    · exact (b.removeEntry_keeps i).trans (Block.refuseBound_only _ _ _ _).toKeepsBudget
    · split
      · exact .refl b
      · split
        · exact b.setEntryKind_keeps i _
        · dsimp only
          split
          · exact ((b.removeEntry_keeps i).trans (Block.refuseBound_only _ _ _ _).toKeepsBudget).trans
              (Block.sendOrder_keeps _ _)
          · exact (b.removeEntry_keeps i).trans (Block.refuseBound_only _ _ _ _).toKeepsBudget

theorem Block.tellSelection_keeps (b : Block) (old dest : RState) : b.KeepsBudget (b.tellSelection old dest) := by
  unfold Block.tellSelection
  split
  · exact ⟨⟨⟨rfl, rfl, rfl, rfl, rfl, rfl, rfl, rfl, rfl, rfl, rfl, rfl, rfl, .refl _, .refl _, fun _ => .refl _⟩,
      rfl, rfl, rfl, rfl, rfl, .refl _⟩, rfl⟩
  · exact .refl b

theorem Block.tellRecallWork_keeps (b : Block) (n : Nat) : b.KeepsBudget (b.tellRecallWork n) := by
  unfold Block.tellRecallWork
  split
  · exact ⟨⟨⟨rfl, rfl, rfl, rfl, rfl, rfl, rfl, rfl, rfl, rfl, rfl, rfl, rfl, .refl _, .refl _, fun _ => .refl _⟩,
      rfl, rfl, rfl, rfl, rfl, .refl _⟩, rfl⟩
  · exact .refl b

theorem Block.sendOrderOnce_keeps (b : Block) (i : CarIx) (wanted sent : Bool) :
    b.KeepsBudget (b.sendOrderOnce i wanted sent) := by
  unfold Block.sendOrderOnce
  split
  · exact b.sendOrder_keeps i
  · exact .refl b

theorem Block.changeState_keeps (b : Block) (i : CarIx) (dest : RState) (r : Reason) (send : Bool) :
    b.KeepsBudget (b.changeState i dest r send) := by
  unfold Block.changeState
  exact (((((((b.modCar_keeps i (fun c => c.enter dest r) ⟨rfl, rfl, rfl, rfl⟩).trans
    (Block.carNotice_only _ _ _).toKeepsBudget).trans (Block.rejudge_keeps _ _)).trans
    (Block.sendOrderOnce_keeps _ _ _ _)).trans (Block.tellRelay_keeps _ _)).trans
    (Block.tellSelection_keeps _ _ _)).trans (Block.tellRecallWork_keeps _ _))

/-- A move of a car (R106). -/
theorem Block.move_keeps (b : Block) (i : CarIx) (dest : RState) (r : Reason) (send : Bool) :
    b.KeepsBudget (b.move i dest r send) := by
  unfold Block.move
  split
  · exact b.sendOrderOnce_keeps i send false
  · exact b.changeState_keeps i dest r send

theorem Block.fail_keeps (b : Block) (i : CarIx) (r : Reason) : b.KeepsBudget (b.fail i r) := b.move_keeps i _ r _

theorem Block.park_keeps (b : Block) (i : CarIx) (alarm : Bool) : b.KeepsBudget (b.park i alarm) := by
  unfold Block.park
  dsimp only
  split
  · exact (b.modCar_keeps i _ (⟨rfl, rfl, rfl, rfl⟩)).trans (Block.move_keeps _ _ _ _ _)
  · exact b.move_keeps i _ _ _

theorem Block.land_keeps (b : Block) (i : CarIx) : b.KeepsBudget (b.land i) := by
  unfold Block.land
  split
  · exact (b.move_keeps i _ _ _).trans (Block.park_keeps _ _ _)
  · exact (b.modCar_keeps i _ (⟨rfl, rfl, rfl, rfl⟩)).trans (Block.move_keeps _ _ _ _ _)

theorem Block.arrivalCheck_keeps (b : Block) (i : CarIx) : b.KeepsBudget (b.arrivalCheck i) := by
  unfold Block.arrivalCheck
  split
  · exact b.land_keeps i
  · exact .refl b

theorem Block.arrivalAll_keeps (b : Block) : b.KeepsBudget b.arrivalAll :=
  foldl_rel .refl .trans (fun b i => b.arrivalCheck_keeps i) _ _

theorem Block.setOrder_keeps (b : Block) (i : CarIx) (o : Option CarOrder) : b.KeepsBudget (b.setOrder i o) :=
  b.modCar_keeps i _ ⟨rfl, rfl, rfl, rfl⟩

theorem Block.orderRecall_keeps (b : Block) (i : CarIx) : b.KeepsBudget (b.orderRecall i) :=
  ((b.setOrder_keeps i _).trans (Block.move_keeps _ _ _ _ _)).trans (Block.arrivalCheck_keeps _ _)

theorem Block.place_keeps (b : Block) (i : CarIx) : b.KeepsBudget (b.place i) := by
  unfold Block.place
  split
  · exact b.move_keeps i _ _ _
  · split
    · exact b.move_keeps i _ _ _
    · split
      · exact b.move_keeps i _ _ _
      · split
        · exact b.orderRecall_keeps i
        · exact b.move_keeps i _ _ _

theorem Block.countAttempt_keeps (b : Block) (i : CarIx) : b.KeepsBudget (b.countAttempt i) := by
  unfold Block.countAttempt
  dsimp only
  have h := b.modCar_keeps i (fun c => { c with attempts := (b.car i).attempts + 1 }) ⟨rfl, rfl, rfl, rfl⟩
  split
  · exact h.trans (Block.move_keeps _ _ _ _ _)
  · exact h.trans (Block.fail_keeps _ _ _)

theorem Block.modeComparison_keeps (b : Block) (i : CarIx) (was : ModeGroup) :
    b.KeepsBudget (b.modeComparison i was) := by
  unfold Block.modeComparison
  dsimp only
  repeat' split
  all_goals first
    | exact .refl b
    | exact b.move_keeps i _ _ _
    | exact b.place_keeps i
    | exact (b.modCar_keeps i _ (⟨rfl, rfl, rfl, rfl⟩)).trans (Block.move_keeps _ _ _ _ _)

theorem Block.afterRelease_keeps (b : Block) (i : CarIx) : b.KeepsBudget (b.afterRelease i) := by
  unfold Block.afterRelease
  split
  · exact (b.sendOrder_keeps i).trans (Block.arrivalCheck_keeps _ _)
  · exact b.arrivalCheck_keeps i

/-- What the Restoration Controller does at the end of a commitment (R115). -/
theorem Block.takeEnd_keeps (b : Block) (i : CarIx) (c : Commitment) (how : EndKind) :
    b.KeepsBudget (b.takeEnd i c how) := by
  unfold Block.takeEnd
  dsimp only
  repeat' split
  all_goals first
    | exact .refl b
    | exact b.fail_keeps i _
    | exact b.land_keeps i
    | exact b.countAttempt_keeps i
    | exact b.afterRelease_keeps i
    | exact b.move_keeps i _ _ _

theorem Block.takeRunLimit_keeps (b : Block) (i : CarIx) : b.KeepsBudget (b.takeRunLimit i) := by
  unfold Block.takeRunLimit
  split
  · exact .refl b
  · exact b.fail_keeps i _

/-! ### The service set -/

theorem Block.selectCar_keeps (b : Block) (i : CarIx) : b.KeepsBudget (b.selectCar i) :=
  (b.modCar_keeps i _ (⟨rfl, rfl, rfl, rfl⟩)).trans (Block.move_keeps _ _ _ _ _)

theorem Block.releaseCar_keeps (b : Block) (i : CarIx) : b.KeepsBudget (b.releaseCar i) := by
  unfold Block.releaseCar
  dsimp only
  split
  · exact (b.modCar_keeps i _ (⟨rfl, rfl, rfl, rfl⟩)).trans (Block.move_keeps _ _ _ _ _)
  · exact ((b.setOrder_keeps i _).trans (Block.move_keeps _ _ _ _ _)).trans (Block.arrivalCheck_keeps _ _)

theorem Block.evaluateCar_keeps (l : List CarIx) (b : Block) (i : CarIx) :
    b.KeepsBudget (Block.evaluateCar l b i) := by
  unfold Block.evaluateCar
  repeat' split
  all_goals first
    | exact .refl b
    | exact b.selectCar_keeps i
    | exact b.releaseCar_keeps i

theorem Block.evalDue_keeps (b : Block) (x : Bool) : b.KeepsBudget { b with evalDue := x } :=
  ⟨⟨⟨rfl, rfl, rfl, rfl, rfl, rfl, rfl, rfl, rfl, rfl, rfl, rfl, rfl, .refl _, .refl _, fun _ => .refl _⟩,
    rfl, rfl, rfl, rfl, rfl, .refl _⟩, rfl⟩

/-- An evaluation of the service set (R126, R129). -/
theorem Block.evaluate_keeps (b : Block) : b.KeepsBudget b.evaluate := by
  unfold Block.evaluate
  split
  · exact Block.KeepsBudget.trans (c := allCars.foldl (Block.evaluateCar b.serviceSet) b)
      (foldl_rel .refl .trans (fun b i => Block.evaluateCar_keeps _ b i) _ _) (Block.evalDue_keeps _ _)
  · exact b.evalDue_keeps _

theorem Block.takeEvaluation_keeps (b : Block) : b.KeepsBudget b.takeEvaluation := by
  unfold Block.takeEvaluation
  split
  · exact b.evaluate_keeps
  · exact .refl b

theorem Block.syncResend_keeps (b : Block) (i : CarIx) : b.KeepsBudget (b.syncResend i) := by
  unfold Block.syncResend
  repeat' split
  all_goals first
    | exact .refl b
    | exact b.modCar_keeps i _ (⟨rfl, rfl, rfl, rfl⟩)

/-- Marking a lost SERVE order changes no more than its car's marks (R150). -/
theorem Block.loseServe_keeps (b : Block) (i : CarIx) : b.KeepsBudget (b.loseServe i) := by
  unfold Block.loseServe
  split
  · exact b.modCar_keeps i _ ⟨rfl, rfl, rfl, rfl⟩
  · exact .refl b

end Sys2Proof.Machine
end

