-- ==== Sys2Proof/Laws/Plans.lean ====
section
/-! SUPPORT. What an arbitration pass, a budget operation and a plan change leave as they were: one lemma for each. -/

namespace Sys2Proof.Machine

/-! ### Two more primitive changes -/

/-- A change of the commitment list, with a trigger or a report. -/
theorem Block.commitments_keepBase (b : Block) (l : List Commitment) (n : Nat) (due : Bool) :
    b.KeepsBase { b with commitments := l, listReports := n, arbDue := due } :=
  ⟨rfl, rfl, rfl, rfl, rfl, rfl, rfl, rfl, rfl, rfl, rfl, rfl, rfl, .refl _, .refl _, fun _ => .refl _⟩

/-- A change of the plan with its own state, the commitment list, the settle timer and the manual selection. -/
theorem Block.plan_keepBase (b : Block) (p : Plan) (t : Timer) (l : List Commitment) (s : Timer)
    (m : Option (List CarIx)) (n : Nat) (due : Bool) :
    b.KeepsBase { b with plan := p, modeTimer := t, commitments := l, settleTimer := s, manual := m, listReports := n,
                         arbDue := due } :=
  ⟨rfl, rfl, rfl, rfl, rfl, rfl, rfl, rfl, rfl, rfl, rfl, rfl, rfl, .refl _, .refl _, fun _ => .refl _⟩

/-! ### A pass and the end of a step -/

theorem Block.takeGrant_keeps (b : Block) (i : CarIx) (k : RunKind) : b.KeepsBudget (b.takeGrant i k) := by
  unfold Block.takeGrant
  dsimp only
  repeat' split
  all_goals first
    | exact .refl b
    | exact (b.modCar_keeps i _ (⟨rfl, rfl, rfl, rfl⟩)).trans (Block.move_keeps _ _ _ _ _)
    | exact b.modCar_keeps i _ (⟨rfl, rfl, rfl, rfl⟩)

/-- A bump keeps the car. -/
@[simp] theorem Entry.car_bump (n : Nat) (e : Entry) : (e.bump n).car = e.car := rfl

/-- A bump keeps the class. -/
@[simp] theorem Entry.cls_bump (n : Nat) (e : Entry) : (e.bump n).cls = e.cls := rfl

/-- A grant (R85): the list and the queue change before the frame and the move. -/
theorem Block.grantEntry_keeps (b : Block) (e : Entry) (noted : List CarIx) : b.KeepsPlan (b.grantEntry e noted) := by
  unfold Block.grantEntry
  dsimp only
  refine Block.KeepsPlan.trans ?_
    ((Block.sendGrant_only _ _ _ _).toKeepsBudget.trans (Block.takeGrant_keeps _ _ _)).toKeepsPlan
  refine ⟨⟨rfl, rfl, rfl, rfl, rfl, rfl, rfl, rfl, rfl, rfl, rfl, rfl, rfl, .refl _, .refl _, fun _ => .refl _⟩,
    rfl, rfl, rfl, rfl, rfl, (QueueShrinks.filter _ _).trans (.map _ _ (fun x => ?_) (fun x => ?_))⟩ <;> split <;> rfl

/-- An arbitration pass (R84). -/
theorem Block.pass_keeps (b : Block) : b.KeepsPlan b.pass := by
  unfold Block.pass
  split
  · exact .refl b
  · exact b.grantEntry_keeps _ _

theorem Block.takeTrigger_keeps (b : Block) : b.KeepsPlan b.takeTrigger := by
  unfold Block.takeTrigger
  split
  · have h : ∀ c : Block, c.KeepsPlan { c with arbDue := false } := fun c =>
      (c.queue_keeps c.queue false (.refl _)).toKeepsPlan
    split
    · exact b.pass_keeps.trans (h _)
    · exact h b
  · exact .refl b

/-- The end of a step keeps the plan and everything a pass cannot reach. -/
theorem Block.finish_keeps (b : Block) : b.KeepsPlan b.finish :=
  (b.takeEvaluation_keeps.toKeepsPlan.trans (Block.takeTrigger_keeps _)).trans
    (foldl_rel .refl .trans (fun b i => b.syncResend_keeps i) _ _ : Block.KeepsBudget _ _).toKeepsPlan

/-! ### The Budget Unit -/

theorem Block.modCommitment_keepBase (b : Block) (i : CarIx) (f : Commitment → Commitment) :
    b.KeepsBase (b.modCommitment i f) := b.commitments_keepBase _ b.listReports b.arbDue

theorem Block.dropCommitment_keepBase (b : Block) (i : CarIx) : b.KeepsBase (b.dropCommitment i) :=
  b.commitments_keepBase _ _ true

theorem Block.freeWithSettle_keepBase (b : Block) : b.KeepsBase b.freeWithSettle :=
  b.plan_keepBase b.plan b.modeTimer b.commitments _ b.manual b.listReports b.arbDue

theorem Block.advance_keepBase (b : Block) (i : CarIx) (c : Commitment) (m : Motion) :
    b.KeepsBase (b.advance i c m) := by
  unfold Block.advance
  split
  · exact (b.modCommitment_keepBase i _).trans (Block.trigger_keeps _).toKeepsBase
  · split
    · exact ((b.modCommitment_keepBase i _).trans (Block.freeWithSettle_keepBase _)).trans
        (Block.trigger_keeps _).toKeepsBase
    · exact .refl b
  · exact .refl b

theorem Block.endByReport_keepBase (b : Block) (i : CarIx) (c : Commitment) : b.KeepsBase (b.endByReport i c) := by
  unfold Block.endByReport
  split
  · exact (b.dropCommitment_keepBase i).trans (Block.freeWithSettle_keepBase _)
  · exact b.dropCommitment_keepBase i

theorem Block.adopt_keepBase (b : Block) (i : CarIx) (u : Bool) : b.KeepsBase (b.adopt i u) := by
  unfold Block.adopt
  dsimp only
  have h : ∀ (c : Block) (l : List Commitment), c.KeepsBase { c with commitments := l } := fun c l =>
    c.commitments_keepBase l c.listReports c.arbDue
  split
  · exact (b.removeEntry_keeps i).toKeepsBase.trans (h _ _)
  · exact h _ _

/-- The Budget Unit's stage of a report (R27). -/
theorem Block.budgetStage_keepBase (b : Block) (i : CarIx) : b.KeepsBase (b.budgetStage i).1 := by
  unfold Block.budgetStage
  dsimp only
  repeat' split
  all_goals first
    | exact .refl b
    | exact b.endByReport_keepBase i _
    | exact b.advance_keepBase i _ _
    | exact b.adopt_keepBase i _

theorem Block.lapse_keepBase (b : Block) (i : CarIx) (c : Commitment) : b.KeepsBase (b.lapse i c) := by
  unfold Block.lapse
  dsimp only
  refine Block.KeepsBase.trans ?_ (Block.finish_keeps _).toKeepsBase
  split
  · exact ((b.dropCommitment_keepBase i).trans (Block.refuseBound_only _ _ _ _).toKeepsBase).trans
      (Block.takeEnd_keeps _ _ _ _).toKeepsBase
  · exact (b.dropCommitment_keepBase i).trans (Block.takeEnd_keeps _ _ _ _).toKeepsBase

theorem Block.slowStart_keepBase (b : Block) (i : CarIx) : b.KeepsBase (b.slowStart i) :=
  (((b.modCommitment_keepBase i _).trans (Block.freeWithSettle_keepBase _)).trans
    (Block.trigger_keeps _).toKeepsBase).trans (Block.finish_keeps _).toKeepsBase

/-! ### Plan changes -/

theorem Block.changePlan_keepBase (b : Block) (p : Plan) : b.KeepsBase (b.changePlan p) :=
  ((b.plan_keepBase p (some Config.modeRepeat) b.commitments b.settleTimer b.manual b.listReports b.arbDue).trans
    (Block.sendMode_only _).toKeepsBase).trans (Block.planNotice_only _ _).toKeepsBase

theorem Block.orderStanding_keeps (b : Block) (i : CarIx) : b.KeepsBudget (b.orderStanding i) := by
  unfold Block.orderStanding
  split
  · exact (b.setOrder_keeps i _).trans (Block.move_keeps _ _ _ _ _)
  · exact .refl b

/-- Entry into SERVICE (R12). -/
theorem Block.enterService_keepBase (b : Block) : b.KeepsBase b.enterService :=
  ((((b.changePlan_keepBase _).trans (Block.arrivalAll_keeps _).toKeepsBase).trans
    (Block.evaluate_keeps _).toKeepsBase).trans (Block.tellRelayAll_keeps _).toKeepsBase).trans
    (Block.trigger_keeps _).toKeepsBase

/-- Entry into RECALL (R10). -/
theorem Block.enterRecall_keepBase (b : Block) : b.KeepsBase b.enterRecall := by
  have h : b.KeepsBase (allCars.foldl Block.orderStanding (b.changePlan .recall)).arrivalAll.trigger.takeTrigger :=
    ((((b.changePlan_keepBase _).trans
      (foldl_rel .refl .trans (fun b i => b.orderStanding_keeps i) _ _ : Block.KeepsBudget _ _).toKeepsBase).trans
      (Block.arrivalAll_keeps _).toKeepsBase).trans (Block.trigger_keeps _).toKeepsBase).trans
      (Block.takeTrigger_keeps _).toKeepsBase
  unfold Block.enterRecall
  dsimp only
  split
  · exact h.trans (Block.enterService_keepBase _)
  · exact h

theorem Block.passOnSettled_keepBase (b : Block) : b.KeepsBase b.passOnSettled := by
  unfold Block.passOnSettled
  split
  · exact b.enterRecall_keepBase
  · exact .refl b

theorem Block.standCar_keeps (b : Block) (i : CarIx) : b.KeepsBudget (b.standCar i) := by
  unfold Block.standCar
  dsimp only
  have h := b.modCar_keeps i (fun c => { c with attempts := 0 }) ⟨rfl, rfl, rfl, rfl⟩
  split
  · exact (h.trans (Block.move_keeps _ _ _ _ _)).trans (Block.place_keeps _ _)
  · exact h

/-- Entry into TRANSFER_WAIT from NORMAL or ADOPT (R7). -/
theorem Block.enterWaitFresh_keepBase (b : Block) : b.KeepsBase b.enterWaitFresh :=
  ((b.changePlan_keepBase _).trans
    (foldl_rel .refl .trans (fun b i => b.standCar_keeps i) _ _ : Block.KeepsBudget _ _).toKeepsBase).trans
    (Block.passOnSettled_keepBase _)

theorem Block.loseCar_keeps (b : Block) (i : CarIx) : b.KeepsBudget (b.loseCar i) := by
  unfold Block.loseCar
  repeat' split
  all_goals first
    | exact .refl b
    | exact b.countAttempt_keeps i
    | exact b.move_keeps i _ _ _
    | exact b.sendOrder_keeps i

theorem Block.void_keepBase (b : Block) : b.KeepsBase b.void :=
  b.plan_keepBase b.plan b.modeTimer [] none b.manual b.listReports b.arbDue

theorem Block.dropHeld_keeps (b : Block) : b.KeepsBudget b.dropHeld :=
  foldl_rel .refl .trans (fun b i => by
    split
    · exact .refl b
    · exact b.dropSlot_keeps i) _ _

/-- Entry into TRANSFER_WAIT from RECALL, SERVICE or MAINS_RETURN (R8). -/
theorem Block.enterWaitLoss_keepBase (b : Block) : b.KeepsBase b.enterWaitLoss :=
  (((((b.changePlan_keepBase _).trans (Block.void_keepBase _)).trans
    (foldl_rel .refl .trans (fun b i => b.loseCar_keeps i) _ _ : Block.KeepsBudget _ _).toKeepsBase).trans
    (Block.flush_keeps _ _).toKeepsBase).trans (Block.dropHeld_keeps _).toKeepsBase).trans
    (Block.passOnSettled_keepBase _)

theorem Block.normalCar_keeps (b : Block) (i : CarIx) : b.KeepsBudget (b.normalCar i) := by
  unfold Block.normalCar
  dsimp only
  have h := b.modCar_keeps i (fun c =>
    { c with attempts := 0, doorAlarm := false, doorTimer := none, resendTimer := none, serveUnsent := false,
             selected := false, order := none, orderDeferred := false, reason := .none }) ⟨rfl, rfl, rfl, rfl⟩
  split
  · exact h
  · exact h
  · exact h
  · exact h.trans (Block.move_keeps _ _ _ _ _)

/-- Entry into NORMAL (R14). -/
theorem Block.enterNormal_keepBase (b : Block) : b.KeepsBase b.enterNormal := by
  unfold Block.enterNormal
  dsimp only
  have h : ∀ c : Block, c.KeepsBase
      (allCars.foldl Block.normalCar { c.changePlan .normal with manual := none }) := fun c =>
    ((c.changePlan_keepBase _).trans (Block.plan_keepBase _ (c.changePlan .normal).plan (c.changePlan .normal).modeTimer
      (c.changePlan .normal).commitments (c.changePlan .normal).settleTimer none (c.changePlan .normal).listReports
      (c.changePlan .normal).arbDue)).trans
      (foldl_rel .refl .trans (fun b i => b.normalCar_keeps i) _ _ : Block.KeepsBudget _ _).toKeepsBase
  split
  · exact Block.KeepsBase.trans (c := { b with commitments := [] })
      (b.commitments_keepBase [] b.listReports b.arbDue) (h _)
  · exact h b

/-- Entry into MAINS_RETURN (R13). -/
theorem Block.enterMainsReturn_keepBase (b : Block) : b.KeepsBase b.enterMainsReturn := by
  have h : b.KeepsBase ((b.changePlan .mainsReturn).flush .mainsReturn).dropHeld :=
    ((b.changePlan_keepBase _).trans (Block.flush_keeps _ _).toKeepsBase).trans (Block.dropHeld_keeps _).toKeepsBase
  unfold Block.enterMainsReturn
  dsimp only
  split
  · exact h.trans (Block.enterNormal_keepBase _)
  · exact h

theorem Block.onXferAsserted_keepBase (b : Block) : b.KeepsBase b.onXferAsserted := by
  unfold Block.onXferAsserted
  split
  · exact b.enterWaitFresh_keepBase
  · exact b.enterWaitLoss_keepBase
  · exact .refl b

theorem Block.onXferNegated_keepBase (b : Block) : b.KeepsBase b.onXferNegated := by
  unfold Block.onXferNegated
  split
  · exact b.enterMainsReturn_keepBase
  · exact b.enterMainsReturn_keepBase
  · exact b.enterMainsReturn_keepBase
  · exact .refl b

theorem Block.onGenNegated_keepBase (b : Block) : b.KeepsBase b.onGenNegated := by
  unfold Block.onGenNegated
  split
  · exact b.enterWaitLoss_keepBase
  · exact b.enterWaitLoss_keepBase
  · exact .refl b

theorem Block.raiseEvaluation_keeps (b : Block) : b.KeepsBudget b.raiseEvaluation := by
  unfold Block.raiseEvaluation
  split
  · exact b.evalDue_keeps true
  · exact .refl b

theorem Block.leaveAdopt_keepBase (b : Block) : b.KeepsBase b.leaveAdopt := by
  unfold Block.leaveAdopt
  split
  · exact b.enterWaitFresh_keepBase
  · exact b.enterNormal_keepBase

/-! ### Requests and cancels -/

/-- A change of the queue by a join. -/
theorem Block.join_keepBase (b : Block) (e : Entry) : b.KeepsBase (b.join e) :=
  ⟨rfl, rfl, rfl, rfl, rfl, rfl, rfl, rfl, rfl, rfl, rfl, rfl, rfl, .refl _, .refl _, fun _ => .refl _⟩

theorem Block.refresh_keeps (b : Block) (i : CarIx) (e : Entry) : b.KeepsBudget (b.refresh i e) := by
  unfold Block.refresh
  dsimp only
  refine Block.KeepsBudget.trans ?_ ((Block.setEntryKind_keeps _ _ _).trans (Block.trigger_keeps _))
  exact b.queue_keeps _ b.arbDue (.map _ _ (fun e => by split <;> rfl) (fun e => by split <;> rfl))

theorem Block.enqueue_keepBase (b : Block) (src : Byte) (e : Entry) : b.KeepsBase (b.enqueue src e) := by
  have h : b.KeepsBase (if (b.entry? e.car).isSome then b.refresh e.car e else b.join e) := by
    split
    · exact (b.refresh_keeps _ e).toKeepsBase
    · exact b.join_keepBase e
  unfold Block.enqueue
  generalize (if (b.entry? e.car).isSome then b.refresh e.car e else b.join e) = b1 at h ⊢
  have h2 := h.trans b1.takeTrigger_keeps.toKeepsBase
  dsimp only
  generalize b1.takeTrigger = b2 at h2 ⊢
  split
  · exact h2
  · exact h2.trans (b2.sendCarOrLose_only _ _ _).toKeepsBase

theorem Block.dropEntry_keeps (b : Block) (i : CarIx) : b.KeepsBudget (b.dropEntry i) := by
  unfold Block.dropEntry
  split
  · exact b.removeEntry_keeps i
  · exact .refl b

theorem Block.decideDivert_keeps (b : Block) (i : CarIx) (load : Load) : b.KeepsBudget (b.decideDivert i load) := by
  unfold Block.decideDivert
  split
  · exact b.fail_keeps i _
  · exact ((b.setOrder_keeps i _).trans (Block.move_keeps _ _ _ _ _)).trans (Block.arrivalCheck_keeps _ _)

theorem Block.refuseTooLarge_keeps (b : Block) (src : Byte) (i : CarIx) (tag : Byte) (k : RunKind) :
    b.KeepsBudget (b.refuseTooLarge src i tag k) := by
  unfold Block.refuseTooLarge
  dsimp only
  have h := (b.dropEntry_keeps i).trans (Block.refuse_only _ src i tag .tooLarge).toKeepsBudget
  split
  · exact h.trans (Block.fail_keeps _ _ _)
  · exact h

theorem Block.refuseRegen_keeps (b : Block) (src : Byte) (i : CarIx) (tag : Byte) (k : RunKind) (load : Load) :
    b.KeepsBudget (b.refuseRegen src i tag k load) := by
  unfold Block.refuseRegen
  dsimp only
  have h := (b.dropEntry_keeps i).trans (Block.refuse_only _ src i tag .regen).toKeepsBudget
  split
  · exact h.trans (Block.decideDivert_keeps _ _ _)
  · exact h.trans (Block.fail_keeps _ _ _)
  · exact h

theorem Block.judgeRun_keepBase (b : Block) (src : Byte) (i : CarIx) (tag : Byte) (target : Nat) (load : Load) :
    b.KeepsBase (b.judgeRun src i tag target load) := by
  unfold Block.judgeRun
  split
  · exact .refl b
  · split
    · unfold Block.refuseTarget
      dsimp only
      split
      · exact ((b.refuse_only _ _ _ _).toKeepsBudget.trans (Block.sendOrder_keeps _ _)).toKeepsBase
      · exact (b.refuse_only _ _ _ _).toKeepsBase
    · split
      · exact .refl b
      · unfold Block.acceptRun
        dsimp only
        split
        · exact (b.refuseTooLarge_keeps _ _ _ _).toKeepsBase
        · split
          · exact (b.refuseRegen_keeps _ _ _ _ _).toKeepsBase
          · exact b.enqueue_keepBase _ _

/-- A start request judged (R93). -/
theorem Block.judgeRequest_keepBase (b : Block) (src : Byte) (i : CarIx) (tag : Byte) (target : Nat) (load : Load)
    (mine : Bool) (last : Option Byte) : b.KeepsBase (b.judgeRequest src i tag target load mine last) := by
  unfold Block.judgeRequest
  split
  · exact (b.refuse_only src i tag _).toKeepsBase
  · split
    · exact (b.refuse_only src i tag _).toKeepsBase
    · split
      · unfold Block.answerBusy
        split
        · exact (b.sendGrant_only i tag _).toKeepsBase
        · exact (b.refuse_only src i tag _).toKeepsBase
      · exact b.judgeRun_keepBase src i tag target load

/-- A start cancel for a car (R98). -/
theorem Block.cancelFor_keepBase (b : Block) (src : Byte) (i : CarIx) (tag : Byte) :
    b.KeepsBase (b.cancelFor src i tag) := by
  have hc : ∀ c, b.KeepsBase (b.cancelCommitment src i tag c) := fun c => by
    unfold Block.cancelCommitment
    split
    · exact ((b.dropCommitment_keepBase i).trans (Block.refuse_only _ src i tag _).toKeepsBase).trans
        (Block.takeEnd_keeps _ i c _).toKeepsBase
    · exact (b.refuse_only src i tag _).toKeepsBase
  have hr : b.KeepsBase (b.cancelRun src i tag) := by
    unfold Block.cancelRun
    split
    · split
      · exact (b.removeEntry_keeps i).toKeepsBase.trans (Block.refuse_only _ src i tag _).toKeepsBase
      · exact (b.refuse_only src i tag _).toKeepsBase
    · split
      · exact hc _
      · exact (b.refuse_only src i tag _).toKeepsBase
  unfold Block.cancelFor
  dsimp only
  split
  · exact (b.refuse_only src i tag _).toKeepsBase
  · split
    · exact (b.refuse_only src i tag _).toKeepsBase
    · exact hr.trans (Block.finish_keeps _).toKeepsBase

/-! ### Reports -/

theorem Block.clearSilent_keepBase (b : Block) (i : CarIx) : b.KeepsBase (b.clearSilent i) :=
  ((b.carNotice_only i .heard).toKeepsBase.trans (Block.modCommitment_keepBase _ i _)).trans
    (Block.trigger_keeps _).toKeepsBase

theorem Block.restoreStage_keeps (b : Block) (i : CarIx) (res : BudgetResult) (was : ModeGroup) :
    b.KeepsBudget (b.restoreStage i res was) := by
  unfold Block.restoreStage
  dsimp only
  have hf : ∀ c : Block, c.KeepsBudget (c.noteFault i) := fun c => by
    unfold Block.noteFault
    split
    · exact c.modCar_keeps i _ ⟨rfl, rfl, rfl, rfl⟩
    · exact .refl c
  have hr : ∀ c : Block, c.KeepsBudget (c.takeResult i res) := fun c => by
    unfold Block.takeResult
    split
    · exact .refl c
    · exact c.takeEnd_keeps i _ _
    · unfold Block.noteMotion
      split
      · exact c.modCar_keeps i _ ⟨rfl, rfl, rfl, rfl⟩
      · exact .refl c
  have hp : ∀ c : Block, c.KeepsBudget (c.parkIfOpen i) := fun c => by
    unfold Block.parkIfOpen
    split
    · exact c.park_keeps i _
    · exact .refl c
  have h : ∀ c : Block, c.KeepsBudget
      ((((((c.noteFault i).takeResult i res).parkIfOpen i).arrivalCheck i).takeEvaluation).modeComparison i was) :=
    fun c => (((((hf c).trans (hr _)).trans (hp _)).trans (Block.arrivalCheck_keeps _ _)).trans
      (Block.takeEvaluation_keeps _)).trans (Block.modeComparison_keeps _ _ _)
  split
  · exact (b.place_keeps i).trans (h _)
  · exact h b

theorem Block.relayReport_only (b : Block) (i : CarIx) (f : Frame) : b.OnlySends (b.relayReport i f) := by
  unfold Block.relayReport
  split
  · exact b.relayUnder_only _ f _
  · exact .refl b

/-- After a report has been learned, the rest of its step keeps what is known (R27). -/
theorem Block.acceptReport_keepBase (b : Block) (i : CarIx) (node : Nat) (fields : List Byte) (f : Frame) :
    (b.learnReport i node fields).KeepsBase (b.acceptReport i node fields f) := by
  unfold Block.acceptReport
  dsimp only
  refine Block.KeepsBase.trans ?_ (Block.finish_keeps _).toKeepsBase
  refine Block.KeepsBase.trans ?_ (Block.relayReport_only _ _ _).toKeepsBase
  refine Block.KeepsBase.trans ?_ (Block.restoreStage_keeps _ _ _ _).toKeepsBase
  refine Block.KeepsBase.trans ?_ (Block.budgetStage_keepBase _ _)
  split
  · exact Block.clearSilent_keepBase _ _
  · exact .refl _

theorem Block.doorExpired_keeps (b : Block) (i : CarIx) : b.KeepsPlan (b.doorExpired i) :=
  (b.park_keeps i true).toKeepsPlan.trans (Block.finish_keeps _)

/-! ### The statements' words for requests -/

theorem Block.effectiveClass_eq_classOf (b : Block) (i : CarIx) (k : RunKind) : b.effectiveClass i k = b.classOf i k := by
  cases k <;> rfl

theorem divertLanding_eq_divertTo (b : Block) (i : CarIx) (load : Byte) :
    divertLanding (b.car i).learned (Load.ofByte load) (b.conf i).b = b.divertTo i load := by
  unfold divertLanding Block.divertTo Load.ofByte
  split
  · rfl
  · by_cases h : load = 255 <;> simp only [h, if_true, if_false]

/-- In a queue in order of class an entry's place is behind every entry of its class or higher (R75). -/
theorem insertEntry_eq_placedIn (e : Entry) (q : List Entry) (h : queueSorted q) : insertEntry e q = placedIn e q := by
  induction q with
  | nil => rfl
  | cons x xs ih =>
    obtain ⟨hx, hs⟩ := List.pairwise_cons.mp h
    unfold insertEntry
    split
    · rename_i hle
      simp [placedIn, hle, Nat.not_lt.mpr hle, ih hs]
    · rename_i hlt
      have hall : ∀ y ∈ xs, ¬ e.cls ≤ y.cls ∧ y.cls < e.cls := fun y hy => by have := hx y hy; omega
      simp only [placedIn, List.filter_cons, hlt, decide_false, Bool.false_eq_true, if_false, Nat.lt_of_not_le hlt, decide_true,
        if_true]
      rw [List.filter_eq_nil_iff.mpr (fun y hy => by simpa using (hall y hy).2),
        List.filter_eq_self.mpr (fun y hy => by simpa using (hall y hy).2)]
      rfl

/-! ### The words of the statements about reports, orders and grants, in those of the meanings -/

theorem Block.relayTo_eq_offered (b : Block) (p : PortId) (f : Frame) : b.relayTo p f = b.modPort p (fun q => q.offered f) := by
  unfold Block.relayTo Port.offered
  cases p <;> dsimp only [Block.port, Block.modPort]
  · by_cases h : b.gport.roomRelayed = true <;> simp only [h, if_true] <;> rfl
  · by_cases h : b.cport.roomRelayed = true <;> simp only [h, if_true] <;> rfl

theorem Block.orderNotice_eq_noticed (b : Block) (src car landing : Byte) (o : NoticeOutcome) :
    b.orderNotice src car landing o =
      { b with gport := b.gport.noticed src (ownItem (b.ownFrame src .orderNotice [car, landing, o.code])) } := by
  have h : src.toNat = Config.broadcast ↔ src = 63 := ⟨fun h => BitVec.eq_of_toNat_eq h, fun h => h ▸ rfl⟩
  unfold Block.orderNotice Port.noticed
  split
  · rw [if_pos (h.mp ‹_›)]
  · rw [if_neg (fun k => ‹¬ _› (h.mpr k))]
    unfold Block.sendNotice Block.placeOwn
    dsimp only [Block.port, Block.modPort]
    split <;> simp_all <;> rfl

theorem Commitment.reached_eq_atTarget (c : Commitment) (l : Learned) : c.reached l = c.atTarget l := rfl

theorem parkState_eq_landedState (o : Option CarOrder) : parkState o = landedState o .opened := by
  rcases o with _ | (_ | _ | _) <;> rfl

theorem CarMode.takes_eq (m : CarMode) (st : RState) :
    m.takes st = if m.group = .automatic then st else m.group.state := by cases m <;> rfl

/-- A pass over a queue whose head fits grants the head, and notes no entry (R84, R85). -/
theorem Block.pass_head {b : Block} {e : Entry} {rest : List Entry} (h : b.HeadFits e rest) : b.pass = b.grantEntry e [] := by
  simp [Block.pass, h.queue, Block.scan, h.heard, h.fits]

theorem Block.removeEntry_eq (b : Block) (i : CarIx) : b.removeEntry i = (b.withoutEntry i).trigger := rfl

theorem Block.dropCommitment_eq (b : Block) (i : CarIx) : b.dropCommitment i =
    { (b.withoutCommitment i).trigger with
      listReports := if (b.withoutCommitment i).commitments = [] then b.listReports + 1 else b.listReports } := rfl

end Sys2Proof.Machine
end

