-- ==== Sys2Proof/Laws/OneCar.lean ====
section
/-! SUPPORT. What a move does to the cars: no other car changes, and the moved car is as R106 says, but for the marks of its order and its
held-order slot. -/

namespace Sys2Proof.Machine

theorem Car.SameButMarks.refl (c : Car) : c.SameButMarks c := ⟨rfl, rfl, rfl, rfl, rfl, rfl, rfl, rfl, rfl, rfl, rfl, rfl⟩

theorem Car.SameButMarks.trans {c d e : Car} (h : c.SameButMarks d) (k : d.SameButMarks e) : c.SameButMarks e :=
  ⟨k.learned.trans h.learned, k.bound.trans h.bound, k.foreign.trans h.foreign, k.state.trans h.state,
    k.reason.trans h.reason, k.attempts.trans h.attempts, k.order.trans h.order, k.doorTimer.trans h.doorTimer,
    k.doorAlarm.trans h.doorAlarm, k.faultSeen.trans h.faultSeen, k.selected.trans h.selected, k.lastTag.trans h.lastTag⟩

/-- An effect on one car: the others are untouched, and that one agrees with a given record but for its marks. -/
structure Block.Touches (b : Block) (i : CarIx) (c : Car) (b' : Block) : Prop where
  others : ∀ j, j ≠ i → b'.car j = b.car j
  this   : c.SameButMarks (b'.car i)

theorem Block.Touches.refl (b : Block) (i : CarIx) : b.Touches i (b.car i) b := ⟨fun _ _ => rfl, .refl _⟩

theorem Block.Touches.trans {b b' b'' : Block} {i : CarIx} {c : Car} (h : b.Touches i c b')
    (k : b'.Touches i (b'.car i) b'') : b.Touches i c b'' :=
  ⟨fun j hj => (k.others j hj).trans (h.others j hj), h.this.trans k.this⟩

/-- Two effects on one car, the second with its own record. -/
theorem Block.Touches.andThen {b b' b'' : Block} {i : CarIx} {c d : Car} (h : b.Touches i c b')
    (k : b'.Touches i d b'') : b.Touches i d b'' :=
  ⟨fun j hj => (k.others j hj).trans (h.others j hj), k.this⟩

/-- What only sends touches no car. -/
theorem Block.OnlySends.touches {b b' : Block} (h : b.OnlySends b') (i : CarIx) : b.Touches i (b.car i) b' := by
  have hc : ∀ j, b'.car j = b.car j := fun j => by simp [Block.car, h.cars]
  exact ⟨fun j _ => hc j, by rw [hc i]; exact .refl _⟩

theorem Block.modCar_touches (b : Block) (i : CarIx) (f : Car → Car) : b.Touches i (f (b.car i)) (b.modCar i f) :=
  ⟨fun _ hj => b.car_modCar_other f hj, by simpa using Car.SameButMarks.refl _⟩

/-- A change of marks only. -/
theorem Block.modCar_marks (b : Block) (i : CarIx) (f : Car → Car) (h : (b.car i).SameButMarks (f (b.car i))) :
    b.Touches i (b.car i) (b.modCar i f) :=
  ⟨fun _ hj => b.car_modCar_other f hj, by simpa using h⟩

theorem Block.sendOrder_touches (b : Block) (i : CarIx) : b.Touches i (b.car i) (b.sendOrder i) := by
  unfold Block.sendOrder
  split
  · exact .refl b i
  · dsimp only
    split
    · exact ((b.sendCar_only _ _ _).touches i).trans
        (Block.modCar_marks _ _ _ ⟨rfl, rfl, rfl, rfl, rfl, rfl, rfl, rfl, rfl, rfl, rfl, rfl⟩)
    · exact ((b.sendCar_only _ _ _).touches i).trans
        (Block.modCar_marks _ _ _ ⟨rfl, rfl, rfl, rfl, rfl, rfl, rfl, rfl, rfl, rfl, rfl, rfl⟩)

theorem Block.setSlot_touches (b : Block) (i : CarIx) (x : Slot) : b.Touches i (b.car i) (b.setSlot i x) :=
  b.modCar_marks i _ ⟨rfl, rfl, rfl, rfl, rfl, rfl, rfl, rfl, rfl, rfl, rfl, rfl⟩

theorem Block.releaseSlot_touches (b : Block) (i : CarIx) : b.Touches i (b.car i) (b.releaseSlot i) := by
  unfold Block.releaseSlot
  split
  · exact ((b.setSlot_touches i _).trans ((Block.relayTo_only _ _ _).touches i)).trans
      ((Block.announce_only _ _ _).touches i)
  · exact b.setSlot_touches i _

theorem Block.dropSlot_touches (b : Block) (i : CarIx) : b.Touches i (b.car i) (b.dropSlot i) := by
  unfold Block.dropSlot
  split
  · exact (b.setSlot_touches i _).trans ((Block.announce_only _ _ _).touches i)
  · exact b.setSlot_touches i _

theorem Block.tellRelay_touches (b : Block) (i : CarIx) : b.Touches i (b.car i) (b.tellRelay i) := by
  unfold Block.tellRelay
  split
  · split
    · exact b.setSlot_touches i _
    · exact .refl b i
  · split
    · exact .refl b i
    · split
      · exact b.releaseSlot_touches i
      · split
        · exact .refl b i
        · exact b.dropSlot_touches i

theorem Block.removeEntry_touches (b : Block) (i j : CarIx) : b.Touches i (b.car i) (b.removeEntry j) :=
  ⟨fun _ _ => rfl, .refl _⟩

theorem Block.setEntryKind_touches (b : Block) (i j : CarIx) (k : RunKind) :
    b.Touches i (b.car i) (b.setEntryKind j k) := by
  unfold Block.setEntryKind
  split
  · exact .refl b i
  · dsimp only
    split <;> exact ⟨fun _ _ => rfl, .refl _⟩

theorem Block.rejudge_touches (b : Block) (i : CarIx) : b.Touches i (b.car i) (b.rejudge i).1 := by
  unfold Block.rejudge
  split
  · exact .refl b i
  · split
    · exact (b.removeEntry_touches i i).trans ((Block.refuseBound_only _ _ _ _).touches i)
    · split
      · exact .refl b i
      · split
        · exact b.setEntryKind_touches i i _
        · dsimp only
          split
          · exact ((b.removeEntry_touches i i).trans ((Block.refuseBound_only _ _ _ _).touches i)).trans
              (Block.sendOrder_touches _ i)
          · exact (b.removeEntry_touches i i).trans ((Block.refuseBound_only _ _ _ _).touches i)

theorem Block.sendOrderOnce_touches (b : Block) (i : CarIx) (w s : Bool) :
    b.Touches i (b.car i) (b.sendOrderOnce i w s) := by
  unfold Block.sendOrderOnce
  split
  · exact b.sendOrder_touches i
  · exact .refl b i

theorem Block.tellSelection_touches (b : Block) (i : CarIx) (old dest : RState) :
    b.Touches i (b.car i) (b.tellSelection old dest) := by
  unfold Block.tellSelection
  split <;> exact ⟨fun _ _ => rfl, .refl _⟩

theorem Block.tellRecallWork_touches (b : Block) (i : CarIx) (n : Nat) :
    b.Touches i (b.car i) (b.tellRecallWork n) := by
  unfold Block.tellRecallWork
  split <;> exact ⟨fun _ _ => rfl, .refl _⟩

/-- A move to another state: the car enters it (R106). -/
theorem Block.changeState_touches (b : Block) (i : CarIx) (dest : RState) (r : Reason) (send : Bool) :
    b.Touches i ((b.car i).enter dest r) (b.changeState i dest r send) := by
  unfold Block.changeState
  exact ((((((b.modCar_touches i (fun c => c.enter dest r)).trans ((Block.carNotice_only _ _ _).touches i)).trans
    (Block.rejudge_touches _ i)).trans (Block.sendOrderOnce_touches _ i _ _)).trans
    (Block.tellRelay_touches _ i)).trans (Block.tellSelection_touches _ i _ _)).trans
    (Block.tellRecallWork_touches _ i _)

/-- The record of a car after a move: as it was if it was in that state, else as entered. -/
def Car.moved (c : Car) (dest : RState) (r : Reason) : Car := if c.state = dest then c else c.enter dest r

/-- A moved car is in its new state. -/
@[simp] theorem Car.state_moved (c : Car) (dest : RState) (r : Reason) : (c.moved dest r).state = dest := by
  unfold Car.moved
  split
  · assumption
  · rfl

/-- A move keeps the attempt count. -/
@[simp] theorem Car.attempts_moved (c : Car) (dest : RState) (r : Reason) : (c.moved dest r).attempts = c.attempts := by
  unfold Car.moved
  split <;> rfl

/-- A move keeps the door alarm. -/
@[simp] theorem Car.doorAlarm_moved (c : Car) (dest : RState) (r : Reason) : (c.moved dest r).doorAlarm = c.doorAlarm := by
  unfold Car.moved
  split <;> rfl

/-- A move of a car (R106). -/
theorem Block.move_touches (b : Block) (i : CarIx) (dest : RState) (r : Reason) (send : Bool) :
    b.Touches i ((b.car i).moved dest r) (b.move i dest r send) := by
  unfold Block.move Car.moved
  split
  · exact b.sendOrderOnce_touches i send false
  · exact b.changeState_touches i dest r send

/-- A moved car is in its new state. -/
@[simp] theorem Block.state_move (b : Block) (i : CarIx) (dest : RState) (r : Reason) (send : Bool) :
    ((b.move i dest r send).car i).state = dest := by
  rw [(b.move_touches i dest r send).this.state]; simp

/-- A move changes no other car. -/
theorem Block.car_move_other (b : Block) {i j : CarIx} (dest : RState) (r : Reason) (send : Bool) (h : j ≠ i) :
    (b.move i dest r send).car j = b.car j := (b.move_touches i dest r send).others j h

/-- An order-resend timer that follows its conditions changes marks only (R101). -/
theorem Block.syncResend_touches (b : Block) (i : CarIx) : b.Touches i (b.car i) (b.syncResend i) := by
  unfold Block.syncResend
  split
  · split
    · exact .refl b i
    · exact b.modCar_marks i _ ⟨rfl, rfl, rfl, rfl, rfl, rfl, rfl, rfl, rfl, rfl, rfl, rfl⟩
  · split
    · exact .refl b i
    · exact b.modCar_marks i _ ⟨rfl, rfl, rfl, rfl, rfl, rfl, rfl, rfl, rfl, rfl, rfl, rfl⟩

theorem Block.loseServe_touches (b : Block) (i : CarIx) : b.Touches i (b.car i) (b.loseServe i) := by
  unfold Block.loseServe
  split
  · exact b.modCar_marks i _ ⟨rfl, rfl, rfl, rfl, rfl, rfl, rfl, rfl, rfl, rfl, rfl, rfl⟩
  · exact .refl b i

end Sys2Proof.Machine
end

