-- ==== Sys2Proof/Laws/PerInstr.lean ====
section
/-! SUPPORT. Statements made of every command, one lemma for each constructor. -/

namespace Sys2Proof.Laws

/-- No word spells the command: the table gives its row no bits (assumption 29). -/
def Unspelled.Statement (i : Instr) : Prop := ∀ nbits w, decodeTableWord nbits w ≠ some i

theorem Unspelled.powerOnReset : Unspelled.Statement (.powerOnReset) := by
  simp [Unspelled.Statement, decodeTableWord]

theorem Unspelled.resetN : Unspelled.Statement (.resetN) := by
  simp [Unspelled.Statement, decodeTableWord]

theorem Unspelled.restartReset : Unspelled.Statement (.restartReset) := by
  simp [Unspelled.Statement, decodeTableWord]

theorem Unspelled.imageLoadComplete : Unspelled.Statement (.imageLoadComplete) := by
  simp [Unspelled.Statement, decodeTableWord]

theorem Unspelled.xferEmergTakenAsserted : Unspelled.Statement (.xferEmergTakenAsserted) := by
  simp [Unspelled.Statement, decodeTableWord]

theorem Unspelled.xferEmergTakenNegated : Unspelled.Statement (.xferEmergTakenNegated) := by
  simp [Unspelled.Statement, decodeTableWord]

theorem Unspelled.genReadyTakenAsserted : Unspelled.Statement (.genReadyTakenAsserted) := by
  simp [Unspelled.Statement, decodeTableWord]

theorem Unspelled.genReadyTakenNegated : Unspelled.Statement (.genReadyTakenNegated) := by
  simp [Unspelled.Statement, decodeTableWord]

theorem Unspelled.genDerateTaken : ∀ asserted, Unspelled.Statement (.genDerateTaken asserted) := by
  simp [Unspelled.Statement, decodeTableWord]

theorem Unspelled.transferSettleExpiry : Unspelled.Statement (.transferSettleExpiry) := by
  simp [Unspelled.Statement, decodeTableWord]

theorem Unspelled.adoptionExpiry : Unspelled.Statement (.adoptionExpiry) := by
  simp [Unspelled.Statement, decodeTableWord]

theorem Unspelled.modeRepeatExpiry : Unspelled.Statement (.modeRepeatExpiry) := by
  simp [Unspelled.Statement, decodeTableWord]

theorem Unspelled.recallWorkEmpties : Unspelled.Statement (.recallWorkEmpties) := by
  simp [Unspelled.Statement, decodeTableWord]

theorem Unspelled.commitmentListEmpties : Unspelled.Statement (.commitmentListEmpties) := by
  simp [Unspelled.Statement, decodeTableWord]

theorem Unspelled.carReport : Unspelled.Statement (.carReport) := by
  simp [Unspelled.Statement, decodeTableWord]

theorem Unspelled.reportTimerExpiry : ∀ car, Unspelled.Statement (.reportTimerExpiry car) := by
  simp [Unspelled.Statement, decodeTableWord]

theorem Unspelled.startRequest : Unspelled.Statement (.startRequest) := by
  simp [Unspelled.Statement, decodeTableWord]

theorem Unspelled.startCancel : Unspelled.Statement (.startCancel) := by
  simp [Unspelled.Statement, decodeTableWord]

theorem Unspelled.grantTimerExpiry : ∀ car, Unspelled.Statement (.grantTimerExpiry car) := by
  simp [Unspelled.Statement, decodeTableWord]

theorem Unspelled.accelerationTimerExpiry : ∀ car, Unspelled.Statement (.accelerationTimerExpiry car) := by
  simp [Unspelled.Statement, decodeTableWord]

theorem Unspelled.runTimerExpiry : ∀ car, Unspelled.Statement (.runTimerExpiry car) := by
  simp [Unspelled.Statement, decodeTableWord]

theorem Unspelled.silentReleaseExpiry : ∀ car, Unspelled.Statement (.silentReleaseExpiry car) := by
  simp [Unspelled.Statement, decodeTableWord]

theorem Unspelled.settleTimerExpiry : Unspelled.Statement (.settleTimerExpiry) := by
  simp [Unspelled.Statement, decodeTableWord]

theorem Unspelled.orderResendExpiry : ∀ car, Unspelled.Statement (.orderResendExpiry car) := by
  simp [Unspelled.Statement, decodeTableWord]

theorem Unspelled.doorTimerExpiry : ∀ car, Unspelled.Statement (.doorTimerExpiry car) := by
  simp [Unspelled.Statement, decodeTableWord]

theorem Unspelled.dispatchOrder : Unspelled.Statement (.dispatchOrder) := by
  simp [Unspelled.Statement, decodeTableWord]

theorem Unspelled.relayedFrame : ∀ port, Unspelled.Statement (.relayedFrame port) := by
  simp [Unspelled.Statement, decodeTableWord]

theorem Unspelled.frameEnd : ∀ port rest, Unspelled.Statement (.frameEnd port rest) := by
  simp [Unspelled.Statement, decodeTableWord]

theorem Unspelled.nextFrameBegins : ∀ port first, Unspelled.Statement (.nextFrameBegins port first) := by
  simp [Unspelled.Statement, decodeTableWord]

theorem Unspelled.holdInChange : ∀ port asserted, Unspelled.Statement (.holdInChange port asserted) := by
  simp [Unspelled.Statement, decodeTableWord]

theorem Unspelled.frameSendStart : ∀ port, Unspelled.Statement (.frameSendStart port) := by
  simp [Unspelled.Statement, decodeTableWord]

theorem Unspelled.frameSent : ∀ port, Unspelled.Statement (.frameSent port) := by
  simp [Unspelled.Statement, decodeTableWord]

theorem Unspelled.lineFault : ∀ port, Unspelled.Statement (.lineFault port) := by
  simp [Unspelled.Statement, decodeTableWord]

theorem Unspelled.lineUp : ∀ port, Unspelled.Statement (.lineUp port) := by
  simp [Unspelled.Statement, decodeTableWord]

theorem Unspelled.managementRequestPart : Unspelled.Statement (.managementRequestPart) := by
  simp [Unspelled.Statement, decodeTableWord]

theorem Unspelled.readPlan : ∀ src, Unspelled.Statement (.readPlan src) := by
  simp [Unspelled.Statement, decodeTableWord]

theorem Unspelled.readCars : ∀ src start count, Unspelled.Statement (.readCars src start count) := by
  simp [Unspelled.Statement, decodeTableWord]

theorem Unspelled.readQueue : ∀ src, Unspelled.Statement (.readQueue src) := by
  simp [Unspelled.Statement, decodeTableWord]

theorem Unspelled.readCommitments : ∀ src, Unspelled.Statement (.readCommitments src) := by
  simp [Unspelled.Statement, decodeTableWord]

theorem Unspelled.readLink : ∀ src, Unspelled.Statement (.readLink src) := by
  simp [Unspelled.Statement, decodeTableWord]

theorem Unspelled.writeCars : ∀ src start count records, Unspelled.Statement (.writeCars src start count records) := by
  simp [Unspelled.Statement, decodeTableWord]

theorem Unspelled.writePlan : ∀ src record, Unspelled.Statement (.writePlan src record) := by
  simp [Unspelled.Statement, decodeTableWord]

theorem Unspelled.commit : ∀ src, Unspelled.Statement (.commit src) := by
  simp [Unspelled.Statement, decodeTableWord]

theorem Unspelled.discard : ∀ src, Unspelled.Statement (.discard src) := by
  simp [Unspelled.Statement, decodeTableWord]

theorem Unspelled.select : ∀ src form cars, Unspelled.Statement (.select src form cars) := by
  simp [Unspelled.Statement, decodeTableWord]

theorem Unspelled.retryCar : ∀ src car, Unspelled.Statement (.retryCar src car) := by
  simp [Unspelled.Statement, decodeTableWord]

theorem Unspelled.restart : ∀ src, Unspelled.Statement (.restart src) := by
  simp [Unspelled.Statement, decodeTableWord]

theorem Unspelled.unlock : ∀ src level key, Unspelled.Statement (.unlock src level key) := by
  simp [Unspelled.Statement, decodeTableWord]

theorem Unspelled.lock : ∀ src, Unspelled.Statement (.lock src) := by
  simp [Unspelled.Statement, decodeTableWord]

theorem Unspelled.setKey : ∀ src level key, Unspelled.Statement (.setKey src level key) := by
  simp [Unspelled.Statement, decodeTableWord]

theorem Unspelled.freeze : ∀ src, Unspelled.Statement (.freeze src) := by
  simp [Unspelled.Statement, decodeTableWord]

theorem Unspelled.wipePrepare : ∀ src, Unspelled.Statement (.wipePrepare src) := by
  simp [Unspelled.Statement, decodeTableWord]

theorem Unspelled.wipe : ∀ src, Unspelled.Statement (.wipe src) := by
  simp [Unspelled.Statement, decodeTableWord]

theorem Unspelled.idleTimerExpiry : Unspelled.Statement (.idleTimerExpiry) := by
  simp [Unspelled.Statement, decodeTableWord]

theorem Unspelled.storeWriteComplete : ∀ matched, Unspelled.Statement (.storeWriteComplete matched) := by
  simp [Unspelled.Statement, decodeTableWord]

theorem Unspelled.eraseComplete : ∀ blank, Unspelled.Statement (.eraseComplete blank) := by
  simp [Unspelled.Statement, decodeTableWord]

theorem Unspelled.responsePartPlaced : Unspelled.Statement (.responsePartPlaced) := by
  simp [Unspelled.Statement, decodeTableWord]

theorem Unspelled.firstByteAfterIdleLine : ∀ port first, Unspelled.Statement (.firstByteAfterIdleLine port first) := by
  simp [Unspelled.Statement, decodeTableWord]

end Sys2Proof.Laws
end

