-- ==== Sys2Proof/Tests/Slice0.lean ====
section
/-! SUPPORT. Tests of single steps, each expected result from the spec's rules and worked cases, and a state for each case of the
statements that have premises. -/

namespace Sys2Proof.Tests

open Sys2Proof Sys2Proof.Machine

-- One theorem at a time: each evaluation in the kernel would otherwise hold a thread of its own.
set_option Elab.async false

/-! ### Small states -/

/-- Car 3 of the worked cases (3.10), at recall landing 0. -/
def conf3 : CarConf :=
  { CarConf.default with present := true, pm := 300, s := 180, f := 10, b := 45, drive := .ret, r := 60, cls := 4 }

/-- Car 5 of the worked cases (3.10). -/
def conf5 : CarConf := { CarConf.default with present := true, pm := 220, s := 200, f := 12, b := 50 }

/-- A table of sixteen cars like car 3, with the plan record of 3.10 (Q 80, K 600, M 2, A 1500). -/
def table : Table :=
  { cars := Vector.replicate 16 conf3, plan := { PlanRecord.default with a := 1500, k := 600, m := 2, q := 80 } }

/-- A part with that table loaded, in NORMAL, every car unheard. -/
def live : State :=
  { State.reset with
    loaded := true, fallback := false, active := table, pendingTable := table, plan := .normal, aEff := 1500,
    cars := Vector.replicate 16 { Car.reset with state := .unheard } }

/-- The same part in an emergency plan. -/
def inPlan (p : Plan) : State := { live with plan := p }

/-- Car 1 with a record changed. -/
def withCar (s : State) (f : Car → Car) : State := { s with toBlock := s.toBlock.modCar 0 f }

/-- Car 1 heard from node 21, at landing 5 with its door closed, in a restoration state. -/
def heardIn (s : State) (st : RState) : State :=
  withCar s (fun c => { c with state := st, bound := some 21, learned := { c.learned with heard := true, landing := 5 } })

/-- A commitment of car 1 for its UP run with load 80 (3.10). -/
def commitment (ph : Phase) : Commitment :=
  { car := 0, kind := .recall, phase := ph, fig := { ds := 540, dh := 204, dl := 204 }, upper := 540, lower := 0,
    target := some 0, tag := some 7, slowStart := false, unauthorized := false, silentHold := false, grantTimer := some 0,
    accelTimer := some 0, runTimer := .running 0, releaseTimer := none }

/-- The part with that commitment in its list. -/
def holding (s : State) (c : Commitment) : State := { s with commitments := [c] }

/-- An entry of car 1 for its DOWN run with load 80, tag 9. -/
def entry : Entry :=
  { car := 0, kind := .recall, cls := 4, target := 0, dir := .down, load := .known 80,
    fig := { ds := 540, dh := 60, dl := 60 }, skip := 0, blocking := false, tag := 9 }

/-- A frame at the head of the C-port's FIFO. -/
def onC (s : State) (f : Frame) : State := { s with cport := { s.cport with rx := [f] } }

/-- A frame at the head of the G-port's FIFO. -/
def onG (s : State) (f : Frame) : State := { s with gport := { s.gport with rx := [f] } }

/-- Access at a level. -/
def atLevel (s : State) (l : Level) : State := { s with mgmt := { s.mgmt with level := l } }

/-- The state after a command. -/
def after (c : Instr) (s : State) : State :=
  match exec c s with
  | .next t => t
  | _ => s

/-- The payloads queued at a port. -/
def sent (p : Port) : List (List Nat) := p.tx.map (fun x => x.frame.payload.map (fun b => b.toNat))

/-! ### Words and well-formedness -/

theorem test_no_word_spells_a_command : decodeTableWord 8 0 = none ∧ decodeTableWord 0 0 = none := by decide

theorem test_fetch_word_leaves_the_state : State.reset.withFetchWord 16 3 = State.reset := rfl

theorem test_write_cars_fits_the_buffer :
    (Instr.writeCars 3 1 16 (List.replicate 192 0)).wellFormed = true ∧
      (Instr.writeCars 3 1 21 (List.replicate 252 0)).wellFormed = false := by decide +kernel

theorem test_write_plan_fits_the_buffer :
    (Instr.writePlan 3 (List.replicate 28 0)).wellFormed = true ∧
      (Instr.writePlan 3 (List.replicate 248 0)).wellFormed = false := by decide +kernel

theorem test_select_fits_the_buffer :
    (Instr.select 3 1 (List.replicate 16 1)).wellFormed = true ∧
      (Instr.select 3 1 (List.replicate 247 1)).wellFormed = false := by decide +kernel

/-! ### Demand arithmetic: every line of the tables of 3.10 -/

theorem test_car3_up_80 : figuresDir conf3 (.known 80) .up = { ds := 540, dh := 204, dl := 204 } := by decide +kernel

theorem test_car3_down_80 : figuresDir conf3 (.known 80) .down = { ds := 540, dh := -84, dl := -84 } := by decide +kernel

theorem test_car3_up_unknown : figuresDir conf3 .unknown .up = { ds := 546, dh := 546, dl := -117 } := by decide +kernel

theorem test_car3_down_unknown : figuresDir conf3 .unknown .down = { ds := 540, dh := 252, dl := -312 } := by decide +kernel

theorem test_car5_up_20 : figuresDir conf5 (.known 20) .up = { ds := 440, dh := 27, dl := 27 } := by decide +kernel

theorem test_car5_up_80 : figuresDir conf5 (.known 80) .up = { ds := 440, dh := 143, dl := 143 } := by decide +kernel

theorem test_running_upper_and_lower :
    (figuresDir conf3 (.known 80) .down).runningUpper = 0 ∧ (figuresDir conf3 (.known 80) .down).lower = -84 := by
  decide +kernel

/-! ### Frames and records (12.1, 12.4) -/

/-- The check of the nine characters 1 to 9 under this generator, preset and order is 29B1 hexadecimal, as is generally known. -/
theorem test_check_value : checkOf [0x31, 0x32, 0x33, 0x34, 0x35, 0x36, 0x37, 0x38, 0x39] = 0x29B1#16 := by decide +kernel

theorem test_frame_of_wrong_check_is_discarded : judgeFrame [63, 62, 8, 1, 0, 0, 0] = .discarded .check := by decide +kernel

theorem test_short_frame_is_truncated : judgeFrame [63, 62, 8] = .discarded .truncated := by decide +kernel

theorem test_image_has_233_bytes : (encodeImage table none none).length = 233 := by decide +kernel

/-! ### Commands -/

theorem test_power_on_reset_restores_counter :
    (after .powerOnReset { live with mgmt := { live.mgmt with keyCounter := 0, frozen := true } }).mgmt.keyCounter = 5 := by
  decide +kernel

theorem test_reset_n_enters_adopt : (after .resetN (inPlan .service)).plan = .adopt := by decide +kernel

theorem test_restart_reset_keeps_freeze :
    (after .restartReset { live with mgmt := { live.mgmt with keyCounter := 2, frozen := true } }).mgmt.keyCounter = 2 ∧
      (after .restartReset { live with mgmt := { live.mgmt with frozen := true } }).mgmt.frozen = true := by decide +kernel

/-- 11.10, event 0, and R6: T_grant 30 and T_silent 20 make 50 ticks. -/
theorem test_blank_image_gives_fallback :
    (after .imageLoadComplete State.reset).fallback = true ∧
      (after .imageLoadComplete State.reset).adoptionTimer = some 50 := by decide +kernel

/-- 1.15, event 1. -/
theorem test_mains_fails :
    (after .xferEmergTakenAsserted live).plan = .transferWait ∧
      (after .xferEmergTakenAsserted live).toBlock.emergActive = true := by decide +kernel

/-- 1.15, event 11, with a commitment left. -/
theorem test_mains_returns :
    (after .xferEmergTakenNegated { holding (inPlan .recall) (commitment .running) with
      xfer := { pin := true, last := some true, taken := true } }).plan = .mainsReturn := by decide +kernel

/-- 1.15, event 2. -/
theorem test_generator_ready_starts_timer : (after .genReadyTakenAsserted live).transferTimer = some 50 := by decide +kernel

/-- 1.15, event 8. -/
theorem test_generator_lost_voids :
    (after .genReadyTakenNegated { holding (inPlan .service) (commitment .running) with
      gen := { pin := true, last := some true, taken := true } }).commitments = [] := by decide +kernel

/-- 3.10, event 5, with Dr 80. -/
theorem test_derate_rounds_down :
    (after (.genDerateTaken true)
      { live with active := { table with plan := { table.plan with dr := 80 } } }).aEff = 1200 := by decide +kernel

/-- 1.15, event 5. -/
theorem test_settle_starts_recall :
    (after .transferSettleExpiry (heardIn { inPlan .transferWait with transferTimer := some 0 } .standing)).plan = .recall := by
  decide +kernel

/-- 1.16, event 5. -/
theorem test_adoption_expiry_in_an_outage :
    (after .adoptionExpiry { inPlan .adopt with
      adoptionTimer := some 0, xfer := { pin := true, last := some true, taken := true } }).plan = .transferWait := by
  decide +kernel

theorem test_mode_repeat_sends_emergency :
    sent (after .modeRepeatExpiry { inPlan .recall with modeTimer := some 0 }).cport = [[1]] := by decide +kernel

/-- 1.15, event 6. -/
theorem test_recall_work_empties :
    (after .recallWorkEmpties { inPlan .recall with recallReports := 1 }).plan = .service := by decide +kernel

/-- 1.15, event 12. -/
theorem test_list_empties :
    (after .commitmentListEmpties { inPlan .mainsReturn with listReports := 1 }).plan = .normal := by decide +kernel

/-- 2.9, event 2: the report binds the car and starts its timer at 20. -/
theorem test_report_binds :
    ((after .carReport (onC live (reportFrame 62 14 0 9 0 0 0 0 0 0 0 0))).toBlock.car 0).bound = some 14 ∧
      ((after .carReport (onC live (reportFrame 62 14 0 9 0 0 0 0 0 0 0 0))).toBlock.car 0).learned.reportTimer = some 20 := by
  decide +kernel

/-- 2.9, event 3: conflict, and the position is still landing 5. -/
theorem test_foreign_report :
    ((after .carReport (onC (heardIn live .inGroup) (reportFrame 62 13 0 2 0 0 0 0 0 0 0 0))).toBlock.car 0).state = .conflict ∧
      ((after .carReport (onC (heardIn live .inGroup) (reportFrame 62 13 0 2 0 0 0 0 0 0 0 0))).toBlock.car 0).learned.landing
        = 5 := by decide +kernel

/-- 2.9, event 6. -/
theorem test_report_timer_makes_silent :
    ((after (.reportTimerExpiry 0) (withCar live (fun c => { c with learned := { c.learned with reportTimer := some 0 } }))).toBlock.car
      0).learned.silent = true := by decide +kernel

/-- R93, check 1: NOT_EMERGENCY is refusal reason 1. -/
theorem test_request_refused_in_normal :
    sent (after .startRequest (onC live (requestFrame 62 21 0 9 0 80))).cport = [[1, 9, 1]] := by decide +kernel

/-- 3.10: a recall of car 3 at load 80 from above is refused REGEN (13) and, at a landing, diverted to where it stands. -/
theorem test_recall_down_is_diverted :
    sent (after .startRequest (onC (withCar (heardIn (inPlan .recall) .recallPending)
      (fun c => { c with order := some (.recall 0) })) (requestFrame 62 21 0 9 0 80))).cport = [[1, 9, 13], [1, 2, 5]] := by
  decide +kernel

/-- R98: CANCELLED is refusal reason 16. -/
theorem test_cancel_removes_entry :
    (after .startCancel (onC { heardIn (inPlan .recall) .recallPending with queue := [entry] } (cancelFrame 62 21 0 9))).queue
      = [] := by decide +kernel

/-- 4.10, event 6: an attempt is counted and the car is RECALL_PENDING. -/
theorem test_grant_lapses :
    ((after (.grantTimerExpiry 0) (holding (heardIn (inPlan .recall) .recalling) (commitment .granted))).toBlock.car 0).attempts
      = 1 := by decide +kernel

theorem test_acceleration_expiry_settles :
    (after (.accelerationTimerExpiry 0) (holding (inPlan .recall) (commitment .starting))).settleTimer = some 20 := by
  decide +kernel

theorem test_run_limit_fails_the_car :
    ((after (.runTimerExpiry 0) (holding (heardIn (inPlan .recall) .recalling) (commitment .running))).toBlock.car 0).reason
      = .runLimit := by decide +kernel

theorem test_silent_release_fails_the_car :
    ((after (.silentReleaseExpiry 0) (holding (heardIn (inPlan .recall) .recalling)
      { commitment .running with silentHold := true, releaseTimer := some 0 })).toBlock.car 0).reason = .silent := by
  decide +kernel

/-- R85: the head of the queue is granted at the settle expiry; 4.10, event 4. -/
theorem test_settle_expiry_grants :
    (after .settleTimerExpiry { heardIn (inPlan .recall) .recallPending with
      queue := [entry], settleTimer := some 0 }).toBlock.slotHolder = some 0 := by decide +kernel

theorem test_order_is_sent_again :
    sent (after (.orderResendExpiry 0) (withCar (heardIn (inPlan .recall) .recallPending)
      (fun c => { c with order := some (.recall 0), resendTimer := some 0 }))).cport = [[1, 1, 0]] := by decide +kernel

theorem test_door_timer_parks :
    ((after (.doorTimerExpiry 0) (withCar (heardIn (inPlan .recall) .landed)
      (fun c => { c with order := some (.recall 5), doorTimer := some 0 }))).toBlock.car 0).state = .parked := by decide +kernel

/-- R139, R142: a dispatch order for a car that is not SERVING is dropped; DROPPED is outcome 4. -/
theorem test_dispatch_order_dropped :
    sent (after .dispatchOrder (onG (heardIn (inPlan .recall) .parked) (dispatchFrame 21 3 0 7))).gport = [[1, 7, 4]] := by
  decide +kernel

theorem test_relayed_frame_passes :
    sent (after (.relayedFrame .g) (onG live { dst := 5, src := 3, kind := 99, payload := [1, 2] })).cport = [[1, 2]] := by
  decide +kernel

theorem test_first_byte_is_kept :
    (after (.firstByteAfterIdleLine .c 63) live).cport.assembly = .building [63] := by decide +kernel

/-- 10.8, event 3: the fourteenth good frame asserts the hold-off. -/
theorem test_fourteenth_frame_holds_off :
    (after (.frameEnd .c (Frame.wire ⟨62, 30, 2, [1, 9, 0, 80]⟩).tail) { live with cport := { live.cport with
      assembly := .building [62], rx := List.replicate 13 ⟨62, 30, 2, []⟩ } }).cport.holdOut = true := by decide +kernel

/-- 10.8, event 6: OVERRUN is weight 8 of the summary. -/
theorem test_next_frame_overruns :
    (after (.nextFrameBegins .c 62) { live with cport := { live.cport with
      assembly := .waiting ⟨62, 30, 2, []⟩, rx := List.replicate 16 ⟨62, 30, 2, []⟩ } }).cport.errors.byte = 8 := by
  decide +kernel

/-- R146: a place frees first, and the next frame is assembled in the ordinary way, without OVERRUN. -/
theorem test_next_frame_begins_after_a_place_has_freed :
    (after (.nextFrameBegins .c 62) live).cport.assembly = .building [62] ∧
      (after (.nextFrameBegins .c 62) live).cport.errors = ErrorSummary.empty := by decide +kernel

/-- R16: a plan change starts the mode-repeat timer again, so the expiry it had in the same tick does not come. -/
theorem test_plan_change_leaves_no_mode_repeat :
    (match step { inPlan .transferWait with transferTimer := some 0, modeTimer := some 0 } with
      | .next t => t.pending
      | _ => []) = [.transferSettleExpiry] ∧
      (after .transferSettleExpiry { inPlan .transferWait with
        transferTimer := some 0, modeTimer := some 0 }).toBlock.ownWork = [] := by decide +kernel

theorem test_hold_in_stops_sending :
    (after (.frameSendStart .g) (after (.holdInChange .g true) { live with gport := { live.gport with
      tx := [ownItem ⟨0, 62, 18, []⟩] } })).gport.sending = false := by decide +kernel

theorem test_send_start_sends :
    (after (.frameSendStart .g) { live with gport := { live.gport with tx := [ownItem ⟨0, 62, 18, []⟩] } }).gport.sending
      = true := by decide +kernel

theorem test_frame_sent_frees_its_place :
    (after (.frameSent .g) { live with gport := { live.gport with
      tx := [ownItem ⟨0, 62, 18, []⟩], sending := true } }).gport.tx = [] := by decide +kernel

/-- R150, 12.2: the notice LINK_FAULT is reason 10. -/
theorem test_line_fault_is_noticed : sent (after (.lineFault .c) live).gport = [[2, 0, 0, 10]] := by decide +kernel

/-- Car 1 SERVING, its SERVE order (kind 3) in the C-port's queue. -/
def servedUnsent : State :=
  let s := withCar (heardIn (inPlan .service) .serving) (fun c => { c with order := some .serve })
  { s with cport := { s.cport with tx := [ownItem ⟨21, 62, 7, [1, 3, 0]⟩], sending := true } }

/-- R150, R101: a SERVE order cut off by a line fault is tried again by the order-resend timer (T_silent 20). -/
theorem test_lost_serve_is_tried_again :
    ((after (.lineFault .c) servedUnsent).toBlock.car 0).serveUnsent = true ∧
    ((after (.lineFault .c) servedUnsent).toBlock.car 0).resendTimer = some 20 ∧
    ((after (.lineFault .c) (heardIn (inPlan .service) .serving)).toBlock.car 0).resendTimer = none := by decide +kernel

theorem test_line_up_is_noticed :
    sent (after (.lineUp .c) { live with cport := { live.cport with up := false } }).gport = [[2, 0, 0, 11]] := by decide +kernel

/-- R166: parts 1 and 2 of a request. -/
theorem test_request_part_begins_a_request :
    (after .managementRequestPart (onG live (requestPartFrame 62 40 1 [24, 2]))).mgmt.request
      = some { node := 40, next := 2, data := [24, 2] } := by decide +kernel

/-- R166: taking a request empties the buffer, another node's half-assembled request included. -/
theorem test_request_taken_empties_the_buffer :
    (after (.readPlan 40) { live with mgmt := { live.mgmt with
      request := some { node := 41, next := 2, data := [24, 2] } } }).mgmt.request = none := by decide +kernel

/-- 11.10, event 2: WRITE_CARS (8) is answered LEVEL (17). -/
theorem test_write_cars_needs_commission :
    sent (after (.writeCars 40 1 1 conf3.encode) live).gport = [[8, 17, 129]] := by decide +kernel

/-- 11.10, event 5: BAD_FIELD (24) names the car and the records left; recall landing 31 above highest served 30. -/
theorem test_write_cars_bad_field :
    sent (after (.writeCars 40 4 1 ({ conf3 with recallLanding := 31, highest := 30 } : CarConf).encode)
      (atLevel live .commission)).gport = [[8, 24, 129, 4, 1]] := by decide +kernel

/-- 11.10, event 7: the moving limit is field 13 of R157. -/
theorem test_write_plan_moving_limit_zero :
    sent (after (.writePlan 40 ({ table.plan with m := 0 } : PlanRecord).encode) (atLevel live .commission)).gport
      = [[9, 24, 129, 13, 0]] := by decide +kernel

/-- 11.10, event 9: no answer until the write ends. -/
theorem test_commit_waits_for_its_answer :
    sent (after (.commit 40) (atLevel live .commission)).gport = [] ∧
      (after (.commit 40) (atLevel live .commission)).toBlock.mgmt.busy = true := by decide +kernel

/-- 11.10, event 12: DONE to the COMMIT (10). -/
theorem test_store_write_is_answered :
    sent (after (.storeWriteComplete true) (after (.commit 40) (atLevel live .commission))).gport = [[10, 0, 129]] := by
  decide +kernel

theorem test_discard_copies_active :
    (after (.discard 40) (atLevel { live with pendingTable := Table.default } .commission)).pendingTable = table := by
  decide +kernel

/-- R163: a WIPE that was not prepared is answered NO_PREPARE (21); a prepared one starts the erase. -/
theorem test_wipe_needs_prepare :
    sent (after (.wipe 40) (atLevel live .commission)).gport = [[29, 21, 129]] ∧
      (after (.wipe 40) (after (.wipePrepare 40) (atLevel live .commission))).mgmt.storeOp = .erasing 40 := by decide +kernel

theorem test_erase_that_fails_is_a_store_fault :
    sent (after (.eraseComplete false) { live with mgmt := { live.mgmt with storeOp := .erasing 40 } }).gport
      = [[29, 23, 129]] := by decide +kernel

/-- 11.10, event 1: READ_PLAN answers plan NORMAL (2). -/
theorem test_read_plan : (sent (after (.readPlan 40) live).gport).map (fun p => p.take 4) = [[1, 0, 129, 2]] := by decide +kernel

/-- R155: from car 15 to car 16 at most, the second part marked last. -/
theorem test_read_cars_stops_at_16 :
    (sent (after (.readCars 40 15 4) live).gport).map (fun p => p.take 4) = [[2, 0, 1, 15], [2, 0, 130, 16]] := by decide +kernel

theorem test_read_queue :
    (sent (after (.readQueue 40) { live with queue := [entry] }).gport).map (fun p => p.take 8)
      = [[3, 0, 129, 1, 1, 1, 4, 0]] := by decide +kernel

theorem test_read_commitments :
    (sent (after (.readCommitments 40) (holding live (commitment .granted))).gport).map (fun p => p.take 8)
      = [[4, 0, 129, 1, 1, 1, 2, 28]] := by decide +kernel

/-- 10.8, event 9: CHECK and OVERRUN read as weights 1 and 8, and the summary is cleared. -/
theorem test_read_link_clears :
    sent (after (.readLink 40) { live with cport := { live.cport with
      errors := { ErrorSummary.empty with check := true, overrun := true } } }).gport = [[5, 0, 129, 0, 9]] ∧
      (after (.readLink 40) { live with cport := { live.cport with
        errors := { ErrorSummary.empty with check := true } } }).cport.errors = ErrorSummary.empty := by decide +kernel

theorem test_select_sets_each_car_once :
    (after (.select 40 1 [3, 1, 3]) (atLevel live .maintenance)).manual = some [2, 0] := by decide +kernel

/-- 4.10, remark on event 9: at its recall landing the car goes straight to LANDED. -/
theorem test_retry_lands_at_once :
    ((after (.retryCar 40 1) (atLevel (heardIn { inPlan .recall with
      active := { table with cars := Vector.replicate 16 { conf3 with recallLanding := 5 } } } .failed)
      .maintenance)).toBlock.car 0).state = .landed := by decide +kernel

theorem test_restart_is_answered_then_taken :
    (after (.restart 40) (atLevel live .maintenance)).plan = .normal ∧
      (after (.frameSent .g) (after (.frameSendStart .g) (after (.restart 40) (atLevel live .maintenance)))).plan = .adopt := by
  decide +kernel

/-- 11.10, events 3 and 14. -/
theorem test_unlock :
    (after (.unlock 40 2 5) live).mgmt.level = .commission ∧
      (after (.unlock 40 2 6) { live with mgmt := { live.mgmt with commKey := some 5 } }).mgmt.keyCounter = 4 := by
  decide +kernel

theorem test_lock_opens : (after (.lock 40) (atLevel live .commission)).mgmt.level = .opened := by decide +kernel

theorem test_idle_timer_opens :
    (after .idleTimerExpiry { atLevel live .commission with mgmt := { live.mgmt with
      level := .commission, idleTimer := some 0 } }).mgmt.level = .opened := by decide +kernel

theorem test_set_key_is_in_force :
    (after (.setKey 40 2 5) (atLevel live .commission)).mgmt.commKey = some 5 := by decide +kernel

theorem test_freeze_refuses_set_key :
    sent (after (.setKey 40 2 5) { after (.freeze 40) (atLevel live .commission) with gport := live.gport }).gport
      = [[26, 19, 129]] := by decide +kernel

theorem test_waiting_part_is_placed :
    sent (after .responsePartPlaced { live with mgmt := { live.mgmt with response := [⟨40, 62, 33, [1, 2]⟩] } }).gport
      = [[1, 2]] := by decide +kernel

/-- R3: a line asserted through a reset is taken at the second sample after it. -/
theorem test_second_sample_makes_the_event :
    (match step { State.reset with xfer := { pin := true, last := some true, taken := false } } with
      | .next t => t.pending
      | _ => []) = [.xferEmergTakenAsserted] := by decide +kernel

/-! ### The premises of the statements can be met -/

theorem live_ready : live.Ready 40 := ⟨rfl, by decide, rfl, rfl⟩

theorem allowed_at (s : State) (l : Level) : (atLevel s l).Allowed l := Nat.le_refl _

theorem holding_budget (s : State) (c : Commitment) (h : s.queue = []) : (holding s c).toBlock.BudgetOk :=
  ⟨by simp [listCars, holding], by simp [queueCars, holding, h], by simp [queueCars, holding, h],
    by simp only [oneHolder, holding, List.filter_cons]; split <;> simp, by simp [queueSorted, holding, h]⟩

theorem queue_budget (s : State) (e : Entry) (h : s.commitments = []) :
    ({ s with queue := [e] } : State).toBlock.BudgetOk :=
  ⟨by simp [listCars, h], by simp [queueCars], by simp [listCars, h], by simp [oneHolder, h], by simp [queueSorted]⟩

theorem idle_budget (s : State) (hc : s.commitments = []) (hq : s.queue = []) : s.toBlock.BudgetOk :=
  ⟨by simp [listCars, hc], by simp [queueCars, hq], by simp [queueCars, hq], by simp [oneHolder, hc],
    by simp [queueSorted, hq]⟩

theorem witness_StepRunsFrontCommand : ∃ (s : State) (c : Instr) (rest : List Instr), s.pending = c :: rest :=
  ⟨{ live with pending := [.resetN] }, .resetN, [], rfl⟩

theorem witness_TwoSamplesMakeLineEvents : ∃ s : State, s.pending = [] ∧ s.toBlock.ownWork = [] ∧
    s.xfer.last = some true ∧ s.xfer.pin = true ∧ s.xfer.taken = false :=
  ⟨{ live with xfer := { pin := true, last := some true, taken := false } }, by decide +kernel⟩

theorem witness_TickCountsTimersDown : ∃ s : State, s.pending = [] ∧ s.toBlock.ownWork = [] ∧ 10 ≤ s.subTick + 1 ∧
    s.settleTimer = some 1 := ⟨{ live with subTick := 9, settleTimer := some 1 }, by decide +kernel⟩

theorem witness_TickCountsTimersDown_taken : ∃ s : State, s.pending = [] ∧
    s.toBlock.ownWork = [.modeRepeatExpiry, .accelerationTimerExpiry 0, .silentReleaseExpiry 0] :=
  ⟨{ holding live { commitment .starting with
      grantTimer := none, runTimer := .stopped, silentHold := true, releaseTimer := some 0 } with modeTimer := some 0 },
    by decide +kernel⟩

theorem witness_CommitmentsAfterReset : ∃ (b : Block) (i : CarIx), b.plan = .adopt ∧ b.commitment? i = none ∧
    (b.car i).learned.motion ≠ .stopped :=
  ⟨(withCar (inPlan .adopt) (fun c => { c with learned := { c.learned with motion := .starting } })).toBlock, 0, by decide +kernel⟩

theorem witness_ImageLoadEnds_none : ∃ s : State, s.loaded = false ∧ s.mgmt.image.load = none :=
  ⟨State.reset, by decide +kernel⟩

theorem image_blank : blankBytes (encodeImage table none none) = false := by decide +kernel

theorem image_sealed : sealed (encodeImage table none none) = true := by
  have h : (imageBody table none none).length = 229 := by decide +kernel
  simp [sealed, encodeImage, List.drop_append, h, be16, Config.imageLength]

theorem image_reads : (readImage (encodeImage table none none)).isSome = true := by decide +kernel

theorem witness_ImageLoadEnds_valid : ∃ (s : State) (l : Loaded), s.loaded = false ∧ s.mgmt.image.load = some l := by
  obtain ⟨l, hl⟩ := Option.isSome_iff_exists.mp image_reads
  exact ⟨{ State.reset with mgmt := { State.reset.mgmt with image := .bytes (encodeImage table none none) } }, l, rfl,
    by simp only [Image.load, image_blank, image_sealed, hl, Bool.false_eq_true, if_false, if_true]⟩

theorem witness_ImageRoundTrip : ∃ t : Table, t.valid (if t.plan.mirror then 1 else 0) = true := ⟨table, by decide +kernel⟩

theorem witness_MainsFailureStandsCars : ∃ s : State, s.plan = .normal ∧ s.xfer.taken = false ∧ s.genSettled = false ∧
    (s.toBlock.car 0).state = .inGroup := ⟨heardIn live .inGroup, by decide +kernel⟩

theorem witness_MainsFailureStandsCars_settled : ∃ s : State, s.plan = .normal ∧ s.xfer.taken = false ∧
    s.genSettled = true ∧ s.toBlock.Settled ∧ (s.toBlock.recallState 0 (stoodState s.toBlock 0)).holdsRecall = true :=
  ⟨{ heardIn live .inGroup with genSettled := true }, rfl, rfl, rfl, ⟨rfl, rfl⟩, by decide +kernel⟩

theorem witness_PowerLossVoidsEverything_generator : ∃ s : State, s.gen.taken = true ∧ s.plan = .recall ∧
    (s.toBlock.car 0).state = .recalling ∧ s.commitments ≠ [] :=
  ⟨{ holding (heardIn (inPlan .recall) .recalling) (commitment .running) with
      gen := { pin := true, last := some true, taken := true } }, by decide +kernel⟩

theorem witness_PowerLossVoidsEverything_mains : ∃ s : State, s.xfer.taken = false ∧ s.plan = .mainsReturn ∧
    s.genSettled = false := ⟨inPlan .mainsReturn, by decide +kernel⟩

/-- A recalled car whose order is sent again, and a waiting entry of another: three frames for eight places. -/
theorem witness_PowerLossVoidsEverything_sends : ∃ s : State, s.gen.taken = true ∧ s.plan = .recall ∧ s.cport.up = true ∧
    s.cport.ownCount + 1 + (allCars.filter s.toBlock.lossResends).length + s.queue.length = 3 ∧
    (∀ e ∈ s.queue, (s.toBlock.car e.car).bound ≠ none ∧ (s.toBlock.car e.car).state.lostByPower = false) ∧
    s.queue = [entry] ∧ allCars.filter s.toBlock.lossResends = [1] :=
  ⟨{ ({ heardIn (inPlan .recall) .recallPending with
        gen := { pin := true, last := some true, taken := true }, queue := [entry] } : State) with
      toBlock := ({ heardIn (inPlan .recall) .recallPending with
        gen := { pin := true, last := some true, taken := true }, queue := [entry] } : State).toBlock.modCar 1
          (fun c => { c with state := .recalling, order := some (.recall 0) }) }, by decide +kernel⟩

theorem witness_PowerLossVoidsEverything_settled : ∃ s : State, s.xfer.taken = false ∧ s.plan = .mainsReturn ∧
    s.genSettled = true ∧ s.toBlock.Settled := ⟨{ inPlan .mainsReturn with genSettled := true }, rfl, rfl, rfl, rfl, rfl⟩

theorem witness_PowerLossVoidsEverything_settled_sends : ∃ s : State, s.xfer.taken = false ∧ s.plan = .mainsReturn ∧
    s.genSettled = true ∧ s.toBlock.Settled ∧ s.RoomFor (1 + (allCars.filter s.toBlock.lossResends).length + s.queue.length) ∧
    (∀ e ∈ s.queue, (s.toBlock.car e.car).bound ≠ none ∧ (s.toBlock.car e.car).state.lostByPower = false) ∧ s.queue = [entry] :=
  ⟨{ heardIn (inPlan .mainsReturn) .recallPending with genSettled := true, queue := [entry] }, rfl, rfl, rfl, ⟨rfl, rfl⟩,
    ⟨rfl, by decide +kernel⟩, by decide +kernel, rfl⟩

theorem witness_MainsReturnFlushes : ∃ s : State, s.xfer.taken = true ∧ s.plan = .recall ∧ s.commitments ≠ [] :=
  ⟨{ holding (inPlan .recall) (commitment .running) with xfer := { pin := true, last := some true, taken := true } },
    by decide +kernel⟩

theorem witness_MainsReturnFlushes_empty : ∃ s : State, s.xfer.taken = true ∧ s.plan = .service ∧ s.commitments = [] :=
  ⟨{ inPlan .service with xfer := { pin := true, last := some true, taken := true } }, by decide +kernel⟩

theorem witness_MainsReturnFlushes_sends : ∃ s : State, s.xfer.taken = true ∧ s.plan = .recall ∧ s.queue = [entry] ∧
    (∀ e ∈ s.queue, (s.toBlock.car e.car).bound ≠ none) ∧ s.commitments = [] ∧ s.RoomFor (2 + s.queue.length) ∧
    ({ s with commitments := [commitment .running] } : State).RoomFor (1 + s.queue.length) :=
  ⟨{ heardIn (inPlan .recall) .recallPending with
      xfer := { pin := true, last := some true, taken := true }, queue := [entry] },
    rfl, rfl, rfl, by decide +kernel, rfl, ⟨rfl, by decide +kernel⟩, ⟨rfl, by decide +kernel⟩⟩

theorem witness_TransferSettleTimer : ∃ s : State, s.gen.taken = true ∧ s.transferTimer.isSome = true ∧
    s.plan ≠ .transferWait ∧ s.plan ≠ .recall ∧ s.plan ≠ .service :=
  ⟨{ live with gen := { pin := true, last := some true, taken := true }, transferTimer := some 0 }, by decide +kernel⟩

theorem witness_TransferSettleTimer_start : ∃ s : State, s.gen.taken = false := ⟨live, rfl⟩

theorem witness_DerateSetsAllowance : ∃ (s : State) (v : Bool), s.derate.taken = !v := ⟨live, true, rfl⟩

/-- A parked car that the derated count of 1 chooses, and a serving one that it does not. -/
theorem witness_DerateSetsAllowance_service : ∃ s : State, s.plan = .service ∧ s.toBlock.BudgetOk ∧ s.toBlock.Settled ∧
    (s.toBlock.car 0).state = .parked ∧ s.toBlock.chosen 0 = true ∧ (s.toBlock.car 1).state = .serving ∧
    s.toBlock.chosen 1 = false :=
  ⟨{ heardIn (inPlan .service) .parked with
      toBlock := (heardIn (inPlan .service) .parked).toBlock.modCar 1 (fun c => { c with state := .serving }) }, rfl,
    idle_budget _ rfl rfl, ⟨rfl, rfl⟩,
    by decide +kernel⟩

theorem witness_SettleExpiryStartsRecall : ∃ s : State, s.transferTimer.isSome = true ∧ s.plan = .transferWait ∧
    s.toBlock.Settled ∧ (s.toBlock.car 0).state = .standing :=
  ⟨heardIn { inPlan .transferWait with transferTimer := some 0 } .standing, rfl, rfl, ⟨rfl, rfl⟩, by decide +kernel⟩

/-- A STANDING car that has yet to reach its recall landing, one that stands there with its door open, and the states R10 makes
of them. -/
theorem witness_SettleExpiryStartsRecall_holds :
    (heardIn (inPlan .transferWait) .standing).toBlock.recallState 0 .standing = .recallPending ∧
    (withCar (heardIn (inPlan .transferWait) .standing) (fun c => { c with learned := { c.learned with
      landing := 0, door := .opened } })).toBlock.recallState 0 .standing = .parked := by decide +kernel

theorem witness_RecallWorkEmptiesEntersService : ∃ s : State, s.plan = .recall ∧ s.toBlock.recallWork = 0 :=
  ⟨inPlan .recall, by decide +kernel⟩

theorem witness_RecallWorkEmptiesEntersService_set : ∃ s : State, s.plan = .recall ∧ s.toBlock.recallWork = 0 ∧
    s.toBlock.BudgetOk ∧ (s.toBlock.car 0).state = .parked ∧ s.toBlock.chosen 0 = true :=
  ⟨heardIn (inPlan .recall) .parked, by decide +kernel, by decide +kernel,
    idle_budget _ rfl rfl, by decide +kernel⟩

theorem witness_RecallWorkEmptiesEntersService_left : ∃ s : State, s.plan = .recall ∧ s.toBlock.recallWork ≠ 0 :=
  ⟨heardIn (inPlan .recall) .landed, by decide +kernel⟩

theorem witness_NormalIsEntered_adopt : ∃ s : State, s.adoptionTimer.isSome = true ∧ s.plan = .adopt ∧ s.xfer.taken = false :=
  ⟨{ inPlan .adopt with adoptionTimer := some 0 }, by decide +kernel⟩

theorem witness_NormalIsEntered_return : ∃ s : State, s.plan = .mainsReturn ∧ s.commitments = [] :=
  ⟨inPlan .mainsReturn, by decide +kernel⟩

theorem witness_NormalIsEntered_stays : ∃ s : State, s.plan = .mainsReturn ∧ s.commitments ≠ [] :=
  ⟨holding (inPlan .mainsReturn) (commitment .running), by decide +kernel⟩

theorem witness_AdoptionExpiryKeepsCommitments : ∃ s : State, s.adoptionTimer.isSome = true ∧ s.plan = .adopt ∧
    s.xfer.taken = true ∧ s.genSettled = false ∧ s.commitments ≠ [] :=
  ⟨{ holding (inPlan .adopt) (commitment .adopted) with
      adoptionTimer := some 0, xfer := { pin := true, last := some true, taken := true } }, by decide +kernel⟩

theorem witness_AdoptionExpiryKeepsCommitments_settled : ∃ s : State, s.adoptionTimer.isSome = true ∧ s.plan = .adopt ∧
    s.xfer.taken = true ∧ s.genSettled = true ∧ s.toBlock.Settled :=
  ⟨{ inPlan .adopt with adoptionTimer := some 0, genSettled := true, xfer := { pin := true, last := some true, taken := true } },
    rfl, rfl, rfl, rfl, rfl, rfl⟩

theorem witness_ModeFrameRepeats : ∃ s : State, s.modeTimer.isSome = true := ⟨{ live with modeTimer := some 0 }, rfl⟩

/-- Landing 127 with between set, load 255 and undefined codes: the ends of the ranges of R26. -/
theorem witness_ReportIsLearned : ∃ (s : State) (i : CarIx) (f : Frame),
    f = reportFrame 62 61 i 127 1 3 3 3 255 5 9 2 ∧ s.Takes .c f .carReport ∧ s.HearsReport i 61 ∧
      (s.toBlock.car i).bound = none :=
  ⟨onC live (reportFrame 62 61 15 127 1 3 3 3 255 5 9 2), 15, _, rfl, ⟨rfl, ⟨[], rfl⟩, by decide +kernel⟩,
    ⟨by decide, by decide, .inr (by decide +kernel), by decide +kernel⟩, by decide +kernel⟩

theorem witness_ReportIsLearned_bound : ∃ (s : State) (i : CarIx) (f : Frame),
    f = reportFrame 63 21 i 0 0 0 0 0 150 0 0 0 ∧ s.Takes .c f .carReport ∧ s.HearsReport i 21 ∧
      (s.toBlock.car i).bound = some 21 :=
  ⟨onC (heardIn live .inGroup) (reportFrame 63 21 0 0 0 0 0 0 150 0 0 0), 0, _, rfl, ⟨rfl, ⟨[], rfl⟩, by decide +kernel⟩,
    ⟨by decide, by decide, .inr (by decide +kernel), by decide +kernel⟩, by decide +kernel⟩

/-- Car 1's report with this motion, to a part in an outage that holds this list. -/
def reporting (motion : Byte) (l : List Commitment) : State :=
  onC { heardIn (inPlan .recall) .recalling with commitments := l } (reportFrame 62 21 0 5 0 motion 1 0 80 0 0 1)

theorem reporting_heard (motion : Byte) (l : List Commitment)
    (h : (reporting motion l).toBlock.route .c (reportFrame 62 21 0 5 0 motion 1 0 80 0 0 1) = .carReport) :
    (reporting motion l).Takes .c (reportFrame 62 21 0 5 0 motion 1 0 80 0 0 1) .carReport ∧
      (reporting motion l).HearsReport 0 21 ∧ ((reporting motion l).toBlock.car 0).bound = some (21 : Byte).toNat :=
  ⟨⟨rfl, ⟨[], rfl⟩, h⟩, ⟨by decide, by decide, .inr rfl, nofun⟩, rfl⟩

theorem witness_ReportIsLearned_starts : ∃ (s : State) (c : Commitment),
    (s.Takes .c (reportFrame 62 21 0 5 0 1 1 0 80 0 0 1) .carReport ∧ s.HearsReport 0 21 ∧
      (s.toBlock.car 0).bound = some (21 : Byte).toNat) ∧ s.toBlock.commitment? 0 = some c ∧ c.phase = .granted :=
  ⟨reporting 1 [commitment .granted], commitment .granted, reporting_heard _ _ (by decide +kernel), rfl, rfl⟩

theorem witness_ReportIsLearned_runs : ∃ (s : State) (c : Commitment),
    (s.Takes .c (reportFrame 62 21 0 5 0 2 1 0 80 0 0 1) .carReport ∧ s.HearsReport 0 21 ∧
      (s.toBlock.car 0).bound = some (21 : Byte).toNat) ∧ s.toBlock.commitment? 0 = some c ∧ c.phase = .starting :=
  ⟨reporting 2 [commitment .starting], commitment .starting, reporting_heard _ _ (by decide +kernel), rfl, rfl⟩

theorem witness_ReportIsLearned_unauthorized : ∃ (s : State) (c : Commitment),
    (s.Takes .c (reportFrame 62 21 0 5 0 0 1 0 80 0 0 1) .carReport ∧ s.HearsReport 0 21 ∧
      (s.toBlock.car 0).bound = some (21 : Byte).toNat) ∧ s.toBlock.commitment? 0 = some c ∧ c.phase = .adopted ∧
      c.unauthorized = true ∧ s.plan ≠ .normal ∧ (s.toBlock.car 0).state = .recalling :=
  ⟨reporting 0 [{ commitment .adopted with unauthorized := true }], _, reporting_heard _ _ (by decide +kernel), rfl, rfl, rfl,
    nofun, rfl⟩

theorem witness_ReportIsLearned_adopts : ∃ s : State,
    (s.Takes .c (reportFrame 62 21 0 5 0 1 1 0 80 0 0 1) .carReport ∧ s.HearsReport 0 21 ∧
      (s.toBlock.car 0).bound = some (21 : Byte).toNat) ∧ s.toBlock.commitment? 0 = none ∧ s.plan.emergency = true :=
  ⟨reporting 1 [], reporting_heard _ _ (by decide +kernel), rfl, rfl⟩

/-- Car 1's report of landing, motion, door, car mode and fault code, from node 21. -/
def told (s : State) (landing motion door mode fault : Byte) : State :=
  onC s (reportFrame 62 21 0 landing 0 motion 1 door 80 mode fault 1)

/-- The learned part that this report leaves. -/
def learns (s : State) : Learned := ((after .carReport s).toBlock.car 0).learned

/-- An unheard car first heard in RECALL, whose order and notice find room. -/
theorem witness_ReportIsLearned_placed : ∃ s : State,
    (s.Takes .c (reportFrame 62 21 0 5 0 0 1 0 80 0 0 1) .carReport ∧ s.HearsReport 0 21 ∧ (s.toBlock.car 0).bound = none) ∧
    s.toBlock.BudgetOk ∧ s.toBlock.Settled ∧ (s.toBlock.car 0).state.firstHeard = true ∧
    (s.toBlock.car 0).learned.silent = false ∧ s.gport.roomOwn = true ∧ s.cport.roomOwn = true ∧
    s.toBlock.ordersAnew 0 (learns s) = true ∧ s.toBlock.entry? 0 = none ∧
    s.toBlock.reportedState 0 (learns s) = .recallPending :=
  ⟨told (inPlan .recall) 5 0 0 0 0, ⟨⟨rfl, ⟨[], rfl⟩, by decide +kernel⟩,
      ⟨by decide, by decide, .inr (by decide +kernel), by decide +kernel⟩, by decide +kernel⟩,
    idle_budget _ rfl rfl, ⟨rfl, rfl⟩, by decide +kernel⟩

/-- A run that ends at its target, one that ends elsewhere below the attempt limit, and one at it. -/
theorem witness_ReportIsLearned_ends : ∃ s u v : State,
    (∀ x ∈ [s, u, v], x.toBlock.BudgetOk ∧ x.toBlock.Settled ∧ (x.toBlock.car 0).state = .recalling ∧
      x.toBlock.commitment? 0 = some (commitment .running) ∧ x.toBlock.entry? 0 = none ∧ x.cport.roomOwn = true ∧
      (x.toBlock.car 0).order = some (.recall 0)) ∧
    s.toBlock.reportedState 0 (learns s) = .landed ∧
    u.toBlock.fallsShort 0 (learns u) = true ∧
    (u.toBlock.car 0).attempts + 1 < u.active.plan.attemptLimit ∧
    u.toBlock.reportedState 0 (learns u) = .recallPending ∧
    (v.toBlock.car 0).attempts + 1 = v.active.plan.attemptLimit ∧
    v.toBlock.reportedState 0 (learns v) = .failed :=
  let r (n : Nat) (landing : Byte) := holding (told (withCar (heardIn (inPlan .recall) .recalling)
    (fun c => { c with order := some (.recall 0), attempts := n })) landing 0 0 0 0) (commitment .running)
  ⟨r 0 0, r 0 5, r (table.plan.attemptLimit - 1) 5, by
    intro x hx
    simp only [List.mem_cons, List.not_mem_nil, or_false] at hx
    rcases hx with rfl | rfl | rfl <;> exact ⟨holding_budget _ _ rfl, ⟨rfl, rfl⟩, by decide +kernel⟩, by decide +kernel⟩

/-- The arrival check, a fault in a run, motion of a LANDED car, and the mode comparison: each report, and the state it makes. -/
theorem witness_ReportIsLearned_moves : ∃ l : List (State × RState), (∀ x ∈ l, x.1.toBlock.BudgetOk ∧ x.1.toBlock.Settled) ∧
    (∀ x ∈ l, x.1.toBlock.reportedState 0 (learns x.1) = x.2) ∧
    l.map (fun x => (((x.1.toBlock.car 0).state, (learns x.1).motion, (learns x.1).mode, (learns x.1).fault), x.2)) =
      [((.recallPending, .stopped, .automatic, 0), .landed), ((.recalling, .running, .automatic, 9), .recalling),
        ((.landed, .starting, .automatic, 0), .landed), ((.recallPending, .stopped, .firefighter, 0), .firefighter),
        ((.heldOut, .stopped, .automatic, 0), .recallPending), ((.failed, .stopped, .inspection, 0), .heldOut)] :=
  let r (st : RState) := withCar (heardIn (inPlan .recall) st) (fun c => { c with order := some (.recall 0) })
  ⟨[(told (r .recallPending) 0 0 0 0 0, .landed), (told (r .recalling) 5 2 0 0 9, .recalling),
      (told (r .landed) 0 1 0 0 0, .landed), (told (r .recallPending) 5 0 0 1 0, .firefighter),
      (told (withCar (r .heldOut) (fun c => { c with learned := { c.learned with mode := .inspection } })) 5 0 0 0 0,
        .recallPending),
      (told (r .failed) 5 0 0 2 0, .heldOut)], by
    intro x hx
    simp only [List.mem_cons, List.not_mem_nil, or_false] at hx
    rcases hx with rfl | rfl | rfl | rfl | rfl | rfl <;> exact ⟨idle_budget _ rfl rfl, rfl, rfl⟩, by decide +kernel,
    by decide +kernel⟩

/-- A LANDED car of the manual selection reports its door open in SERVICE. -/
theorem witness_ReportIsLearned_parks : ∃ s : State, s.toBlock.BudgetOk ∧ s.toBlock.Settled ∧ s.plan = .service ∧
    s.manual = some [0] ∧ (s.toBlock.car 0).state = .landed ∧ s.toBlock.reportedState 0 (learns s) = .parked ∧
    ((after .carReport s).toBlock.car 0).state = .serving :=
  ⟨told { heardIn (inPlan .service) .landed with manual := some [0] } 5 0 2 0 0, idle_budget _ rfl rfl, ⟨rfl, rfl⟩,
    by decide +kernel⟩

theorem witness_ForeignReportMakesConflict : ∃ (s : State) (i : CarIx) (f : Frame),
    f = reportFrame 62 1 i 2 0 0 0 0 0 0 0 0 ∧ s.Takes .c f .carReport ∧ s.HearsReport i 1 ∧
      (s.toBlock.car i).bound = some 21 :=
  ⟨onC (heardIn live .inGroup) (reportFrame 62 1 0 2 0 0 0 0 0 0 0 0), 0, _, rfl, ⟨rfl, ⟨[], rfl⟩, by decide +kernel⟩,
    ⟨by decide, by decide, .inr (by decide +kernel), by decide +kernel⟩, by decide +kernel⟩

/-- A car with an entry comes into CONFLICT, and one is in CONFLICT already. -/
theorem witness_ForeignReportMakesConflict_entry : ∃ s u : State, ∀ x ∈ [s, u],
    x.Takes .c (reportFrame 62 1 0 2 0 0 0 0 0 0 0 0) .carReport ∧ x.HearsReport 0 1 ∧ x.toBlock.Settled ∧
    (x.toBlock.car 0).bound = some 21 ∧ x.toBlock.entry? 0 = some entry ∧ s.plan ≠ .service ∧
    (s.toBlock.car 0).state = .recallPending ∧ s.cport.roomOwn = true ∧ s.gport.up = true ∧ s.gport.ownCount + 2 ≤ 8 ∧
    (u.toBlock.car 0).state = .conflict :=
  ⟨onC { heardIn (inPlan .recall) .recallPending with queue := [entry] } (reportFrame 62 1 0 2 0 0 0 0 0 0 0 0),
    onC { heardIn (inPlan .recall) .conflict with queue := [entry] } (reportFrame 62 1 0 2 0 0 0 0 0 0 0 0), by
    intro x hx
    simp only [List.mem_cons, List.not_mem_nil, or_false] at hx
    rcases hx with rfl | rfl <;>
      exact ⟨⟨rfl, ⟨[], rfl⟩, by decide +kernel⟩, ⟨by decide, by decide, .inr (by decide +kernel), by decide +kernel⟩, ⟨rfl, rfl⟩,
        by decide +kernel⟩⟩

/-- The sources just outside 1 to 61 and the car numbers just outside 1 to 16. -/
theorem witness_ForeignReportMakesConflict_outside : ∀ x ∈ [((0 : Byte), (1 : Byte)), (63, 1), (1, 0), (61, 17)],
    (onC live { dst := 9, src := x.1, kind := 1, payload := x.2 :: List.replicate 9 0 }).Takes .c
      { dst := 9, src := x.1, kind := 1, payload := x.2 :: List.replicate 9 0 } .carReport ∧
    (x.1.toNat = 0 ∨ 61 < x.1.toNat ∨ x.2.toNat = 0 ∨ 16 < x.2.toNat) := by
  intro x hx
  simp only [List.mem_cons, List.not_mem_nil, or_false] at hx
  rcases hx with rfl | rfl | rfl | rfl <;> exact ⟨⟨rfl, ⟨[], rfl⟩, by decide +kernel⟩, by decide⟩

/-- An absent car in configured mode, and a DISABLED one. -/
theorem witness_ForeignReportMakesConflict_withheld : ∃ s u : State,
    s.Takes .c (reportFrame 62 21 0 5 0 0 0 0 0 0 0 0) .carReport ∧ s.fallback = false ∧
    (s.toBlock.conf 0).present = false ∧ s.active.plan.relay.otherNormal = true ∧ s.gport.roomRelayed = true ∧
    u.Takes .c (reportFrame 62 21 0 5 0 0 0 0 0 0 0 0) .carReport ∧ (u.toBlock.conf 0).present = true ∧
    (u.toBlock.conf 0).relay = .disabled :=
  ⟨onC { live with active := { table with cars := Vector.replicate 16 { conf3 with present := false } } }
      (reportFrame 62 21 0 5 0 0 0 0 0 0 0 0),
    onC { live with active := { table with cars := Vector.replicate 16 { conf3 with relay := .disabled } } }
      (reportFrame 62 21 0 5 0 0 0 0 0 0 0 0),
    ⟨rfl, ⟨[], rfl⟩, by decide +kernel⟩, rfl, by decide +kernel, by decide +kernel, by decide +kernel,
    ⟨rfl, ⟨[], rfl⟩, by decide +kernel⟩, by decide +kernel, by decide +kernel⟩

theorem witness_ReportTimerMakesSilent : ∃ (s : State) (i : CarIx), (s.toBlock.car i).learned.reportTimer.isSome = true ∧
    s.toBlock.Settled :=
  ⟨withCar live (fun c => { c with learned := { c.learned with reportTimer := some 0 } }), 0, by decide +kernel, rfl, rfl⟩

theorem witness_DoorTimerParks : ∃ (s : State) (i : CarIx), (s.toBlock.car i).doorTimer.isSome = true ∧
    (s.toBlock.car i).state = .landed ∧ s.plan ≠ .service ∧ s.toBlock.Settled :=
  ⟨withCar (heardIn (inPlan .recall) .landed) (fun c => { c with doorTimer := some 0 }), 0, by decide +kernel, by decide +kernel,
    by decide, rfl, rfl⟩

theorem witness_DoorTimerParks_service : ∃ s : State, (s.toBlock.car 0).doorTimer.isSome = true ∧
    (s.toBlock.car 0).state = .landed ∧ s.plan = .service ∧ s.toBlock.Settled :=
  ⟨withCar (heardIn (inPlan .service) .landed) (fun c => { c with doorTimer := some 0 }), by decide +kernel, by decide +kernel,
    rfl, rfl, rfl⟩

/-- A selected-awaiting car that holds an order, while no other car serves or is parked. -/
theorem witness_DoorTimerParks_released : ∃ s : State, (s.toBlock.car 0).doorTimer.isSome = true ∧
    (s.toBlock.car 0).state = .landed ∧ s.toBlock.Settled ∧ s.plan = .service ∧ s.manual = some [0] ∧
    (s.toBlock.car 0).slot = .holding (dispatchFrame 21 3 0 9) ∧ s.toBlock.entry? 0 = none ∧
    (∀ j, j ≠ 0 → (s.toBlock.car j).state.isParked = false ∧ (s.toBlock.car j).state ≠ .serving) ∧
    s.cport.roomOwn = true ∧ s.cport.roomRelayed = true ∧ s.gport.up = true ∧ s.gport.ownCount + 4 ≤ 8 :=
  ⟨withCar { heardIn (inPlan .service) .landed with manual := some [0] }
      (fun c => { c with doorTimer := some 0, slot := .holding (dispatchFrame 21 3 0 9) }),
    by decide +kernel, by decide +kernel, ⟨rfl, rfl⟩, by decide +kernel⟩

theorem witness_StartFigureBounds : conf3.inRange = true ∧
    ({ conf3 with pm := 2500, s := 300, f := 5, b := 60, r := 100 } : CarConf).inRange = true := by decide +kernel

theorem witness_RunningPower : conf3.inRange = true ∧
    runPercent conf3 (imbalance conf3 .down (effLow (.known 80) .down)) = -28 ∧ powerOf conf3 (-28) = -84 ∧
    powerOf conf3 68 = 204 := by decide

theorem witness_AdoptedFigures : ∃ (b : Block) (i : CarIx), b.fallback = false ∧ (b.car i).learned.dir = none :=
  ⟨live.toBlock, 0, by decide +kernel⟩

theorem witness_GrantLapses : ∃ (s : State) (i : CarIx) (c : Commitment) (tag : Byte) (n : Nat),
    s.toBlock.BudgetOk ∧ s.toBlock.Settled ∧ s.toBlock.commitment? i = some c ∧ c.phase = .granted ∧
      c.grantTimer.isSome = true ∧ c.tag = some tag ∧ (s.toBlock.car i).bound = some n ∧
      (s.toBlock.car i).state = .recalling :=
  ⟨holding (heardIn (inPlan .recall) .recalling) (commitment .granted), 0, commitment .granted, 7, 21,
    holding_budget _ _ rfl, ⟨rfl, rfl⟩, rfl, rfl, rfl, rfl, by decide +kernel, by decide +kernel⟩

theorem witness_AccelerationExpirySlowStart : ∃ (s : State) (i : CarIx) (c : Commitment), s.toBlock.Settled ∧
    s.toBlock.commitment? i = some c ∧ c.phase = .starting ∧ c.accelTimer.isSome = true ∧ s.active.plan.tSettle ≠ 0 :=
  ⟨holding (inPlan .recall) (commitment .starting), 0, commitment .starting, ⟨rfl, rfl⟩, rfl, rfl, rfl, by decide⟩

theorem witness_RunLimitFailsCar : ∃ (s : State) (i : CarIx) (c : Commitment) (k : Nat), s.toBlock.Settled ∧
    s.toBlock.commitment? i = some c ∧ c.runTimer = .running k ∧ (s.toBlock.car i).state = .recalling :=
  ⟨holding (heardIn (inPlan .recall) .recalling) (commitment .running), 0, commitment .running, 0, ⟨rfl, rfl⟩, rfl, rfl,
    by decide +kernel⟩

theorem witness_SilentReleaseFailsCar : ∃ (s : State) (i : CarIx) (c : Commitment), s.toBlock.BudgetOk ∧
    s.toBlock.Settled ∧ s.toBlock.commitment? i = some c ∧ c.silentHold = true ∧ c.releaseTimer.isSome = true ∧
    (s.toBlock.car i).state = .recalling :=
  ⟨holding (heardIn (inPlan .recall) .recalling) { commitment .running with silentHold := true, releaseTimer := some 0 }, 0, _,
    holding_budget _ _ rfl, ⟨rfl, rfl⟩, rfl, rfl, rfl, by decide +kernel⟩

theorem witness_ScanGrantsFirstFit : ∃ (b : Block) (e : Entry) (noted : List CarIx), b.scan b.queue [] = some (e, noted) ∧
    noted ≠ [] :=
  ⟨{ (inPlan .recall).toBlock with queue := [{ entry with car := 1, fig := { ds := 1501, dh := 0, dl := 0 } }, entry] },
    entry, [1], by decide +kernel⟩

/-- Two entries: the upper condition holds the first back, the second fits. -/
def behind : List Entry := [{ entry with car := 1, fig := { ds := 1501, dh := 0, dl := 0 }, skip := 2 }, entry]

theorem witness_ScanGrantsFirstFit_grants : ∃ b : Block, b.queue = behind ∧
    (∀ x ∈ behind.take 1, (b.car x.car).learned.silent = true ∨ b.verdict x = .lower ∨ b.verdict x = .count ∨
      (b.verdict x = .upper ∧ x.blocking = false)) ∧
    (b.car entry.car).learned.silent = false ∧ b.verdict entry = .fits :=
  ⟨{ (inPlan .recall).toBlock with queue := behind }, by decide +kernel⟩

/-- With the skip limit of 3 the entry that is passed over comes to be BLOCKING. -/
theorem witness_SettleExpiryGrantsHead_behind : ∃ s : State, s.settleTimer.isSome = true ∧ s.toBlock.Settled ∧
    s.toBlock.BudgetOk ∧ s.queue = behind ∧ s.plan = .recall ∧ s.toBlock.slotHolder = none ∧ s.cport.roomOwn = true ∧
    (∀ x ∈ behind.take 1, (s.toBlock.car x.car).learned.silent = true ∨ s.toBlock.verdict x = .lower ∨
      s.toBlock.verdict x = .count ∨ (s.toBlock.verdict x = .upper ∧ x.blocking = false)) ∧
    (s.toBlock.car entry.car).learned.silent = false ∧ s.toBlock.verdict entry = .fits ∧
    (behind.take 1).all (fun x => (s.toBlock.skipped x).blocking) = true :=
  ⟨{ heardIn (inPlan .recall) .recallPending with settleTimer := some 0, queue := behind }, rfl, ⟨rfl, rfl⟩,
    ⟨by decide +kernel, by decide +kernel, by decide +kernel, by unfold oneHolder; decide +kernel,
      .cons (fun _ h => by rw [List.mem_singleton.mp h]) (List.pairwise_singleton _ _)⟩,
    rfl, rfl, rfl, by decide +kernel⟩

theorem witness_SettleExpiryGrantsHead : ∃ (s : State) (e : Entry) (rest : List Entry), s.settleTimer.isSome = true ∧
    s.toBlock.Settled ∧ s.toBlock.BudgetOk ∧ s.queue = e :: rest ∧ s.plan = .recall ∧ s.toBlock.slotHolder = none ∧
    s.cport.roomOwn = true ∧ (s.toBlock.car e.car).learned.silent = false ∧ s.toBlock.verdict e = .fits :=
  ⟨{ ({ heardIn (inPlan .recall) .recallPending with settleTimer := some 0 } : State) with queue := [entry] }, entry, [], rfl,
    ⟨rfl, rfl⟩, queue_budget _ _ rfl, rfl, rfl, rfl, rfl, by decide +kernel, by decide +kernel⟩

theorem witness_RequestRefusedByPlan : ∃ (s : State) (i : CarIx), s.Takes .c (requestFrame 62 61 i 9 127 255) .startRequest ∧
    s.plan = .mainsReturn ∧ s.toBlock.Settled :=
  ⟨onC (inPlan .mainsReturn) (requestFrame 62 61 15 9 127 255), 15, ⟨rfl, ⟨[], rfl⟩, by decide +kernel⟩, rfl, rfl, rfl⟩

/-- Car 1 with an order, asking from its node 21 with tag 9. -/
def asking (s : State) (o : Option CarOrder) (target load : Byte) : State :=
  onC (withCar s (fun c => { c with order := o })) (requestFrame 62 21 0 9 target load)

/-- Check 11, and the boundary values of checks 10 and 12. -/
theorem witness_RequestRefusedByPlan_away : ∃ s : State, s.TakesRequest 0 62 21 9 6 80 ∧
    s.toBlock.turnsAway 0 21 9 6 = some 9 ∧ (s.toBlock.car 0).state = .recallPending ∧ s.toBlock.entry? 0 = none ∧
    s.RoomFor 2 ∧ s.toBlock.turnsAway 0 21 9 128 = some 10 ∧ s.toBlock.turnsAway 0 21 9 127 = some 9 ∧
    s.toBlock.turnsAway 0 21 9 0 = none ∧ s.toBlock.turnsAway 0 22 9 0 = some 3 :=
  ⟨asking (heardIn (inPlan .recall) .recallPending) (some (.recall 0)) 6 80,
    ⟨⟨rfl, ⟨[], rfl⟩, by decide +kernel⟩, by decide, by decide, .inr (.inl rfl), rfl, rfl⟩, by decide +kernel, by decide +kernel,
    by decide +kernel, ⟨rfl, by decide +kernel⟩, by decide +kernel⟩

/-- The recall DOWN of car 3 with load 80 (3.10), refused REGEN and diverted to landing 5. -/
theorem witness_RequestRefusedByPlan_diverted : ∃ s : State, s.TakesRequest 0 62 21 9 0 80 ∧
    s.toBlock.Admits 0 21 9 0 .recall .down ∧ (s.toBlock.car 0).state ≠ .landed ∧ s.fallback = false ∧
    (s.toBlock.figuresRequested 0 (Load.ofByte 80) .down).ds ≤ s.active.plan.k ∧
    min (s.toBlock.figuresRequested 0 (Load.ofByte 80) .down).dl 0 < -(s.active.plan.q : Int) ∧
    s.toBlock.divertTo 0 80 = some 5 ∧ s.RoomFor 2 :=
  ⟨asking (heardIn (inPlan .recall) .recallPending) (some (.recall 0)) 0 80,
    ⟨⟨rfl, ⟨[], rfl⟩, by decide +kernel⟩, by decide, by decide, .inr (.inl rfl), rfl, rfl⟩,
    ⟨by decide +kernel, by decide +kernel, by decide +kernel, by decide +kernel⟩, by decide +kernel, rfl, by decide +kernel,
    by decide +kernel, by decide +kernel, rfl, by decide +kernel⟩

/-- Between landings with UNKNOWN load there is no divert landing; a DIVERT run with a changed load fails its car. -/
theorem witness_RequestRefusedByPlan_regen : ∃ s u : State, s.TakesRequest 0 62 21 9 0 255 ∧
    s.toBlock.Admits 0 21 9 0 .recall .down ∧ s.toBlock.divertTo 0 255 = none ∧
    u.TakesRequest 0 62 21 9 0 255 ∧ u.toBlock.Admits 0 21 9 0 .divert .down ∧
    min (u.toBlock.figuresRequested 0 (Load.ofByte 255) .down).dl 0 < -(u.active.plan.q : Int) :=
  ⟨asking (withCar (heardIn (inPlan .recall) .recallPending)
      (fun c => { c with learned := { c.learned with between := true } })) (some (.recall 0)) 0 255,
    asking (heardIn (inPlan .recall) .recallPending) (some (.divert 0)) 0 255,
    ⟨⟨rfl, ⟨[], rfl⟩, by decide +kernel⟩, by decide, by decide, .inr (.inl rfl), rfl, rfl⟩,
    ⟨by decide +kernel, by decide +kernel, by decide +kernel, by decide +kernel⟩, by decide +kernel,
    ⟨⟨rfl, ⟨[], rfl⟩, by decide +kernel⟩, by decide, by decide, .inr (.inl rfl), rfl, rfl⟩,
    ⟨by decide +kernel, by decide +kernel, by decide +kernel, by decide +kernel⟩, by decide +kernel⟩

/-- With A at 539 the UP run of 3.10 (Ds 540) is upper-alone unfit. -/
theorem witness_RequestRefusedByPlan_large : ∃ s : State, s.TakesRequest 0 62 21 9 6 80 ∧
    s.toBlock.Admits 0 21 9 6 .service .up ∧ s.fallback = false ∧
    (s.active.plan.a : Int) < (s.toBlock.figuresRequested 0 (Load.ofByte 80) .up).ds :=
  ⟨{ asking (heardIn (inPlan .service) .serving) (some .serve) 6 80 with
      active := { table with plan := { table.plan with a := 539 } } },
    ⟨⟨rfl, ⟨[], rfl⟩, by decide +kernel⟩, by decide, by decide, .inr (.inr rfl), rfl, rfl⟩,
    ⟨by decide +kernel, by decide +kernel, by decide +kernel, by decide +kernel⟩, rfl, by decide +kernel⟩

/-- A SERVING car at landing 5, sent to landing 6 with load 80: an UP run that fits, Ds 540. -/
def serving : State :=
  onC (heardIn (inPlan .service) .serving) (requestFrame 62 21 0 9 6 80)

theorem witness_RequestIsGranted : ∃ (s : State) (d : Dir),
    s.Takes .c (requestFrame 62 21 0 9 6 80) .startRequest ∧ s.plan = .service ∧ s.toBlock.Settled ∧ s.queue = [] ∧
    s.toBlock.slotHolder = none ∧ s.settleTimer = none ∧ s.cport.roomOwn = true ∧ s.toBlock.commitment? 0 = none ∧
    (s.toBlock.car 0).state = .serving ∧ (s.toBlock.car 0).bound = some 21 ∧ (s.toBlock.car 0).learned.silent = false ∧
    (s.toBlock.conf 0).lowest ≤ 6 ∧ 6 ≤ (s.toBlock.conf 0).highest ∧ runDir (s.toBlock.car 0).learned 6 = some d ∧
    s.toBlock.upperUnfit (s.toBlock.figuresRequested 0 (Load.ofByte 80) d) = false ∧
    s.toBlock.lowerUnfit (s.toBlock.figuresRequested 0 (Load.ofByte 80) d) = false ∧ s.fallback = false ∧
    s.toBlock.sumUpper + (s.toBlock.figuresRequested 0 (Load.ofByte 80) d).ds ≤ s.aEff ∧
    (s.toBlock.figuresRequested 0 (Load.ofByte 80) d).ds ≤ s.active.plan.k ∧
    -(s.active.plan.q : Int) ≤ s.toBlock.sumLower + min (s.toBlock.figuresRequested 0 (Load.ofByte 80) d).dl 0 ∧
    s.commitments.length < s.active.plan.m :=
  ⟨serving, .up, ⟨rfl, ⟨[], rfl⟩, by decide +kernel⟩, rfl, ⟨rfl, rfl⟩, by decide +kernel⟩

/-- A join while the settle timer runs, and a refresh of an entry of another class. -/
theorem witness_RequestIsGranted_waits : ∃ s u : State, s.TakesRequest 0 62 21 9 6 80 ∧ s.toBlock.BudgetOk ∧
    s.toBlock.Admits 0 21 9 6 .service .up ∧ s.settleTimer ≠ none ∧ s.RoomFor 2 ∧ s.fallback = false ∧
    (s.toBlock.entryOf 0 9 6 80 .service .up).fig.ds ≤ (s.active.plan.k : Int) ∧
    (s.toBlock.entryOf 0 9 6 80 .service .up).fig.ds ≤ (s.active.plan.a : Int) ∧
    -(s.active.plan.q : Int) ≤ min (s.toBlock.entryOf 0 9 6 80 .service .up).fig.dl 0 ∧
    u.TakesRequest 0 62 21 9 6 80 ∧ u.toBlock.BudgetOk ∧ u.toBlock.Admits 0 21 9 6 .service .up ∧
    (u.toBlock.entry? 0).isSome = true ∧ (u.toBlock.queueWith (u.toBlock.entryOf 0 9 6 80 .service .up)).length = 1 :=
  ⟨{ serving with settleTimer := some 5 }, { serving with queue := [{ entry with cls := 7 }] },
    ⟨⟨rfl, ⟨[], rfl⟩, by decide +kernel⟩, by decide, by decide, .inr (.inr rfl), rfl, rfl⟩, idle_budget _ rfl rfl,
    ⟨by decide +kernel, by decide +kernel, by decide +kernel, by decide +kernel⟩, by decide, ⟨rfl, by decide +kernel⟩, rfl,
    by decide +kernel, by decide +kernel, by decide +kernel,
    ⟨⟨rfl, ⟨[], rfl⟩, by decide +kernel⟩, by decide, by decide, .inr (.inr rfl), rfl, rfl⟩, queue_budget serving _ rfl,
    ⟨by decide +kernel, by decide +kernel, by decide +kernel, by decide +kernel⟩, by decide +kernel, by decide +kernel⟩

theorem witness_RequestIsGranted_repeat : ∃ (s : State) (c : Commitment), s.TakesRequest 0 62 21 9 0 80 ∧
    (s.toBlock.car 0).bound = some 21 ∧ (s.toBlock.car 0).state = .recalling ∧ s.toBlock.commitment? 0 = some c ∧
    c.phase = .granted ∧ c.tag = some 9 ∧ (s.toBlock.car 0).lastTag = some 9 ∧ c.grantTimer = some 0 :=
  ⟨holding (withCar (asking (heardIn (inPlan .recall) .recalling) (some (.recall 0)) 0 80)
      (fun c => { c with lastTag := some 9 })) { commitment .granted with tag := some 9 },
    { commitment .granted with tag := some 9 },
    ⟨⟨rfl, ⟨[], rfl⟩, by decide +kernel⟩, by decide, by decide, .inr (.inl rfl), rfl, rfl⟩, by decide +kernel⟩

theorem witness_CancelRemovesEntry : ∃ (s : State) (e : Entry), s.Takes .c (cancelFrame 62 21 0 9) .startCancel ∧
    s.toBlock.Settled ∧ (s.toBlock.car 0).bound = some 21 ∧ (s.toBlock.car 0).state ≠ .vacant ∧
    (s.toBlock.car 0).state ≠ .unheard ∧ s.toBlock.entry? 0 = some e ∧ e.tag = 9 :=
  ⟨onC { heardIn (inPlan .recall) .recallPending with queue := [entry] } (cancelFrame 62 21 0 9), entry,
    ⟨rfl, ⟨[], rfl⟩, by decide +kernel⟩, ⟨rfl, rfl⟩, by decide +kernel⟩

/-- Car 1's entry, and behind it one of car 2 that fits. -/
def queueOfTwo : List Entry := [entry, { entry with car := 1, tag := 4 }]

/-- A cancel of the first of two entries, with the slot free and while the settle timer runs: the pass behind it grants the second,
and no pass can be made. -/
theorem witness_CancelRemovesEntry_pass : ∃ s u : State, ∀ x ∈ [s, u], x.Takes .c (cancelFrame 62 21 0 9) .startCancel ∧
    x.toBlock.Settled ∧ (x.toBlock.car 0).bound = some 21 ∧ (x.toBlock.car 0).state = .recallPending ∧
    x.toBlock.entry? 0 = some entry ∧ x.toBlock.commitment? 0 = none ∧ (x.toBlock.car 0).resendTimer = none ∧
    (s.toBlock.withoutEntry 0).HeadFits { entry with car := 1, tag := 4 } [] ∧ (s.toBlock.withoutEntry 0).BudgetOk ∧
    s.settleTimer = none ∧ (s.toBlock.withoutEntry 0).roomBehind (s.cportBehind (s.refusal 21 0 9 16)) ∧
    (u.toBlock.withoutEntry 0).noPass (u.cportBehind (u.refusal 21 0 9 16)) ∧ (u.toBlock.withoutEntry 0).queue.length = 1 :=
  let s := onC { heardIn (inPlan .recall) .recallPending with queue := queueOfTwo } (cancelFrame 62 21 0 9)
  have budget : (s.toBlock.withoutEntry 0).BudgetOk := queue_budget s { entry with car := 1, tag := 4 } rfl
  have fits : (s.toBlock.withoutEntry 0).HeadFits { entry with car := 1, tag := 4 } [] :=
    ⟨by decide +kernel, .inl rfl, by decide +kernel, by decide +kernel, by decide +kernel⟩
  ⟨s, { s with settleTimer := some 5 }, by
    intro x hx
    simp only [List.mem_cons, List.not_mem_nil, or_false] at hx
    rcases hx with rfl | rfl <;>
      exact ⟨⟨rfl, ⟨[], rfl⟩, by decide +kernel⟩, ⟨rfl, rfl⟩, by decide +kernel, by decide +kernel, by decide +kernel,
        by decide +kernel, by decide +kernel, fits, budget, rfl, ⟨rfl, by decide +kernel⟩, .inr (.inr (.inl nofun)),
        by decide +kernel⟩⟩

theorem witness_CancelRemovesEntry_late : ∃ (s : State) (e : Entry), s.Takes .c (cancelFrame 62 21 0 8) .startCancel ∧
    s.toBlock.Settled ∧ (s.toBlock.car 0).bound = some 21 ∧ (s.toBlock.car 0).state ≠ .vacant ∧
    (s.toBlock.car 0).state ≠ .unheard ∧ s.toBlock.entry? 0 = some e ∧ e.tag ≠ 8 :=
  ⟨onC { heardIn (inPlan .recall) .recallPending with queue := [entry] } (cancelFrame 62 21 0 8), entry,
    ⟨rfl, ⟨[], rfl⟩, by decide +kernel⟩, ⟨rfl, rfl⟩, by decide +kernel⟩

/-- The cancel of a granted run, of one that runs, and of none. -/
theorem witness_CancelRemovesEntry_commitment : ∃ s u v : State, ∀ x ∈ [s, u, v],
    x.Takes .c (cancelFrame 62 21 0 7) .startCancel ∧ x.toBlock.Settled ∧ (x.toBlock.car 0).bound = some 21 ∧
    (x.toBlock.car 0).state = .recalling ∧ x.toBlock.entry? 0 = none ∧
    s.toBlock.commitment? 0 = some (commitment .granted) ∧ (commitment .granted).tag = some 7 ∧
    (s.toBlock.car 0).resendTimer = none ∧ u.toBlock.commitment? 0 = some (commitment .running) ∧
    v.toBlock.commitment? 0 = none :=
  let s := onC (heardIn (inPlan .recall) .recalling) (cancelFrame 62 21 0 7)
  ⟨holding s (commitment .granted), holding s (commitment .running), s, by
    intro x hx
    simp only [List.mem_cons, List.not_mem_nil, or_false] at hx
    rcases hx with rfl | rfl | rfl <;> exact ⟨⟨rfl, ⟨[], rfl⟩, by decide +kernel⟩, ⟨rfl, rfl⟩, by decide +kernel⟩⟩

theorem witness_CancelRemovesEntry_foreign : ∃ s : State, s.Takes .c (cancelFrame 62 22 0 9) .startCancel ∧
    s.toBlock.Settled ∧ (s.toBlock.car 0).bound ≠ some 22 ∧ (s.toBlock.car 0).state = .conflict :=
  ⟨onC (heardIn (inPlan .recall) .conflict) (cancelFrame 62 22 0 9), ⟨rfl, ⟨[], rfl⟩, by decide +kernel⟩, ⟨rfl, rfl⟩,
    by decide +kernel⟩

theorem witness_OrderIsResent : ∃ s : State, (s.toBlock.car 0).resendTimer.isSome = true ∧ s.toBlock.Settled ∧
    (s.toBlock.car 0).state = .recallPending ∧ s.toBlock.entry? 0 = none ∧ s.toBlock.commitment? 0 = none ∧
    (s.toBlock.car 0).order = some (.recall 0) :=
  ⟨withCar (heardIn (inPlan .recall) .recallPending) (fun c => { c with order := some (.recall 0), resendTimer := some 0 }),
    by decide +kernel, ⟨rfl, rfl⟩, by decide +kernel⟩

theorem witness_OrderIsResent_serve : ∃ s : State, (s.toBlock.car 0).resendTimer.isSome = true ∧ s.toBlock.Settled ∧
    (s.toBlock.car 0).state = .serving ∧ (s.toBlock.car 0).order = some .serve ∧ (s.toBlock.car 0).serveUnsent = true :=
  ⟨withCar (heardIn (inPlan .service) .serving)
      (fun c => { c with order := some .serve, resendTimer := some 0, serveUnsent := true }),
    by decide +kernel, ⟨rfl, rfl⟩, by decide +kernel⟩

/-- A selected-awaiting car with a slot. -/
def awaiting (x : Slot) : State :=
  withCar { heardIn (inPlan .service) .recallPending with manual := some [0] } (fun c => { c with slot := x })

theorem witness_DispatchOrderByCarState_passes : ∃ s : State, s.Takes .g (dispatchFrame 21 3 0 127) .dispatchOrder ∧
    s.OrderPasses 0 127 ∧ s.plan = .normal ∧ s.active.plan.relay.dispatchNormal = true ∧ s.cport.roomRelayed = true :=
  ⟨onG live (dispatchFrame 21 3 0 127), ⟨rfl, ⟨[], rfl⟩, by decide +kernel⟩,
    ⟨by decide, by decide +kernel, by decide +kernel, by decide +kernel⟩, by decide +kernel⟩

theorem witness_DispatchOrderByCarState_held : ∃ s : State, s.Takes .g (dispatchFrame 21 3 0 0) .dispatchOrder ∧
    s.OrderPasses 0 0 ∧ s.plan ≠ .normal ∧ (s.toBlock.car 0).state ≠ .serving ∧ s.toBlock.awaiting 0 = true ∧
    (s.toBlock.car 0).slot = .empty ∧ s.gport.takeHead.roomOwn = true :=
  ⟨onG (awaiting .empty) (dispatchFrame 21 3 0 0), ⟨rfl, ⟨[], rfl⟩, by decide +kernel⟩,
    ⟨by decide, by decide +kernel, by decide +kernel, by decide +kernel⟩, by decide +kernel⟩

theorem witness_DispatchOrderByCarState_replaced : ∃ s : State, s.Takes .g (dispatchFrame 21 3 0 4) .dispatchOrder ∧
    s.OrderPasses 0 4 ∧ s.plan ≠ .normal ∧ (s.toBlock.car 0).state ≠ .serving ∧ s.toBlock.awaiting 0 = true ∧
    (s.toBlock.car 0).slot = .holding (dispatchFrame 21 2 0 9) ∧ s.gport.takeHead.up = true ∧ s.gport.takeHead.ownCount + 1 < 8 :=
  ⟨onG (awaiting (.holding (dispatchFrame 21 2 0 9))) (dispatchFrame 21 3 0 4), ⟨rfl, ⟨[], rfl⟩, by decide +kernel⟩,
    ⟨by decide, by decide +kernel, by decide +kernel, by decide +kernel⟩, by decide +kernel⟩

theorem witness_DispatchOrderByCarState_dropped : ∃ s : State, s.Takes .g (dispatchFrame 21 3 0 128) .dispatchOrder ∧
    ¬ s.OrderPasses 0 128 ∧ s.gport.takeHead.roomOwn = true :=
  ⟨onG live (dispatchFrame 21 3 0 128), ⟨rfl, ⟨[], rfl⟩, by decide +kernel⟩, fun h => absurd h.1 (by decide), by decide +kernel⟩

/-- An order of node 63 for a car that holds one of node 63: neither notice is sent. -/
theorem witness_DispatchOrderByCarState_broadcast : ∃ s : State, s.Takes .g (dispatchFrame 21 63 0 4) .dispatchOrder ∧
    s.OrderPasses 0 4 ∧ s.toBlock.awaiting 0 = true ∧ (s.toBlock.car 0).slot = .holding (dispatchFrame 21 63 0 9) ∧
    (after .dispatchOrder s).gport.tx = [] :=
  ⟨onG (awaiting (.holding (dispatchFrame 21 63 0 9))) (dispatchFrame 21 63 0 4), ⟨rfl, ⟨[], rfl⟩, by decide +kernel⟩,
    ⟨by decide, by decide +kernel, by decide +kernel, by decide +kernel⟩, by decide +kernel⟩

/-- A forwarded order and a notice without room: the C-port is in FAULT, and then the G-port. -/
theorem witness_DispatchOrderByCarState_full : ∃ s u : State, s.Takes .g (dispatchFrame 21 3 0 4) .dispatchOrder ∧
    s.OrderPasses 0 4 ∧ s.plan = .normal ∧ s.active.plan.relay.dispatchNormal = true ∧ s.cport.roomRelayed = false ∧
    u.Takes .g (dispatchFrame 21 3 0 128) .dispatchOrder ∧ ¬ u.OrderPasses 0 128 ∧ u.gport.takeHead.roomOwn = false :=
  ⟨onG { live with cport := { live.cport with up := false } } (dispatchFrame 21 3 0 4),
    onG { live with gport := { live.gport with up := false } } (dispatchFrame 21 3 0 128), ⟨rfl, ⟨[], rfl⟩, by decide +kernel⟩,
    ⟨by decide, by decide +kernel, by decide +kernel, by decide +kernel⟩, rfl, by decide +kernel, by decide +kernel,
    ⟨rfl, ⟨[], rfl⟩, by decide +kernel⟩, fun h => absurd h.1 (by decide), by decide +kernel⟩

/-- Check 1 of R138 at the car numbers next to its range. -/
theorem witness_DispatchOrderByCarState_unnamed : ∀ car ∈ [(0 : Byte), 17], (car.toNat = 0 ∨ 16 < car.toNat) ∧
    (onG live { dst := 21, src := 3, kind := 16, payload := [car, 4] }).Takes .g
      { dst := 21, src := 3, kind := 16, payload := [car, 4] } .dispatchOrder := by
  intro car h
  simp only [List.mem_cons, List.not_mem_nil, or_false] at h
  rcases h with rfl | rfl <;> exact ⟨by decide, rfl, ⟨[], rfl⟩, by decide +kernel⟩

theorem witness_RelayedFramePasses_report : ∃ s : State,
    s.Takes .c (reportFrame 63 21 0 5 0 0 1 0 80 0 0 1) .carReport ∧ s.HearsReport 0 21 ∧
    (s.toBlock.car 0).bound = some (21 : Byte).toNat ∧ s.active.plan.relay.reportEmergency = true ∧ s.plan = .service ∧
    s.toBlock.barred (21 : Byte).toNat = false ∧ (s.toBlock.conf 0).relay = .forward ∧ s.gport.roomRelayed = true :=
  ⟨onC (heardIn (inPlan .service) .serving) (reportFrame 63 21 0 5 0 0 1 0 80 0 0 1), ⟨rfl, ⟨[], rfl⟩, by decide +kernel⟩,
    ⟨by decide, by decide, .inr (by decide +kernel), by decide +kernel⟩, by decide +kernel⟩

theorem witness_RelayedFramePasses_other : ∃ (s : State) (f : Frame), s.Takes .g f .other ∧ s.cport.roomRelayed = true :=
  ⟨onG live { dst := 5, src := 3, kind := 99, payload := [] }, _, ⟨rfl, ⟨[], rfl⟩, by decide +kernel⟩, by decide +kernel⟩

theorem witness_RelayedFramePasses_management : ∃ (s : State) (f : Frame), s.Takes .c f .management ∧
    s.gport.roomRelayed = false :=
  ⟨onC { live with gport := { live.gport with up := false } } { dst := 5, src := 3, kind := 33, payload := [1] }, _,
    ⟨rfl, ⟨[], rfl⟩, by decide +kernel⟩, by decide +kernel⟩

theorem witness_RelayedFramePasses_discard : ∃ (s : State) (f : Frame), s.Takes .g f .discard :=
  ⟨onG live { dst := 64, src := 3, kind := 33, payload := [] }, _, ⟨rfl, ⟨[], rfl⟩, by decide +kernel⟩⟩

/-- A frame with the longest payload. -/
def longest : Frame := { dst := 62, src := 30, kind := 32, payload := List.replicate 32 7 }

theorem witness_GoodFrameIsWireForm : longest.payload.length ≤ 32 ∧ judgeFrame longest.wire = .good longest := by decide +kernel

theorem witness_FramesAreReceived_first : ∃ s : State, (s.toBlock.port .c).up = true ∧ (s.toBlock.port .c).sending = false ∧
    (s.toBlock.port .c).assembly = .empty := ⟨live, rfl, rfl, rfl⟩

theorem witness_FramesAreReceived_good : ∃ s : State, (s.toBlock.port .c).assembly = .building [62] ∧
    62 :: longest.wire.tail = longest.wire ∧ (s.toBlock.port .c).rx.length < 16 ∧ (s.toBlock.port .c).rx.length = 15 :=
  ⟨{ live with cport := { live.cport with assembly := .building [62], rx := List.replicate 15 longest } }, by decide +kernel⟩

theorem witness_FramesAreReceived_full : ∃ s : State, (s.toBlock.port .c).assembly = .building [62] ∧
    16 ≤ (s.toBlock.port .c).rx.length :=
  ⟨{ live with cport := { live.cport with assembly := .building [62], rx := List.replicate 16 longest } }, by decide +kernel⟩

/-- Each kind at the edge of its condition: three bytes, length field 33, one byte short, one byte over, a wrong check. -/
theorem witness_FramesAreReceived_bad : judgeFrame [62, 30, 32] = .discarded .truncated ∧
    judgeFrame (62 :: [30, 32, 33, 0, 0]) = .discarded .length ∧
    judgeFrame longest.wire.dropLast = .discarded .truncated ∧ judgeFrame (longest.wire ++ [0]) = .discarded .length ∧
    judgeFrame (longest.wire.dropLast ++ [0]) = .discarded .check := by decide +kernel

theorem witness_FramesAreReceived_none : ∃ s : State, (s.toBlock.port .g).up = true ∧ (s.toBlock.port .g).sending = true :=
  ⟨{ live with gport := { live.gport with tx := [ownItem longest], sending := true } }, rfl, rfl⟩

theorem witness_FramesAreReceived_next : ∃ s : State, (s.toBlock.port .c).assembly = .waiting longest ∧
    (s.toBlock.port .c).up = true ∧ (s.toBlock.port .c).sending = false ∧ (s.toBlock.port .c).Ok :=
  ⟨{ live with cport := { live.cport with
      assembly := .waiting longest, rx := List.replicate 16 longest, holdOut := true } }, rfl, rfl, rfl,
    ⟨by decide +kernel, fun _ _ => by decide +kernel, by decide +kernel, by decide +kernel, by decide +kernel, by decide +kernel,
      by decide +kernel, by decide +kernel⟩⟩

theorem witness_FramesAreSent_begins : ∃ s : State, s.gport.up = true ∧ s.gport.holdIn = false ∧ s.gport.sending = false ∧
    (∀ l, s.gport.assembly ≠ .building l) ∧ s.gport.tx ≠ [] :=
  ⟨{ live with gport := { live.gport with tx := [ownItem longest] } }, rfl, rfl, rfl, fun _ => by simp [live, State.reset,
    Block.afterReset, Port.reset], by decide +kernel⟩

theorem witness_FramesAreSent_waits : ∃ s : State, s.gport.holdIn = true :=
  ⟨{ live with gport := { live.gport with holdIn := true } }, rfl⟩

theorem witness_FramesAreSent_sent : ∃ s : State, s.cport.sending = true ∧ s.cport.tx = [relayedItem longest] :=
  ⟨{ live with cport := { live.cport with tx := [relayedItem longest], sending := true } }, rfl, rfl⟩

theorem witness_FramesAreSent_own : ∃ s : State, s.cport.sending = true ∧ s.cport.tx = [ownItem longest] ∧ s.toBlock.Settled :=
  ⟨{ live with cport := { live.cport with tx := [ownItem longest], sending := true } }, rfl, rfl, rfl, rfl⟩

theorem witness_FramesAreSent_grants : ∃ s : State, s.cport.sending = true ∧ s.cport.tx = [ownItem longest] ∧
    s.toBlock.Settled ∧ s.toBlock.HeadFits entry [] ∧ s.toBlock.BudgetOk ∧ s.settleTimer = none ∧ s.cport.up = true ∧
    s.cport.ownCount ≤ 8 :=
  ⟨{ heardIn { inPlan .recall with cport := { live.cport with tx := [ownItem longest], sending := true } } .recallPending with
      queue := [entry] }, rfl, rfl, ⟨rfl, rfl⟩, ⟨rfl, .inl rfl, rfl, by decide +kernel, by decide +kernel⟩,
    queue_budget (heardIn { inPlan .recall with cport := { live.cport with tx := [ownItem longest], sending := true } }
      .recallPending) _ rfl, rfl, rfl, by decide +kernel⟩

theorem witness_LineFaultAndRecovery_grants : ∃ s : State, s.cport.up = false ∧ s.toBlock.Settled ∧
    s.toBlock.HeadFits entry [] ∧ s.toBlock.BudgetOk ∧ s.settleTimer = none ∧ s.cport.ownCount < 8 :=
  ⟨{ heardIn { inPlan .recall with cport := { live.cport with up := false } } .recallPending with queue := [entry] }, rfl,
    ⟨rfl, rfl⟩, ⟨rfl, .inl rfl, rfl, by decide +kernel, by decide +kernel⟩,
    queue_budget (heardIn { inPlan .recall with cport := { live.cport with up := false } } .recallPending) _ rfl, rfl,
    by decide +kernel⟩

theorem witness_LineFaultAndRecovery : live.gport.up = true ∧ (∀ x ∈ live.gport.tx, x.restart = false) ∧ live.cport.up = true ∧
    live.loaded = true ∧ live.gport.roomOwn = true ∧ live.toBlock.Settled :=
  ⟨rfl, by decide +kernel, rfl, rfl, rfl, rfl, rfl⟩

theorem witness_LineFaultAndRecovery_serve : servedUnsent.cport.up = true ∧ servedUnsent.toBlock.Settled ∧
    (servedUnsent.toBlock.car 0).state = .serving ∧ (servedUnsent.toBlock.car 0).resendTimer = none ∧
    (servedUnsent.toBlock.car 0).order = some .serve ∧ servedUnsent.toBlock.orderItem 0 ∈ servedUnsent.cport.tx :=
  ⟨rfl, ⟨rfl, rfl⟩, by decide +kernel⟩

theorem witness_LineFaultAndRecovery_down : ∃ s : State, s.gport.up = false ∧ s.cport.up = false ∧ s.toBlock.Settled :=
  ⟨{ live with gport := { live.gport with up := false }, cport := { live.cport with up := false } }, rfl, rfl, rfl, rfl⟩

theorem witness_SingleRecordReads : live.Ready 40 ∧ live.queue = [] := ⟨live_ready, rfl⟩

/-- From car 16, and from car 1 with the largest count. -/
theorem witness_ListReads : live.loaded = true ∧ live.mgmt.storeAnswer = [] ∧ 1 ≤ (16 : Byte).toNat ∧ (16 : Byte).toNat ≤ 16 ∧
    ({ live with queue := [entry] } : State).queue ≠ [] ∧ (holding live (commitment .granted)).commitments ≠ [] := by
  decide +kernel

/-- An order with a landing and a tag that is there; a start car and a count that name none. -/
theorem witness_ListReads_given : ∃ s : State, s.loaded = true ∧ s.mgmt.storeAnswer = [] ∧
    (s.toBlock.car 0).order = some (.divert 127) ∧ (commitment .granted).tag = some 7 ∧ live.Ready 40 ∧
    live.commitments = [] ∧ 16 < (17 : Byte).toNat ∧ (0 : Byte).toNat < 1 :=
  ⟨withCar live (fun c => { c with order := some (.divert 127) }), by decide +kernel, by decide +kernel, by decide +kernel, rfl,
    live_ready, rfl, by decide, by decide⟩

theorem witness_WriteCarsWritesPending : ∃ s : State, s.Ready 40 ∧ s.Allowed .commission ∧
    (∃ r c, CarConf.decode r = some c ∧ c.valid s.pendingTable.plan.ownNode = true) ∧
    (∃ r c, CarConf.decode r = some c ∧ c.valid s.pendingTable.plan.ownNode = false) :=
  ⟨atLevel live .commission, live_ready, allowed_at _ _, ⟨conf3.encode, conf3, by decide +kernel⟩,
    ⟨({ conf3 with pm := 0 } : CarConf).encode, { conf3 with pm := 0 }, by decide +kernel⟩⟩

/-- Car 16 alone, and one record too far. -/
theorem witness_WriteCarsStopsAtInvalid : (∀ r ∈ [conf3.encode], ∃ c, CarConf.decode r = some c ∧
    c.valid table.plan.ownNode = true) ∧ 16 + [conf3.encode].length ≤ 17 :=
  ⟨fun r h => ⟨conf3, by rw [List.mem_singleton.mp h]; decide +kernel⟩, by decide +kernel⟩

/-- Cars 15 and 16, the second record invalid. -/
theorem witness_WriteCarsStopsAtInvalid_command : ∃ (s : State) (records : List (List Byte)), s.Ready 40 ∧ s.Allowed .commission ∧
    (∀ r ∈ records, r.length = 12) ∧ 1 ≤ records.length ∧ 15 + records.length = 17 ∧
    (s.pendingTable.writeCars 15 records).2 = some (16, 1) :=
  ⟨atLevel live .commission, [conf5.encode, ({ conf3 with pm := 0 } : CarConf).encode], live_ready, allowed_at _ _,
    by decide +kernel⟩

theorem witness_WritePlanAndDiscard : ∃ s : State, s.Ready 40 ∧ s.Allowed .commission ∧
    (∃ r p m, PlanRecord.decode r = some (p, m) ∧ (p.checks m (s.pendingTable.claims p.ownNode)).all id = true) ∧
    (∃ r p m, PlanRecord.decode r = some (p, m) ∧ (p.checks m (s.pendingTable.claims p.ownNode))[20]? = some false ∧
      ((p.checks m (s.pendingTable.claims p.ownNode)).take 20).all id = true) :=
  ⟨atLevel live .commission, live_ready, allowed_at _ _, ⟨table.plan.encode, table.plan, 0, by decide +kernel⟩,
    ⟨table.plan.encode.dropLast ++ [2], table.plan, 2, by decide +kernel⟩⟩

theorem witness_CommitReplacesTables : ∃ s : State, s.loaded = true ∧ s.Allowed .commission ∧ s.plan = .normal ∧
    s.mgmt.storeOp = .idle ∧ s.toBlock.Settled ∧ (s.toBlock.conf 0).present = true ∧
    (s.pendingTable.cars.get 0).present = false :=
  ⟨atLevel { live with pendingTable := Table.default } .commission, rfl, allowed_at _ _, rfl, rfl, ⟨rfl, rfl⟩, by decide +kernel⟩

/-- Four cars that stay present: one becomes DISABLED, one leaves it, one is bound otherwise, one changes its class. -/
theorem witness_CommitReplacesTables_lines : ∃ s : State, s.loaded = true ∧ s.Allowed .commission ∧ s.plan = .normal ∧
    s.mgmt.storeOp = .idle ∧ s.toBlock.Settled ∧
    ((s.toBlock.conf 0).relay ≠ .disabled ∧ (s.pendingTable.cars.get 0).relay = .disabled) ∧
    ((s.toBlock.conf 1).relay = .disabled ∧ (s.pendingTable.cars.get 1).relay ≠ .disabled ∧
      (s.toBlock.conf 1).bind = (s.pendingTable.cars.get 1).bind) ∧
    (s.toBlock.conf 2).bind ≠ (s.pendingTable.cars.get 2).bind ∧
    ((s.toBlock.conf 3).cls ≠ (s.pendingTable.cars.get 3).cls ∧ (s.toBlock.conf 3).bind = (s.pendingTable.cars.get 3).bind ∧
      (s.toBlock.conf 3).relay = (s.pendingTable.cars.get 3).relay ∧ (s.pendingTable.cars.get 3).present = true) :=
  ⟨atLevel { live with
      active := { table with cars := table.cars.set 1 { conf3 with relay := .disabled } }
      pendingTable := { table with cars := ((table.cars.set 0 { conf3 with relay := .disabled }).set 2
        { conf3 with bind := .assigned }).set 3 { conf3 with cls := 7 } } } .commission,
    rfl, allowed_at _ _, rfl, rfl, ⟨rfl, rfl⟩, by decide +kernel⟩

theorem witness_SelectSetsSelection : ∃ s : State, s.Ready 40 ∧ s.Allowed .maintenance ∧ s.toBlock.Settled ∧
    allCars.Nodup ∧ allCars.length ≤ 16 ∧ carIx? (17 : Byte).toNat = none ∧ carIx? (0 : Byte).toNat = none :=
  ⟨atLevel live .maintenance, live_ready, allowed_at _ _, ⟨rfl, rfl⟩, by decide +kernel⟩

theorem witness_SelectSetsSelection_service : ∃ s : State, s.Ready 40 ∧ s.Allowed .maintenance ∧ s.toBlock.Settled ∧
    s.plan = .service ∧ s.toBlock.BudgetOk ∧ (s.toBlock.car 0).state = .parked :=
  ⟨atLevel (heardIn (inPlan .service) .parked) .maintenance, ⟨rfl, by decide, rfl, rfl⟩, allowed_at _ _, ⟨rfl, rfl⟩, rfl,
    idle_budget _ rfl rfl, by decide +kernel⟩

theorem witness_RetryCarRestarts : ∃ s : State, s.loaded = true ∧ s.Allowed .maintenance ∧ s.toBlock.Settled ∧
    (s.toBlock.car 0).state = .failed ∧ s.toBlock.entry? 0 = none ∧ (s.toBlock.car 0).learned.heard = true ∧
    s.plan.emergency = true ∧ (s.toBlock.car 1).state ≠ .failed :=
  ⟨atLevel (heardIn (inPlan .recall) .failed) .maintenance, rfl, allowed_at _ _, ⟨rfl, rfl⟩, by decide +kernel⟩

/-- A FIRST_HEARD car and an ASSIGNED one in CONFLICT. -/
theorem witness_RetryCarRestarts_conflict : ∃ s u : State, ∀ x ∈ [s, u], x.loaded = true ∧ x.Allowed .maintenance ∧
    x.toBlock.Settled ∧ (x.toBlock.car 0).state = .conflict ∧ x.toBlock.entry? 0 = none ∧ x.mgmt.storeAnswer = [] ∧
    (s.toBlock.conf 0).bind = .firstHeard ∧ (u.toBlock.conf 0).bind = .assigned ∧ (u.toBlock.conf 0).present = true :=
  ⟨atLevel (heardIn (inPlan .recall) .conflict) .maintenance,
    atLevel (heardIn { inPlan .recall with
      active := { table with cars := Vector.replicate 16 { conf3 with bind := .assigned } } } .conflict) .maintenance, by
    intro x hx
    simp only [List.mem_cons, List.not_mem_nil, or_false] at hx
    rcases hx with rfl | rfl <;> exact ⟨rfl, allowed_at _ _, ⟨rfl, rfl⟩, by decide +kernel⟩⟩

/-- In SERVICE a car retried at its recall landing with its door open parks, and is selected. -/
theorem witness_RetryCarRestarts_parks : ∃ s : State, s.loaded = true ∧ s.Allowed .maintenance ∧ s.toBlock.Settled ∧
    s.plan = .service ∧ s.toBlock.BudgetOk ∧ (s.toBlock.car 0).state = .failed ∧ s.toBlock.entry? 0 = none ∧
    ((after (.retryCar 40 1) s).toBlock.car 0).state = .serving :=
  ⟨atLevel (withCar (heardIn (inPlan .service) .failed)
      (fun c => { c with learned := { c.learned with landing := 0, door := .opened } })) .maintenance, rfl, allowed_at _ _,
    ⟨rfl, rfl⟩, rfl, idle_budget _ rfl rfl, by decide +kernel⟩

theorem witness_RestartIsAnsweredFirst : ∃ s : State, s.Allowed .maintenance ∧ s.Ready 40 :=
  ⟨atLevel live .maintenance, allowed_at _ _, live_ready⟩

theorem witness_RestartIsAnsweredFirst_sent : ∃ s : State, s.gport.sending = true ∧ s.gport.up = true ∧
    s.gport.tx = [{ ownItem longest with restart := true }] :=
  ⟨{ live with gport := { live.gport with tx := [{ ownItem longest with restart := true }], sending := true } }, rfl, rfl, rfl⟩

theorem witness_ChecksTurnRequestsAway : live.Ready 40 ∧ live.mgmt.level = .opened ∧
    (atLevel (inPlan .recall) .commission).Ready 40 := ⟨live_ready, rfl, rfl, by decide, rfl, rfl⟩

theorem witness_ChecksTurnRequestsAway_busy : ∃ s : State, s.Ready 40 ∧ s.mgmt.level = .commission ∧ s.plan = .normal ∧
    s.mgmt.storeOp ≠ .idle :=
  ⟨{ live with mgmt := { live.mgmt with level := .commission, storeOp := .erasing 3 } }, ⟨rfl, by decide, rfl, rfl⟩, rfl, rfl,
    by decide +kernel⟩

theorem witness_UnlockAndLock : live.Ready 40 ∧ live.mgmt.keyCounter ≠ 0 := ⟨live_ready, by decide +kernel⟩

theorem witness_UnlockAndLock_lockout : ∃ s : State, s.Ready 40 ∧ s.mgmt.keyCounter = 0 ∧ s.mgmt.idleTimer.isSome = true :=
  ⟨{ live with mgmt := { live.mgmt with keyCounter := 0, idleTimer := some 0 } }, ⟨rfl, by decide, rfl, rfl⟩, rfl, rfl⟩

theorem witness_KeysFreezeAndPrepare : ∃ s : State, s.Ready 40 ∧ s.Allowed .commission ∧ s.mgmt.frozen = false ∧
    s.plan = .normal ∧ s.mgmt.storeOp = .idle := ⟨atLevel live .commission, live_ready, allowed_at _ _, rfl, rfl, rfl⟩

theorem witness_KeysFreezeAndPrepare_frozen : ∃ s : State, s.Ready 40 ∧ s.Allowed .commission ∧ s.mgmt.frozen = true :=
  ⟨atLevel { live with mgmt := { live.mgmt with frozen := true } } .commission, ⟨rfl, by decide, rfl, rfl⟩, allowed_at _ _, rfl⟩

theorem witness_WipeAndStoreCompletions : ∃ s : State, s.loaded = true ∧ s.Allowed .commission ∧ s.mgmt.frozen = false ∧
    s.plan = .normal ∧ s.mgmt.storeOp = .idle ∧ s.mgmt.prepare = true :=
  ⟨atLevel { live with mgmt := { live.mgmt with prepare := true } } .commission, rfl, allowed_at _ _, rfl, rfl, rfl, rfl⟩

theorem witness_WipeAndStoreCompletions_ends : ∃ s : State, s.mgmt.storeOp = .writing [1] 40 ∧ s.mgmt.storeAnswer = [] ∧
    s.mgmt.response = [] := ⟨{ live with mgmt := { live.mgmt with storeOp := .writing [1] 40 } }, rfl, rfl, rfl⟩

theorem witness_RequestPartsAssemble_first : ∃ s : State, s.Takes .g (requestPartFrame 62 40 1 [24, 2]) .requestPart :=
  ⟨onG live (requestPartFrame 62 40 1 [24, 2]), rfl, ⟨[], rfl⟩, by decide +kernel⟩

/-- The largest part number, and a buffer that the part fills. -/
theorem witness_RequestPartsAssemble_next : ∃ s : State,
    s.Takes .g (requestPartFrame 62 40 127 (List.replicate 31 1)) .requestPart ∧
    s.mgmt.request = some { node := 40, next := 127, data := List.replicate 217 1 } :=
  ⟨onG { live with mgmt := { live.mgmt with request := some { node := 40, next := 127, data := List.replicate 217 1 } } }
    (requestPartFrame 62 40 127 (List.replicate 31 1)), ⟨rfl, ⟨[], rfl⟩, by decide +kernel⟩, rfl⟩

theorem witness_RequestPartsAssemble_wrong : ∃ s : State, s.Takes .g (requestPartFrame 62 40 3 [1]) .requestPart ∧
    s.mgmt.request = some { node := 40, next := 2, data := [24] } ∧ s.mgmt.storeAnswer = [] ∧ s.mgmt.response = [] ∧
    s.gport.takeHead.roomOwn = true :=
  ⟨onG { live with mgmt := { live.mgmt with request := some { node := 40, next := 2, data := [24] } } }
    (requestPartFrame 62 40 3 [1]), ⟨rfl, ⟨[], rfl⟩, by decide +kernel⟩, rfl, rfl, rfl, by decide +kernel⟩

/-- A part that would overflow the buffer by one byte. -/
theorem witness_RequestPartsAssemble_overflow : ∃ s : State,
    s.Takes .g (requestPartFrame 62 40 9 (List.replicate 31 1)) .requestPart ∧
    s.mgmt.request = some { node := 40, next := 9, data := List.replicate 218 1 } ∧ s.mgmt.storeAnswer = [] ∧
    s.mgmt.response = [] ∧ s.gport.takeHead.roomOwn = true :=
  ⟨onG { live with mgmt := { live.mgmt with request := some { node := 40, next := 9, data := List.replicate 218 1 } } }
    (requestPartFrame 62 40 9 (List.replicate 31 1)), ⟨rfl, ⟨[], rfl⟩, by decide +kernel⟩, rfl, rfl, rfl, by decide +kernel⟩

theorem witness_RequestPartsAssemble_stray : ∃ s : State, s.Takes .g (requestPartFrame 62 40 2 [1]) .requestPart ∧
    s.mgmt.request = none := ⟨onG live (requestPartFrame 62 40 2 [1]), ⟨rfl, ⟨[], rfl⟩, by decide +kernel⟩, rfl⟩

theorem witness_RequestPartsAssemble_bare : ∃ s : State,
    s.Takes .g { dst := 62, src := 40, kind := 32, payload := [] } .requestPart :=
  ⟨onG live { dst := 62, src := 40, kind := 32, payload := [] }, rfl, ⟨[], rfl⟩, by decide +kernel⟩

theorem witness_RequestPartsAssemble_whole : ∃ s : State, s.Takes .g (requestPartFrame 62 40 129 [1]) .requestPart ∧
    (Instr.readPlan 40).requestData = some (40, [] ++ [1]) :=
  ⟨onG live (requestPartFrame 62 40 129 [1]), ⟨rfl, ⟨[], rfl⟩, by decide +kernel⟩, rfl⟩

/-- The key of an UNLOCK comes in a second, last part. -/
theorem witness_RequestPartsAssemble_last : ∃ s : State, s.Takes .g (requestPartFrame 62 40 130 [0, 0, 0, 5]) .requestPart ∧
    s.mgmt.request = some { node := 40, next := (130 : Byte).toNat - 128, data := [24, 2] } ∧
    (Instr.unlock 40 2 5).requestData = some (40, [24, 2] ++ [0, 0, 0, 5]) :=
  ⟨onG { live with mgmt := { live.mgmt with request := some { node := 40, next := 2, data := [24, 2] } } }
    (requestPartFrame 62 40 130 [0, 0, 0, 5]), ⟨rfl, ⟨[], rfl⟩, by decide +kernel⟩, rfl, rfl⟩

/-- No command has request kind 30. -/
theorem witness_RequestPartsAssemble_unknown : ∃ s : State, s.Takes .g (requestPartFrame 62 40 129 [30]) .requestPart ∧
    (∀ c : Instr, c.requestData ≠ some (40, [] ++ [30])) ∧ s.mgmt.storeAnswer = [] ∧ s.gport.takeHead.roomOwn = true :=
  ⟨onG live (requestPartFrame 62 40 129 [30]), ⟨rfl, ⟨[], rfl⟩, by decide +kernel⟩,
    fun c => by cases c <;> simp [Instr.requestData], rfl, by decide +kernel⟩

theorem witness_WaitingPartsArePlaced : ∃ s : State, s.mgmt.storeAnswer = [longest] ∧ s.gport.roomOwn = true :=
  ⟨{ live with mgmt := { live.mgmt with storeAnswer := [longest] } }, rfl, rfl⟩

theorem witness_WaitingPartsArePlaced_response : ∃ s : State, s.mgmt.storeAnswer = [] ∧ s.mgmt.response = [longest] ∧
    s.gport.roomOwn = true := ⟨{ live with mgmt := { live.mgmt with response := [longest] } }, rfl, rfl, rfl⟩

theorem witness_WaitingPartsArePlaced_full : ∃ s : State, s.gport.roomOwn = false :=
  ⟨{ live with gport := { live.gport with tx := List.replicate 8 (ownItem longest) } }, by decide +kernel⟩

theorem witness_EveryStepKeepsPorts : live.toBlock.PortsOk ∧ ∃ t, step live = .next t :=
  ⟨⟨⟨by decide +kernel, fun _ h => by simp [live, State.reset, Block.afterReset, Port.reset] at h, by decide +kernel,
      by decide +kernel, by decide +kernel, by decide +kernel, by decide +kernel, by decide +kernel⟩,
    ⟨by decide +kernel, fun _ h => by simp [live, State.reset, Block.afterReset, Port.reset] at h, by decide +kernel,
      by decide +kernel, by decide +kernel, by decide +kernel, by decide +kernel, by decide +kernel⟩⟩, _, rfl⟩

theorem witness_EveryStepKeepsBudget : ∃ s t : State, s.toBlock.BudgetOk ∧ s.toBlock.Settled ∧ s.commitments ≠ [] ∧
    step s = .next t := ⟨holding live (commitment .granted), _, holding_budget _ _ rfl, ⟨rfl, rfl⟩, by decide +kernel, rfl⟩

theorem witness_KeyCounterOnlyFalls : ∃ (c : Instr) (s t : State), c ≠ .powerOnReset ∧ c ≠ .resetN ∧ exec c s = .next t ∧
    s.mgmt.frozen = true :=
  ⟨.freeze 40, { live with mgmt := { live.mgmt with frozen := true } }, _, by decide, by decide, rfl, rfl⟩

end Sys2Proof.Tests
end

section
/-! The after-reset state (R1, R152) and the part's own clock (assumption 3). -/

namespace Sys2Proof.Machine

/-! ### Reset -/

/-- A port after a reset is in order (R146 to R150, R152). -/
theorem Port.reset_ok (holdIn : Bool) : (Port.reset holdIn).Ok where
  fifo := by simp [Port.reset]
  waiting _ h := by simp [Port.reset] at h
  own := by simp [Port.reset, Port.ownCount]
  relayed := by simp [Port.reset, Port.relayedCount]
  fault h := by simp [Port.reset] at h
  sending h := by simp [Port.reset] at h
  holdHigh h := by simp [Port.reset, Port.held, Config.holdOffHigh] at h
  holdLow _ := rfl

/-- Every car of the after-reset state has the after-reset record (R23, R91, R105, R124, R140). -/
@[simp] theorem Block.car_afterReset (x g d gh ch : Bool) (m : Mgmt) (n : Nat) (i : CarIx) :
    (Block.afterReset x g d gh ch m n).car i = Car.reset := by
  simp [Block.car, Block.afterReset, Vector.get_eq_getElem]

@[simp] theorem Block.car_resetWith (b : Block) (m : Mgmt) (i : CarIx) : (b.resetWith m).car i = Car.reset :=
  Block.car_afterReset ..

theorem mem_allCars (i : CarIx) : i ∈ allCars := by revert i; decide

/-- A block with no car that holds recall open has no recall work (R11). -/
theorem Block.recallWork_eq_zero_iff (b : Block) : b.recallWork = 0 ↔ ∀ i, (b.car i).state.holdsRecall = false := by
  simp [Block.recallWork, List.filter_eq_nil_iff, mem_allCars]

/-- The image that a reset leaves loads as before, or not at all where a store operation ran (R160, R163). -/
theorem Mgmt.load_imageAfterReset (m : Mgmt) : m.imageAfterReset.load = if m.busy then none else m.image.load := by
  unfold Mgmt.imageAfterReset
  split <;> rfl

/-- Every reset puts each block back, whatever it makes of the key attempt counter and the freeze (R1). -/
theorem Block.resetWith_isReset (b : Block) (counter : Nat) (frozen : Bool) :
    b.IsReset (b.resetWith { Mgmt.reset b.mgmt.imageAfterReset with keyCounter := counter, frozen := frozen }) where
  plan := rfl
  xfer := rfl
  gen := rfl
  derate := rfl
  timers := ⟨rfl, rfl, rfl, rfl⟩
  settled := rfl
  loading := rfl
  learned i := by rw [Block.car_resetWith]; rfl
  nodes := ⟨fun i => by rw [Block.car_resetWith]; rfl, fun n => by simp [Block.barred, Car.reset]⟩
  record i := by rw [Block.car_resetWith]; exact ⟨rfl, rfl, rfl, rfl, rfl, rfl, rfl⟩
  protocol i := by rw [Block.car_resetWith]; exact ⟨rfl, rfl, rfl⟩
  budget := ⟨rfl, rfl, rfl⟩
  manual := rfl
  gport := rfl
  cport := rfl
  mgmt := ⟨rfl, rfl, rfl, rfl, rfl, rfl, rfl⟩
  image := b.mgmt.load_imageAfterReset
  outputs := ⟨rfl, rfl⟩

theorem Block.hardReset_isReset (b : Block) : b.IsReset b.hardReset := b.resetWith_isReset Config.keyAttempts false

/-! ### Line samples (R2) -/

/-- The event of one line stands among the line events exactly when two samples agree against the taken level (R2). -/
theorem Line.changes_iff (l : Line) (v : Bool) :
    (l.changes = true ∧ l.pin = v) ↔ (l.last = some v ∧ l.pin = v ∧ l.taken = !v) := by
  obtain ⟨pin, last, taken⟩ := l
  constructor
  · rintro ⟨h, rfl⟩
    simp only [Line.changes, Bool.and_eq_true, decide_eq_true_eq] at h
    exact ⟨h.1, rfl, by cases pin <;> simp_all⟩
  · rintro ⟨hl, hp, ht⟩
    simp_all [Line.changes]

/-- The line events of a sample: one for each line that changes, by the level at its pin (R2). -/
theorem Block.mem_lineEvents (b : Block) (d : Instr) : d ∈ b.lineEvents ↔
    (b.xfer.changes = true ∧ d = if b.xfer.pin then .xferEmergTakenAsserted else .xferEmergTakenNegated) ∨
    (b.gen.changes = true ∧ d = if b.gen.pin then .genReadyTakenAsserted else .genReadyTakenNegated) ∨
    (b.derate.changes = true ∧ d = .genDerateTaken b.derate.pin) := by
  have one : ∀ (p : Bool) (c : Instr), d ∈ (if p then [c] else []) ↔ p = true ∧ d = c := fun p c => by cases p <;> simp
  simp only [Block.lineEvents, List.mem_append, one, or_assoc]

/-- The line events of XFER_EMERG (R2). -/
theorem Block.mem_lineEvents_xfer (b : Block) :
    (Instr.xferEmergTakenAsserted ∈ b.lineEvents ↔ b.xfer.changes = true ∧ b.xfer.pin = true) ∧
    (Instr.xferEmergTakenNegated ∈ b.lineEvents ↔ b.xfer.changes = true ∧ b.xfer.pin = false) := by
  rw [b.mem_lineEvents, b.mem_lineEvents]
  cases b.xfer.pin <;> cases b.gen.pin <;> simp

/-- The line events of GEN_READY (R2). -/
theorem Block.mem_lineEvents_gen (b : Block) :
    (Instr.genReadyTakenAsserted ∈ b.lineEvents ↔ b.gen.changes = true ∧ b.gen.pin = true) ∧
    (Instr.genReadyTakenNegated ∈ b.lineEvents ↔ b.gen.changes = true ∧ b.gen.pin = false) := by
  rw [b.mem_lineEvents, b.mem_lineEvents]
  cases b.xfer.pin <;> cases b.gen.pin <;> simp

/-- The line events of GEN_DERATE (R2). -/
theorem Block.mem_lineEvents_derate (b : Block) (v : Bool) :
    Instr.genDerateTaken v ∈ b.lineEvents ↔ b.derate.changes = true ∧ b.derate.pin = v := by
  rw [b.mem_lineEvents, eq_comm (a := b.derate.pin)]
  cases b.xfer.pin <;> cases b.gen.pin <;> simp

/-! ### Idling -/

theorem step_idle (s : State) (h : s.pending = []) : step s = .next s.idle := by simp [step, h]

/-- With no work of its own the part takes a sample (assumption 3). -/
theorem State.idle_of_noWork (s : State) (h : s.toBlock.ownWork = []) : s.idle = s.sample := by simp [State.idle, h]

/-- With work of its own the part takes the first of it (assumption 3). -/
theorem State.idle_of_work (s : State) {c : Instr} {rest : List Instr} (h : s.toBlock.ownWork = c :: rest) :
    s.idle = { s with pending := [c] } := by simp [State.idle, h]

/-- The line events of a sample wait behind what waited before. -/
theorem State.pending_sample (s : State) : s.sample.pending = s.pending ++ s.toBlock.lineEvents := by
  unfold State.sample; dsimp only; split <;> rfl

theorem State.lines_sample (s : State) :
    s.sample.xfer = s.xfer.sample ∧ s.sample.gen = s.gen.sample ∧ s.sample.derate = s.derate.sample := by
  unfold State.sample; dsimp only; split <;> exact ⟨rfl, rfl, rfl⟩

/-- The tenth sample is a tick. -/
theorem State.sample_tick (s : State) (h : 10 ≤ s.subTick + 1) :
    s.sample.toBlock = { s.toBlock.sampleLines.tickTimers with subTick := 0 } := by
  unfold State.sample
  dsimp only
  rw [if_neg (by simp only [Config.samplesPerTick]; omega)]

/-- A tick reaches every car's timers. -/
theorem Block.car_tickTimers (b : Block) (i : CarIx) : b.tickTimers.car i = (b.car i).tick := by
  simp [Block.car, Block.tickTimers, Vector.get_eq_getElem]

/-! ### The part's own work -/

theorem mem_whenOut (t : Timer) (c d : Instr) : d ∈ whenOut t c ↔ t = some 0 ∧ d = c := by
  unfold whenOut Timer.out
  split <;> simp_all

/-- The commands that stand for an expiry of a timer. -/
def isExpiry : Instr → Bool
  | .transferSettleExpiry | .adoptionExpiry | .modeRepeatExpiry | .settleTimerExpiry | .idleTimerExpiry => true
  | .reportTimerExpiry _ | .doorTimerExpiry _ | .orderResendExpiry _ => true
  | .grantTimerExpiry _ | .accelerationTimerExpiry _ | .runTimerExpiry _ | .silentReleaseExpiry _ => true
  | _ => false

/-- A frame is taken by a command that is no expiry. -/
theorem Block.isExpiry_frameWork (b : Block) (p : PortId) : ∀ c ∈ b.frameWork p, isExpiry c = false := by
  unfold Block.frameWork
  split
  · rename_i f _ _ _
    cases b.route p f <;> simp [takeCommand, isExpiry]
  · simp

/-- The expiries of the part's own work are those of the timers that have run out. -/
theorem Block.mem_ownWork_expiry (b : Block) {c : Instr} (h : isExpiry c = true) : c ∈ b.ownWork ↔ c ∈ b.expiries := by
  have hf : ∀ p, c ∉ b.frameWork p := fun p hc => by simp [b.isExpiry_frameWork p c hc] at h
  have hr : c ≠ .recallWorkEmpties := by rintro rfl; cases h
  have hl : c ≠ .commitmentListEmpties := by rintro rfl; cases h
  have hp : c ≠ .responsePartPlaced := by rintro rfl; cases h
  simp only [Block.ownWork, Block.partWork, List.mem_append, hf, or_false]
  constructor
  · rintro (((h | h) | h) | h)
    · exact h
    all_goals split at h <;> simp_all
  · intro h; exact .inl (.inl (.inl h))

/-- The expiries of the timers of one car's commitment. -/
def Commitment.expiries (i : CarIx) (c : Commitment) : List Instr :=
  whenOut c.grantTimer (.grantTimerExpiry i) ++ whenOut c.accelTimer (.accelerationTimerExpiry i) ++
    (if c.runTimer = .running 0 then [.runTimerExpiry i] else []) ++ whenOut c.releaseTimer (.silentReleaseExpiry i)

/-- An expiry of one car is one of its report timer, of a timer of its commitment, of its order-resend timer, or of its door timer. -/
theorem Block.mem_carExpiries (b : Block) (i : CarIx) (d : Instr) : d ∈ b.carExpiries i ↔
    ((b.car i).learned.reportTimer = some 0 ∧ d = .reportTimerExpiry i) ∨
    (∃ c, b.commitment? i = some c ∧ d ∈ c.expiries i) ∨
    ((b.car i).resendTimer = some 0 ∧ d = .orderResendExpiry i) ∨ ((b.car i).doorTimer = some 0 ∧ d = .doorTimerExpiry i) := by
  unfold Block.carExpiries
  cases h : b.commitment? i with
  | none => simp [mem_whenOut]
  | some c => simp [Commitment.expiries, mem_whenOut, or_assoc]

theorem Commitment.mem_expiries (i : CarIx) (c : Commitment) (d : Instr) : d ∈ c.expiries i ↔
    (c.grantTimer = some 0 ∧ d = .grantTimerExpiry i) ∨ (c.accelTimer = some 0 ∧ d = .accelerationTimerExpiry i) ∨
    (c.runTimer = .running 0 ∧ d = .runTimerExpiry i) ∨ (c.releaseTimer = some 0 ∧ d = .silentReleaseExpiry i) := by
  unfold Commitment.expiries
  by_cases h : c.runTimer = .running 0 <;> simp [mem_whenOut, h]

/-- The expiries of the part: those of its own timers and those of each car. -/
theorem Block.mem_expiries (b : Block) (d : Instr) : d ∈ b.expiries ↔
    (b.transferTimer = some 0 ∧ d = .transferSettleExpiry) ∨ (b.adoptionTimer = some 0 ∧ d = .adoptionExpiry) ∨
    (b.modeTimer = some 0 ∧ d = .modeRepeatExpiry) ∨ (b.settleTimer = some 0 ∧ d = .settleTimerExpiry) ∨
    (∃ i, d ∈ b.carExpiries i) ∨ (b.mgmt.idleTimer = some 0 ∧ d = .idleTimerExpiry) := by
  simp [Block.expiries, mem_whenOut, mem_allCars]

end Sys2Proof.Machine
end

section
/-! The statements about resets and the part's own clock. -/

open Sys2Proof Sys2Proof.Machine

/-- Settles O59. -/
theorem resetIsInOrder : Obligations.ResetIsInOrder := by
  unfold Obligations.ResetIsInOrder
  exact ⟨⟨Port.reset_ok false, Port.reset_ok false⟩,
    ⟨List.nodup_nil, List.nodup_nil, fun _ h => (by cases h), Nat.zero_le _, List.Pairwise.nil⟩, ⟨rfl, rfl⟩, rfl, rfl⟩

/-- Settles O5. -/
theorem resetsPutEveryBlockBack : Obligations.ResetsPutEveryBlockBack := by
  unfold Obligations.ResetsPutEveryBlockBack
  intro s
  constructor
  · rintro c (rfl | rfl)
    all_goals exact ⟨_, rfl, rfl, s.toBlock.hardReset_isReset, rfl, rfl⟩
  · exact ⟨_, rfl, rfl, s.toBlock.resetWith_isReset _ _, rfl, rfl, rfl⟩

/-- Settles O3: an idle step is a sample, and each line event of it is decided by `Line.changes`. -/
theorem twoSamplesMakeLineEvents : Obligations.TwoSamplesMakeLineEvents := by
  unfold Obligations.TwoSamplesMakeLineEvents
  intro s hp hw
  obtain ⟨hx, hg, hd⟩ := s.lines_sample
  refine ⟨s.sample, by rw [step_idle s hp, s.idle_of_noWork hw], hx, hg, hd, ?_⟩
  rw [s.pending_sample, hp, List.nil_append, s.mem_lineEvents_xfer.1, s.mem_lineEvents_xfer.2,
    s.mem_lineEvents_gen.1, s.mem_lineEvents_gen.2, Line.changes_iff, Line.changes_iff, Line.changes_iff,
    Line.changes_iff]
  exact ⟨.rfl, .rfl, .rfl, .rfl, fun v => by rw [Block.mem_lineEvents_derate, Line.changes_iff]⟩

/-- Settles O4: a tick by `State.sample_tick`, the expiries by `Block.mem_expiries`, the order of the own work by the idle step. -/
theorem tickCountsTimersDown : Obligations.TickCountsTimersDown := by
  unfold Obligations.TickCountsTimersDown
  refine ⟨fun s hp hw ht => ?_, fun b => ?_, fun s c rest hp hw => ?_⟩
  · have hb := s.sample_tick ht
    refine ⟨s.sample, by rw [step_idle s hp, s.idle_of_noWork hw], ?_⟩
    rw [hb]
    refine ⟨rfl, rfl, rfl, rfl, rfl, rfl, fun i => ?_, ?_⟩
    · have hc : ({ s.toBlock.sampleLines.tickTimers with subTick := 0 } : Block).car i = (s.toBlock.car i).tick :=
        Block.car_tickTimers s.toBlock.sampleLines i
      rw [hc]
      exact ⟨rfl, rfl, rfl⟩
    · refine List.map_congr_left fun c _ => ?_
      unfold Commitment.tick RunTimer.tick
      cases c.runTimer <;> rfl
  · refine ⟨?_, ?_, ?_, ?_, ?_, fun i => ?_, fun i => ?_, fun i => ?_, fun i => ?_, fun i => ?_, fun i => ?_, fun i => ?_⟩
    all_goals rw [b.mem_ownWork_expiry rfl, b.mem_expiries]; simp [Block.mem_carExpiries, Commitment.mem_expiries]
  · rw [step_idle s hp, s.idle_of_work hw]

end

section
/-! Operations made for every car in turn, and the frames that an operation queues on the C-port. -/

namespace Sys2Proof.Machine

/-! ### One operation for every car -/

theorem nodup_allCars : allCars.Nodup := by decide

/-- An operation on one car at a time that moves no other car and keeps what moves keep. -/
structure CarWise (f : Block → CarIx → Block) : Prop where
  keeps  : ∀ (b : Block) (i : CarIx), b.KeepsBudget (f b i)
  others : ∀ (b : Block) (i j : CarIx), j ≠ i → (f b i).car j = b.car j

theorem CarWise.foldl_keeps {f : Block → CarIx → Block} (h : CarWise f) (l : List CarIx) (b : Block) :
    b.KeepsBudget (l.foldl f b) := foldl_rel .refl .trans h.keeps l b

/-- A car that is not in the list is not touched. -/
theorem CarWise.car_foldl_notMem {f : Block → CarIx → Block} (h : CarWise f) (l : List CarIx) (b : Block) {i : CarIx}
    (hi : i ∉ l) : (l.foldl f b).car i = b.car i := by
  induction l generalizing b with
  | nil => rfl
  | cons j l ih =>
    obtain ⟨hj, hl⟩ := not_or.mp (List.mem_cons.not.mp hi)
    rw [List.foldl_cons, ih _ hl, h.others b j i hj]

/-- Each car is treated once, in a block that still has the car as it was. -/
theorem CarWise.car_foldl {f : Block → CarIx → Block} (h : CarWise f) {l : List CarIx} (hn : l.Nodup) (b : Block) {i : CarIx}
    (hi : i ∈ l) : ∃ c, b.KeepsBudget c ∧ c.car i = b.car i ∧ (l.foldl f b).car i = (f c i).car i := by
  induction l generalizing b with
  | nil => cases hi
  | cons j l ih =>
    obtain ⟨hj, hl⟩ := List.nodup_cons.mp hn
    rcases List.mem_cons.mp hi with rfl | hi
    · exact ⟨b, .refl b, rfl, h.car_foldl_notMem l _ hj⟩
    · obtain ⟨c, hk, hc, hr⟩ := ih hl (f b j) hi
      have hne : i ≠ j := fun e => hj (e ▸ hi)
      exact ⟨c, (h.keeps b j).trans hk, hc.trans (h.others b j i hne), hr⟩

/-- The same over all cars. -/
theorem CarWise.car_allCars {f : Block → CarIx → Block} (h : CarWise f) (b : Block) (i : CarIx) :
    ∃ c, b.KeepsBudget c ∧ c.car i = b.car i ∧ (allCars.foldl f b).car i = (f c i).car i :=
  h.car_foldl nodup_allCars b (mem_allCars i)

/-- What each operation leaves, in any block that still has its car as it was, all of them leave. -/
theorem CarWise.foldl_same {f : Block → CarIx → Block} (h : CarWise f) {α : Type} (p : Block → α) {l : List CarIx}
    (hn : l.Nodup) (b : Block) (hp : ∀ c i, b.KeepsBudget c → c.car i = b.car i → p (f c i) = p c) : p (l.foldl f b) = p b := by
  suffices ∀ c, b.KeepsBudget c → (∀ i ∈ l, c.car i = b.car i) → p (l.foldl f c) = p c from this b (.refl b) fun _ _ => rfl
  induction l with
  | nil => exact fun _ _ _ => rfl
  | cons i l ih =>
    intro c hk hc
    obtain ⟨hi, hl⟩ := List.nodup_cons.mp hn
    refine (ih hl _ (hk.trans (h.keeps c i)) fun j hj => ?_).trans (hp c i hk (hc i (by simp)))
    rw [h.others c i j (fun e => hi (e ▸ hj)), hc j (by simp [hj])]

/-! ### What is sent on the C-port -/

/-- An own frame for the car bus: where the C-port has room it is queued there, and mirrored if that is wanted and possible
(R102, R144). -/
theorem Block.sendCar_eq (b : Block) (dst : Byte) (k : FrameKind) (payload : List Byte) :
    (b.sendCar dst k payload).1 = { b with
      cport := if b.cport.roomOwn then { b.cport with tx := b.cport.tx ++ [ownItem (b.ownFrame dst k payload)] } else b.cport
      gport := if b.cport.roomOwn && b.active.plan.mirror && b.gport.roomOwn then
          { b.gport with tx := b.gport.tx ++ [ownItem (b.ownFrame 0 k payload)] }
        else b.gport } := by
  unfold Block.sendCar Block.placeOwn Block.mirrorCopy
  cases hc : b.cport.roomOwn
  · simp [Block.port, hc]
  · cases hm : b.active.plan.mirror
    · simp [Block.port, hc, hm, Block.modPort, Port.push, Block.ownFrame, ownItem]
    · cases hg : b.gport.roomOwn <;>
        simp [Block.port, hc, hm, hg, Block.modPort, Port.push, Block.ownFrame, ownItem, Block.placeOwn, Block.own]

theorem Block.sendCar_snd (b : Block) (dst : Byte) (k : FrameKind) (payload : List Byte) :
    (b.sendCar dst k payload).2 = b.cport.roomOwn := by
  unfold Block.sendCar Block.placeOwn
  cases hc : b.cport.roomOwn <;> simp [Block.port, hc]

/-- An own place is free (R148). -/
theorem Port.roomOwn_iff (p : Port) : p.roomOwn = true ↔ p.up = true ∧ p.ownCount + 1 ≤ 8 := by
  rw [Port.roomOwn, Bool.and_eq_true, decide_eq_true_eq]
  exact Iff.rfl

/-- While the C-port has the places, it ends with these own frames behind those it had and is otherwise as it was. -/
structure Block.PlacesC (b : Block) (l : List TxItem) (b' : Block) : Prop where
  own    : ∀ x ∈ l, x.own = true
  placed : b.cport.up = true → b.cport.ownCount + l.length ≤ 8 → b'.cport = { b.cport with tx := b.cport.tx ++ l }

/-- An operation that leaves the C-port alone places nothing. -/
theorem Block.PlacesC.nil {b b' : Block} (h : b'.cport = b.cport) : b.PlacesC [] b' :=
  ⟨by simp, fun _ _ => by simp [h]⟩

theorem Block.PlacesC.trans {b c d : Block} {l m : List TxItem} (h : b.PlacesC l c) (k : c.PlacesC m d) :
    b.PlacesC (l ++ m) d where
  own x hx := (List.mem_append.mp hx).elim (h.own x) (k.own x)
  placed hu hn := by
    rw [List.length_append] at hn
    have hc := h.placed hu (by omega)
    have hl : l.filter (fun x => x.own) = l := List.filter_eq_self.mpr (by simpa using h.own)
    have hcount : c.cport.ownCount = b.cport.ownCount + l.length := by
      rw [hc]; simp [Port.ownCount, List.filter_append, hl]
    rw [k.placed (by rw [hc]; exact hu) (by omega), hc]
    simp

/-- An operation that leaves the C-port alone, behind one that places frames. -/
theorem Block.PlacesC.andKeep {b c d : Block} {l : List TxItem} (h : b.PlacesC l c) (k : d.cport = c.cport) : b.PlacesC l d := by
  simpa using h.trans (.nil k)

/-- An operation that leaves the C-port alone, before one that places frames. -/
theorem Block.PlacesC.afterKeep {b c d : Block} {l : List TxItem} (h : c.cport = b.cport) (k : c.PlacesC l d) : b.PlacesC l d := by
  simpa using (Block.PlacesC.nil h).trans k

theorem Block.PlacesC.tx {b b' : Block} {l : List TxItem} (h : b.PlacesC l b') (hu : b.cport.up = true)
    (hn : b.cport.ownCount + l.length ≤ 8) : b'.cport.tx = b.cport.tx ++ l := by rw [h.placed hu hn]

/-- A sending places its frame. -/
theorem Block.sendCar_places (b : Block) (dst : Byte) (k : FrameKind) (payload : List Byte) :
    b.PlacesC [ownItem (b.ownFrame dst k payload)] (b.sendCar dst k payload).1 where
  own := by simp [ownItem]
  placed hu hn := by
    have hr : b.cport.roomOwn = true := b.cport.roomOwn_iff.mpr ⟨hu, hn⟩
    rw [b.sendCar_eq]
    simp [hr]

/-- A frame whose loss is recorded is placed where there is room. -/
theorem Block.sendCarOrLose_places (b : Block) (dst : Byte) (k : FrameKind) (payload : List Byte) :
    b.PlacesC [ownItem (b.ownFrame dst k payload)] (b.sendCarOrLose dst k payload) where
  own := by simp [ownItem]
  placed hu hn := by
    have hr : b.cport.roomOwn = true := b.cport.roomOwn_iff.mpr ⟨hu, hn⟩
    unfold Block.sendCarOrLose
    simp only [b.sendCar_snd, hr, if_true]
    exact (b.sendCar_places dst k payload).placed hu hn

/-- One operation for every car places the frames of each in car order, if each places its own in any block that still has its
car as it was. -/
theorem CarWise.foldl_places {f : Block → CarIx → Block} (h : CarWise f) {g : CarIx → List TxItem} {l : List CarIx}
    (hn : l.Nodup) (b : Block) (hp : ∀ c i, b.KeepsBudget c → c.car i = b.car i → c.PlacesC (g i) (f c i)) :
    b.PlacesC (l.flatMap g) (l.foldl f b) := by
  suffices ∀ c, b.KeepsBudget c → (∀ i ∈ l, c.car i = b.car i) → c.PlacesC (l.flatMap g) (l.foldl f c) from
    this b (.refl b) fun _ _ => rfl
  induction l with
  | nil => exact fun c _ _ => .nil rfl
  | cons i l ih =>
    intro c hk hc
    obtain ⟨hi, hl⟩ := List.nodup_cons.mp hn
    refine (hp c i hk (hc i (by simp))).trans (ih hl _ (hk.trans (h.keeps c i)) fun j hj => ?_)
    rw [h.others c i j (fun e => hi (e ▸ hj)), hc j (by simp [hj])]

/-! ### What leaves the C-port alone -/

@[simp] theorem Block.cport_placeOwn_g (b : Block) (f : Frame) (r : Bool) : (b.placeOwn .g f r).1.cport = b.cport := by
  unfold Block.placeOwn; split <;> rfl

@[simp] theorem Block.cport_sendNotice (b : Block) (dst : Byte) (k : FrameKind) (payload : List Byte) :
    (b.sendNotice dst k payload).cport = b.cport := by
  unfold Block.sendNotice; dsimp only; split <;> simp

@[simp] theorem Block.cport_planNotice (b : Block) (r : NoticeReason) : (b.planNotice r).cport = b.cport := b.cport_sendNotice ..

@[simp] theorem Block.cport_carNotice (b : Block) (i : CarIx) (r : NoticeReason) : (b.carNotice i r).cport = b.cport :=
  b.cport_sendNotice ..

@[simp] theorem Block.cport_announce (b : Block) (f : Frame) (o : NoticeOutcome) : (b.announce f o).cport = b.cport := by
  unfold Block.announce Block.orderNotice; split <;> simp

@[simp] theorem Block.cport_dropSlot (b : Block) (i : CarIx) : (b.dropSlot i).cport = b.cport := by
  unfold Block.dropSlot; split <;> simp [Block.setSlot]

@[simp] theorem Block.cport_tellSelection (b : Block) (old dest : RState) : (b.tellSelection old dest).cport = b.cport := by
  unfold Block.tellSelection; split <;> rfl

@[simp] theorem Block.cport_tellRecallWork (b : Block) (n : Nat) : (b.tellRecallWork n).cport = b.cport := by
  unfold Block.tellRecallWork; split <;> rfl

@[simp] theorem Block.cport_syncResend (b : Block) (i : CarIx) : (b.syncResend i).cport = b.cport := by
  unfold Block.syncResend; repeat' split
  all_goals rfl

@[simp] theorem Block.cport_dropHeld (b : Block) : b.dropHeld.cport = b.cport := by
  refine foldl_rel (R := fun b c : Block => c.cport = b.cport) (fun _ => rfl) (fun h k => k.trans h) (fun b i => ?_) allCars b
  split
  · rfl
  · exact b.cport_dropSlot i

/-- Only the release of a serving car's slot sends on the C-port (R141). -/
theorem Block.cport_tellRelay (b : Block) (i : CarIx) (h : (b.car i).state ≠ .serving) : (b.tellRelay i).cport = b.cport := by
  unfold Block.tellRelay
  rw [if_neg h]
  split
  · split <;> rfl
  · split
    · rfl
    · split
      · rfl
      · exact b.cport_dropSlot i

/-! ### The frames of the statements -/

/-- A car with no order has none to send. -/
theorem Block.sendOrder_of_none {b : Block} {i : CarIx} (h : (b.car i).order = none) : b.sendOrder i = b := by
  simp [Block.sendOrder, h]

/-- A car's order, sent where there is room (R100). -/
theorem Block.sendOrder_places {b : Block} {i : CarIx} (h : (b.car i).order.isSome = true) :
    b.PlacesC [b.orderItem i] (b.sendOrder i) := by
  obtain ⟨o, ho⟩ := Option.isSome_iff_exists.mp h
  have hitem : b.orderItem i = ownItem (b.ownFrame (b.orderDst i) .carOrder
      [byteOf (carNo i), orderKindCode (some o), o.landingByte]) := by
    unfold Block.orderItem Block.busNode Block.orderDst
    rw [ho]
    cases o <;> rfl
  rw [hitem]
  unfold Block.sendOrder
  rw [ho]
  dsimp only
  cases o <;> exact (b.sendCar_places ..).andKeep rfl

/-- The refusal of a bound car, sent where there is room (R99). -/
theorem Block.refuseBound_places {b : Block} {e : Entry} (r : RefusalReason) (h : (b.car e.car).bound ≠ none) :
    b.PlacesC [b.flushItem r.code e] (b.refuseBound e.car e.tag r) := by
  obtain ⟨n, hn⟩ := Option.ne_none_iff_exists'.mp h
  unfold Block.refuseBound Block.boundNode Block.flushItem Block.busNode
  rw [hn]
  exact b.sendCarOrLose_places ..

/-- The mode frame of the current plan, sent where there is room (R16). -/
theorem Block.sendMode_places (b : Block) :
    b.PlacesC [ownItem (b.ownFrame 63 .modeFrame [b.plan.powerMode.code])] b.sendMode := b.sendCar_places ..

/-- A plan change sends the mode frame of the new plan first (R16). -/
theorem Block.changePlan_places (b : Block) (p : Plan) :
    b.PlacesC [ownItem (b.ownFrame 63 .modeFrame [p.powerMode.code])] (b.changePlan p) :=
  ((Block.sendMode_places _).andKeep (Block.cport_planNotice _ _)).afterKeep
    (c := { b with plan := p, modeTimer := some Config.modeRepeat }) rfl

/-- The frames of a car depend on the block only through its node address, the car's order and binding. -/
theorem Block.orderItem_congr {b c : Block} {i : CarIx} (ha : c.active = b.active) (hc : (c.car i).order = (b.car i).order)
    (hb : (c.car i).bound = (b.car i).bound) : c.orderItem i = b.orderItem i := by
  unfold Block.orderItem Block.busNode Block.ownFrame Block.own
  rw [hc, hb, ha]

theorem Block.flushItem_congr {b c : Block} {e : Entry} (x : Byte) (ha : c.active = b.active)
    (hb : (c.car e.car).bound = (b.car e.car).bound) : c.flushItem x e = b.flushItem x e := by
  unfold Block.flushItem Block.busNode Block.ownFrame Block.own
  rw [hb, ha]

/-- A flush empties the queue. -/
@[simp] theorem Block.queue_flush (b : Block) (r : RefusalReason) : (b.flush r).queue = [] := by
  unfold Block.flush
  exact foldl_rel (R := fun b c : Block => c.queue = b.queue) (fun _ => rfl) (fun h k => k.trans h)
    (fun b (e : Entry) => (b.refuseBound_only e.car e.tag r).sameQueue) b.queue { b with queue := [] }

/-- A flush touches no car. -/
@[simp] theorem Block.car_flush (b : Block) (r : RefusalReason) (i : CarIx) : (b.flush r).car i = b.car i := by
  unfold Block.flush
  have h := foldl_rel (R := fun b c : Block => c.cars = b.cars) (fun _ => rfl) (fun h k => k.trans h)
    (fun b (e : Entry) => (b.refuseBound_only e.car e.tag r).cars) b.queue { b with queue := [] }
  simp [Block.car, h]

/-- A flush of a queue whose cars are bound refuses its entries in queue order (R79, R99). -/
theorem Block.flush_places (b : Block) (r : RefusalReason) (h : ∀ e ∈ b.queue, (b.car e.car).bound ≠ none) :
    b.PlacesC (b.queue.map (b.flushItem r.code)) (b.flush r) := by
  unfold Block.flush
  suffices ∀ (q : List Entry) (c : Block), c.active = b.active → (∀ i, c.car i = b.car i) →
      (∀ e ∈ q, (b.car e.car).bound ≠ none) →
      c.PlacesC (q.map (b.flushItem r.code)) (q.foldl (fun b e => b.refuseBound e.car e.tag r) c) from
    .afterKeep (c := { b with queue := [] }) rfl (this b.queue _ rfl (fun _ => rfl) h)
  intro q
  induction q with
  | nil => exact fun c _ _ _ => .nil rfl
  | cons e q ih =>
    intro c ha hc hq
    have ho := c.refuseBound_only e.car e.tag r
    have h1 := Block.refuseBound_places (b := c) (e := e) r (by rw [hc]; exact hq e (by simp))
    rw [Block.flushItem_congr _ ha (by rw [hc])] at h1
    exact h1.trans (ih _ (ho.active.trans ha) (fun i => by rw [← hc i]; simp [Block.car, ho.cars])
      fun e' he' => hq e' (by simp [he']))

end Sys2Proof.Machine
end

section
/-! What the operations on one car make of its record: its state, order, attempts, selected flag and held-order slot. -/

namespace Sys2Proof.Machine

/-! ### Records -/

/-- A move treats records alike that agree but for their marks. -/
theorem Car.SameButMarks.moved {c d : Car} (h : c.SameButMarks d) (dest : RState) (r : Reason) :
    (c.moved dest r).SameButMarks (d.moved dest r) := by
  unfold Car.moved
  rw [h.state]
  split
  · exact h
  · exact ⟨h.learned, h.bound, h.foreign, rfl, rfl, h.attempts, by simp [Car.enter, h.order], by simp [Car.enter, h.doorTimer],
      h.doorAlarm, h.faultSeen, by simp [Car.enter, h.selected], h.lastTag⟩

/-- What a run to a landing and its grant keep of a car: its order and attempts, and its selected flag once that is clear. -/
structure Car.SameOrder (c c' : Car) : Prop where
  order    : c'.order = c.order
  attempts : c'.attempts = c.attempts
  selected : c.selected = false → c'.selected = false

theorem Car.SameOrder.refl (c : Car) : c.SameOrder c := ⟨rfl, rfl, id⟩

theorem Car.SameOrder.trans {c d e : Car} (h : c.SameOrder d) (k : d.SameOrder e) : c.SameOrder e :=
  ⟨k.order.trans h.order, k.attempts.trans h.attempts, k.selected ∘ h.selected⟩

theorem Car.SameButMarks.sameOrder {c c' : Car} (h : c.SameButMarks c') : c.SameOrder c' :=
  ⟨h.order, h.attempts, fun k => h.selected.trans k⟩

/-- A move to a state that keeps the order. -/
theorem Car.moved_sameOrder (c : Car) {dest : RState} (r : Reason) (h : dest.clearsOrder = false) :
    c.SameOrder (c.moved dest r) := by
  unfold Car.moved
  split
  · exact .refl c
  · exact ⟨by simp [Car.enter, h], rfl, fun hs => by simp [Car.enter, hs]⟩

theorem Block.move_sameOrder (b : Block) (i : CarIx) {dest : RState} (r : Reason) (send : Bool) (h : dest.clearsOrder = false) :
    (b.car i).SameOrder ((b.move i dest r send).car i) :=
  ((b.car i).moved_sameOrder r h).trans (b.move_touches i dest r send).this.sameOrder

/-- A car that enters another state than SERVING is not selected there (R130). -/
theorem Block.selected_move (b : Block) (i : CarIx) {dest : RState} (r : Reason) (send : Bool) (hs : (b.car i).state ≠ dest)
    (h : dest ≠ .serving) : ((b.move i dest r send).car i).selected = false := by
  rw [(b.move_touches i dest r send).this.selected]
  simp [Car.moved, hs, Car.enter, h]

/-! ### Landing and arriving -/

theorem Block.park_others (b : Block) (i : CarIx) (alarm : Bool) {j : CarIx} (h : j ≠ i) : (b.park i alarm).car j = b.car j := by
  unfold Block.park
  dsimp only
  rw [Block.car_move_other _ _ _ _ h]
  split
  · exact b.car_modCar_other _ h
  · rfl

theorem Block.land_others (b : Block) (i : CarIx) {j : CarIx} (h : j ≠ i) : (b.land i).car j = b.car j := by
  unfold Block.land
  split
  · rw [Block.park_others _ _ _ h, Block.car_move_other _ _ _ _ h]
  · rw [Block.car_move_other _ _ _ _ h, Block.car_modCar_other _ _ h]

/-- A car that parks without alarm keeps its order. -/
theorem Block.park_sameOrder (b : Block) (i : CarIx) : (b.car i).SameOrder ((b.park i false).car i) :=
  b.move_sameOrder i _ _ (by rcases (b.car i).order with _ | (_ | _ | _) <;> rfl)

/-- A landing keeps the order. -/
theorem Block.land_sameOrder (b : Block) (i : CarIx) : (b.car i).SameOrder ((b.land i).car i) := by
  unfold Block.land
  split
  · exact (b.move_sameOrder i _ _ rfl).trans (Block.park_sameOrder _ i)
  · refine Car.SameOrder.trans ?_ (Block.move_sameOrder _ i _ _ rfl)
    rw [Block.car_modCar_same]
    exact ⟨rfl, rfl, id⟩

/-- A car that lands is LANDED, or parked by its order if its door is open (R117). -/
theorem Block.state_land (b : Block) (i : CarIx) :
    ((b.land i).car i).state = if (b.car i).learned.door = .opened then parkState (b.car i).order else .landed := by
  unfold Block.land
  split
  · unfold Block.park
    dsimp only
    rw [Block.state_move, (b.move_sameOrder i _ _ rfl).order]
  · rw [Block.state_move]

theorem Block.arrivalCheck_others (b : Block) (i : CarIx) {j : CarIx} (h : j ≠ i) : (b.arrivalCheck i).car j = b.car j := by
  unfold Block.arrivalCheck
  split
  · exact b.land_others i h
  · rfl

theorem Block.arrivalCheck_sameOrder (b : Block) (i : CarIx) : (b.car i).SameOrder ((b.arrivalCheck i).car i) := by
  unfold Block.arrivalCheck
  split
  · exact b.land_sameOrder i
  · exact .refl _

/-- The state that an arrival check leaves a car in (R112, R117). -/
theorem Block.state_arrivalCheck (b : Block) (i : CarIx) : ((b.arrivalCheck i).car i).state =
    if b.arrives i then (if (b.car i).learned.door = .opened then parkState (b.car i).order else .landed)
    else (b.car i).state := by
  unfold Block.arrivalCheck
  split
  · exact b.state_land i
  · rfl

/-- Only a RECALL_PENDING car can pass the arrival check (R112). -/
theorem Block.arrivalCheck_of_not_pending {b : Block} {i : CarIx} (h : (b.car i).state ≠ .recallPending) :
    b.arrivalCheck i = b := by
  unfold Block.arrivalCheck Block.arrives
  simp [h]

theorem arrivalCheck_carWise : CarWise Block.arrivalCheck :=
  ⟨fun b i => b.arrivalCheck_keeps i, fun b i _ h => b.arrivalCheck_others i h⟩

/-! ### The cars of TRANSFER_WAIT -/

theorem Block.orderStanding_others (b : Block) (i : CarIx) {j : CarIx} (h : j ≠ i) : (b.orderStanding i).car j = b.car j := by
  unfold Block.orderStanding Block.setOrder
  split
  · rw [Block.car_move_other _ _ _ _ h, Block.car_modCar_other _ _ h]
  · rfl

theorem orderStanding_carWise : CarWise Block.orderStanding :=
  ⟨fun b i => b.orderStanding_keeps i, fun b i _ h => b.orderStanding_others i h⟩

/-- A STANDING car is RECALL_PENDING with its RECALL order (R10). -/
theorem Block.orderStanding_standing {b : Block} {i : CarIx} (h : (b.car i).state = .standing) :
    ((b.orderStanding i).car i).state = .recallPending ∧
      ((b.orderStanding i).car i).order = some (.recall (b.conf i).recallLanding) ∧
      ((b.orderStanding i).car i).attempts = (b.car i).attempts := by
  unfold Block.orderStanding Block.setOrder
  rw [if_pos h]
  have hs := Block.move_sameOrder (b.modCar i fun c => { c with order := some (.recall (b.conf i).recallLanding) }) i
    (dest := .recallPending) .none true rfl
  rw [Block.car_modCar_same] at hs
  exact ⟨Block.state_move .., hs.order, hs.attempts⟩

theorem Block.orderStanding_of_not_standing {b : Block} {i : CarIx} (h : (b.car i).state ≠ .standing) :
    b.orderStanding i = b := if_neg h

theorem Block.place_others (b : Block) (i : CarIx) {j : CarIx} (h : j ≠ i) : (b.place i).car j = b.car j := by
  unfold Block.place Block.orderRecall Block.setOrder
  repeat' split
  all_goals simp only [Block.arrivalCheck_others _ _ h, Block.car_move_other _ _ _ _ h, Block.car_modCar_other _ _ h]

theorem Block.standCar_others (b : Block) (i : CarIx) {j : CarIx} (h : j ≠ i) : (b.standCar i).car j = b.car j := by
  unfold Block.standCar
  dsimp only
  split
  · rw [Block.place_others _ _ h, Block.car_move_other _ _ _ _ h, Block.car_modCar_other _ _ h]
  · exact b.car_modCar_other _ h

theorem standCar_carWise : CarWise Block.standCar :=
  ⟨fun b i => b.standCar_keeps i, fun b i _ h => b.standCar_others i h⟩

/-- In TRANSFER_WAIT a car is placed by its mode and class alone (R107). -/
theorem Block.place_transferWait {b : Block} {i : CarIx} (h : b.plan = .transferWait) :
    b.place i = b.move i (stoodState b i) := by
  unfold Block.place stoodState
  rw [h]
  cases (b.car i).learned.mode with
  | automatic =>
    by_cases hc : (b.conf i).cls = 0 <;> simp [Plan.emergency, CarMode.group, hc]
  | firefighter => rfl
  | inspection => rfl
  | independent => rfl
  | outOfService => rfl

theorem stoodState_congr {b c : Block} {i : CarIx} (ha : c.active = b.active) (hl : (c.car i).learned = (b.car i).learned) :
    stoodState c i = stoodState b i := by
  unfold stoodState Block.conf
  rw [ha, hl]

/-- A car that was not IN_GROUP only has its attempts cleared (R7). -/
theorem Block.standCar_of_not_inGroup {b : Block} {i : CarIx} (h : (b.car i).state ≠ .inGroup) :
    (b.standCar i).car i = { b.car i with attempts := 0 } := by
  unfold Block.standCar
  rw [if_neg h, Block.car_modCar_same]

/-- An IN_GROUP car stands, or is placed by its mode and class (R7, R107). -/
theorem Block.standCar_of_inGroup {b : Block} {i : CarIx} (hp : b.plan = .transferWait) (h : (b.car i).state = .inGroup) :
    ((b.standCar i).car i).state = stoodState b i ∧ ((b.standCar i).car i).attempts = 0 := by
  have hk := Block.move_keeps (b.modCar i (fun c => { c with attempts := 0 })) i .standing .none false
  unfold Block.standCar
  rw [if_pos h, Block.place_transferWait (hk.plan.trans hp)]
  refine ⟨?_, ?_⟩
  · rw [Block.state_move]
    exact stoodState_congr hk.active ((hk.known i).learned.trans (by rw [Block.car_modCar_same]))
  · rw [(Block.move_touches _ i _ _ _).this.attempts, Car.attempts_moved, (Block.move_touches _ i _ _ _).this.attempts,
      Car.attempts_moved, Block.car_modCar_same]

theorem Block.countAttempt_others (b : Block) (i : CarIx) {j : CarIx} (h : j ≠ i) : (b.countAttempt i).car j = b.car j := by
  unfold Block.countAttempt Block.fail
  dsimp only
  split <;> rw [Block.car_move_other _ _ _ _ h, Block.car_modCar_other _ _ h]

/-- A counted attempt: RECALL_PENDING with its order, or FAILED at the limit (R116). -/
theorem Block.countAttempt_car (b : Block) (i : CarIx) :
    ((b.countAttempt i).car i).attempts = (b.car i).attempts + 1 ∧
    if (b.car i).attempts + 1 < b.active.plan.attemptLimit then
      ((b.countAttempt i).car i).state = .recallPending ∧ ((b.countAttempt i).car i).order = (b.car i).order
    else ((b.countAttempt i).car i).state = .failed := by
  unfold Block.countAttempt Block.fail
  dsimp only
  split
  · have h := Block.move_sameOrder (b.modCar i fun c => { c with attempts := (b.car i).attempts + 1 }) i
      (dest := .recallPending) .none true rfl
    rw [Block.car_modCar_same] at h
    exact ⟨h.attempts, Block.state_move .., h.order⟩
  · refine ⟨?_, Block.state_move ..⟩
    rw [(Block.move_touches _ i _ _ _).this.attempts, Car.attempts_moved, Block.car_modCar_same]

theorem Block.loseCar_others (b : Block) (i : CarIx) {j : CarIx} (h : j ≠ i) : (b.loseCar i).car j = b.car j := by
  unfold Block.loseCar
  repeat' split
  · exact b.countAttempt_others i h
  · exact b.countAttempt_others i h
  · exact b.car_move_other _ _ _ h
  · exact (b.sendOrder_touches i).others j h
  · rfl
  · rfl

theorem loseCar_carWise : CarWise Block.loseCar :=
  ⟨fun b i => b.loseCar_keeps i, fun b i _ h => b.loseCar_others i h⟩

/-- What a loss of power makes of a car (R8, R116, R120): a car that is RECALL_PENDING then has the order it had. -/
structure Block.LosesCar (b : Block) (i : CarIx) (c' : Car) : Prop where
  state    : c'.state = lostState b.active.plan.attemptLimit (b.car i)
  attempts : c'.attempts = if (b.car i).state = .recalling ∨ (b.car i).state = .diverting then (b.car i).attempts + 1
    else (b.car i).attempts
  order    : c'.state = .recallPending → c'.order = (b.car i).order

theorem Block.loseCar_losesCar (b : Block) (i : CarIx) : b.LosesCar i ((b.loseCar i).car i) := by
  have count : (b.car i).state = .recalling ∨ (b.car i).state = .diverting → b.LosesCar i ((b.countAttempt i).car i) := by
    intro h
    obtain ⟨ha, hs⟩ := b.countAttempt_car i
    have hl : lostState b.active.plan.attemptLimit (b.car i) =
        if (b.car i).attempts + 1 < b.active.plan.attemptLimit then .recallPending else .failed := by
      rcases h with h | h <;> rw [lostState, h]
    refine ⟨?_, by rw [ha, if_pos h], ?_⟩ <;> split at hs <;> simp_all
  unfold Block.loseCar
  split
  · rename_i h; exact count (.inl h)
  · rename_i h; exact count (.inr h)
  · rename_i h
    have hm := b.move_sameOrder i (dest := .recallPending) .none false rfl
    exact ⟨by rw [Block.state_move, lostState, h], by simp [hm.attempts, h], fun _ => hm.order⟩
  · rename_i h
    have same : b.LosesCar i (b.car i) := ⟨by rw [lostState, h], by simp [h], fun _ => rfl⟩
    split
    · have ht := (b.sendOrder_touches i).this
      exact ⟨ht.state.trans same.state, ht.attempts.trans same.attempts, fun _ => ht.order⟩
    · exact same
  · rename_i h1 h2 h3 h4
    refine ⟨?_, (if_neg (fun h => h.elim h1 h2)).symm, fun _ => rfl⟩
    unfold lostState
    cases h : (b.car i).state <;> simp_all

/-! ### Moves that send no order -/

/-- What only sends changes no car. -/
theorem Block.OnlySends.car_eq {b c : Block} (h : b.OnlySends c) (i : CarIx) : c.car i = b.car i := by
  rw [Block.car, h.cars, Block.car]

/-- A record with another held-order slot. -/
def Car.withSlot (c : Car) (x : Slot) : Car := { c with slot := x }

theorem Block.car_setEntryKind (b : Block) (i : CarIx) (k : RunKind) (j : CarIx) : (b.setEntryKind i k).car j = b.car j := by
  unfold Block.setEntryKind
  split
  · rfl
  · dsimp only; split <;> rfl

/-- Without an entry, or in a state that hears no order again, re-judging changes no car (R95, R110). -/
theorem Block.car_rejudge {b : Block} {i : CarIx} (h : b.entry? i = none ∨ (b.car i).state.reordered = false) (j : CarIx) :
    (b.rejudge i).1.car j = b.car j := by
  have hr : ∀ (e : Entry) (r : RefusalReason), ((b.removeEntry i).refuseBound i e.tag r).car j = b.car j := fun e r =>
    ((b.removeEntry i).refuseBound_only i e.tag r).car_eq j
  unfold Block.rejudge
  split
  · rfl
  · rename_i e he
    split
    · exact hr _ _
    · split
      · rfl
      · split
        · exact b.car_setEntryKind i _ j
        · rename_i r hjudge
          rw [if_neg (by simp_all)]
          exact hr _ _

/-- A slot put in the state it is in. -/
theorem Block.setSlot_self (b : Block) (i : CarIx) : b.setSlot i (b.car i).slot = b := by
  have h : b.cars.set i.val (b.car i) i.isLt = b.cars := Vector.set_getElem_self i.isLt
  exact congrArg (fun v => ({ b with cars := v } : Block)) h

/-- Telling the Relay Unit puts a car's slot in some state, and else only sends (R131, R141). -/
theorem Block.tellRelay_sends (b : Block) (i : CarIx) : ∃ x, (b.setSlot i x).OnlySends (b.tellRelay i) := by
  have same : ∃ x, (b.setSlot i x).OnlySends b := ⟨(b.car i).slot, by rw [b.setSlot_self]; exact .refl b⟩
  unfold Block.tellRelay
  split
  · split
    · exact ⟨_, .refl _⟩
    · exact same
  · split
    · exact same
    · split
      · unfold Block.releaseSlot
        split
        · exact ⟨_, (Block.relayTo_only _ _ _).trans (Block.announce_only _ _ _)⟩
        · exact ⟨_, .refl _⟩
      · split
        · exact same
        · unfold Block.dropSlot
          split
          · exact ⟨_, Block.announce_only _ _ _⟩
          · exact ⟨_, .refl _⟩

/-- Telling the Relay Unit changes a car's slot alone (R131). -/
theorem Block.car_tellRelay (b : Block) (i : CarIx) : ∃ x, (b.tellRelay i).car i = (b.car i).withSlot x := by
  obtain ⟨x, hx⟩ := b.tellRelay_sends i
  exact ⟨x, (hx.car_eq i).trans (b.car_modCar_same i _)⟩

@[simp] theorem Block.queue_tellRelay (b : Block) (i : CarIx) : (b.tellRelay i).queue = b.queue := by
  obtain ⟨x, hx⟩ := b.tellRelay_sends i
  exact hx.sameQueue

@[simp] theorem Block.evalDue_tellRelay (b : Block) (i : CarIx) : (b.tellRelay i).evalDue = b.evalDue := by
  obtain ⟨x, hx⟩ := b.tellRelay_sends i
  exact hx.evalDue

theorem Block.car_tellSelection (b : Block) (old dest : RState) (j : CarIx) : (b.tellSelection old dest).car j = b.car j := by
  unfold Block.tellSelection; split <;> rfl

theorem Block.car_tellRecallWork (b : Block) (n : Nat) (j : CarIx) : (b.tellRecallWork n).car j = b.car j := by
  unfold Block.tellRecallWork; split <;> rfl

/-- The block of a move once the car has entered its state and the plan notice has been sent: what is left of R106 starts from it. -/
structure Block.Noticed (b : Block) (i : CarIx) (dest : RState) (r : Reason) (send : Bool) (c : Block) : Prop where
  active : c.active = b.active
  plan   : c.plan = b.plan
  manual : c.manual = b.manual
  queue  : c.queue = b.queue
  cport  : c.cport = b.cport
  car    : c.car i = (b.car i).enter dest r
  rest   : b.changeState i dest r send = ((((c.rejudge i).1.sendOrderOnce i send (c.rejudge i).2).tellRelay i).tellSelection
    (b.car i).state dest).tellRecallWork b.recallWork

theorem Block.changeState_noticed (b : Block) (i : CarIx) (dest : RState) (r : Reason) (send : Bool) :
    ∃ c, b.Noticed i dest r send c := by
  have hn := (b.modCar i fun c => c.enter dest r).carNotice_only i (moveReason (b.car i) dest r)
  exact ⟨_, hn.active, hn.plan, hn.manual, hn.sameQueue, Block.cport_carNotice .., (hn.car_eq i).trans (b.car_modCar_same i _), rfl⟩

/-- A car without an entry has none to judge again (R110). -/
theorem Block.rejudge_of_none {b : Block} {i : CarIx} (h : b.entry? i = none) : b.rejudge i = (b, false) := by
  unfold Block.rejudge
  rw [h]

theorem Block.entry?_congr {b c : Block} (h : c.queue = b.queue) (i : CarIx) : c.entry? i = b.entry? i := by
  rw [Block.entry?, h, Block.entry?]

/-- A move that sends no order enters the state and may change the slot; nothing else of the car changes (R106). -/
theorem Block.car_move_quiet {b : Block} {i : CarIx} {dest : RState} (r : Reason)
    (h : b.entry? i = none ∨ dest.reordered = false) :
    ∃ x, (b.move i dest r false).car i = ((b.car i).moved dest r).withSlot x := by
  unfold Block.move Car.moved
  split
  · exact ⟨_, rfl⟩
  · obtain ⟨c, hc⟩ := b.changeState_noticed i dest r false
    obtain ⟨x, hx⟩ := (c.rejudge i).1.car_tellRelay i
    refine ⟨x, ?_⟩
    rw [hc.rest, Block.car_tellRecallWork, Block.car_tellSelection]
    refine hx.trans ?_
    rw [Block.car_rejudge (by rw [hc.car, Block.entry?_congr hc.queue]; exact h) i, hc.car]

/-! ### Held-order slots -/

/-- The selected-awaiting condition, by the plan, the manual selection and the car's state (R131). -/
theorem Block.awaiting_eq (b : Block) (i : CarIx) :
    b.awaiting i = (decide (b.plan = .service) && b.inManual i && (b.car i).state.holdsRecall) := rfl

theorem Block.inManual_congr {b c : Block} (h : c.manual = b.manual) (i : CarIx) : c.inManual i = b.inManual i := by
  rw [Block.inManual, h, Block.inManual]

theorem Block.sendOrder_slot (b : Block) (i : CarIx) : ((b.sendOrder i).car i).slot = (b.car i).slot := by
  unfold Block.sendOrder
  split
  · rfl
  · dsimp only
    split <;> rw [Block.car_modCar_same, (b.sendCar_only _ _ _).car_eq] <;> rfl

theorem Block.sendOrderOnce_slot (b : Block) (i : CarIx) (wanted sent : Bool) :
    ((b.sendOrderOnce i wanted sent).car i).slot = (b.car i).slot := by
  unfold Block.sendOrderOnce
  split
  · exact b.sendOrder_slot i
  · rfl

theorem Block.rejudge_slot (b : Block) (i : CarIx) : ((b.rejudge i).1.car i).slot = (b.car i).slot := by
  by_cases h : b.entry? i = none ∨ (b.car i).state.reordered = false
  · rw [Block.car_rejudge h]
  · have hr : ∀ (e : Entry) (r : RefusalReason), ((b.removeEntry i).refuseBound i e.tag r).car i = b.car i := fun e r =>
      ((b.removeEntry i).refuseBound_only i e.tag r).car_eq i
    unfold Block.rejudge
    split
    · rfl
    · rename_i e he
      split
      · rw [hr]
      · split
        · rfl
        · split
          · rw [b.car_setEntryKind]
          · dsimp only
            split
            · rw [Block.sendOrder_slot, hr]
            · rw [hr]

/-- A closed slot stays closed while its car is not selected-awaiting (R140). -/
theorem Block.tellRelay_of_closed {b : Block} {i : CarIx} (h : (b.car i).slot = .closed) (ha : b.awaiting i = false) :
    b.tellRelay i = b := by
  unfold Block.tellRelay
  rw [ha, h]
  rfl

/-- A move to a state in which its car is not selected-awaiting leaves a closed slot closed (R131, R140). -/
theorem Block.move_closed {b : Block} {i : CarIx} {dest : RState} (r : Reason) (send : Bool) (h : (b.car i).slot = .closed)
    (ha : b.plan ≠ .service ∨ b.inManual i = false ∨ dest.holdsRecall = false) :
    ((b.move i dest r send).car i).slot = .closed := by
  unfold Block.move
  split
  · rw [Block.sendOrderOnce_slot, h]
  · obtain ⟨c, hc⟩ := b.changeState_noticed i dest r send
    rw [hc.rest, Block.car_tellRecallWork, Block.car_tellSelection]
    have hk := (c.rejudge_keeps i).trans ((c.rejudge i).1.sendOrderOnce_keeps i send (c.rejudge i).2)
    have ht := ((c.rejudge_touches i).trans ((c.rejudge i).1.sendOrderOnce_touches i send (c.rejudge i).2)).this
    have hslot : (((c.rejudge i).1.sendOrderOnce i send (c.rejudge i).2).car i).slot = .closed := by
      rw [Block.sendOrderOnce_slot, Block.rejudge_slot, hc.car]
      exact h
    have hstate : (((c.rejudge i).1.sendOrderOnce i send (c.rejudge i).2).car i).state = dest := by
      rw [ht.state, hc.car]; rfl
    rw [Block.tellRelay_of_closed hslot, hslot]
    rw [Block.awaiting_eq, Block.inManual_congr (hk.manual.trans hc.manual), hk.plan, hstate, hc.plan]
    rcases ha with ha | ha | ha <;> simp [ha]

/-- An arrival check leaves a closed slot closed where its car cannot be selected-awaiting (R131, R140). -/
theorem Block.arrivalCheck_closed {b : Block} {i : CarIx} (h : (b.car i).slot = .closed)
    (ha : b.plan ≠ .service ∨ b.inManual i = false) : ((b.arrivalCheck i).car i).slot = .closed := by
  have hm : ∀ {c : Block} {dest : RState}, (c.car i).slot = .closed → b.KeepsBudget c →
      ((c.move i dest .none false).car i).slot = .closed := fun {c dest} hs hk =>
    Block.move_closed _ _ hs <| ha.elim (fun hp => .inl (by rw [hk.plan]; exact hp))
      fun hi => .inr (.inl ((Block.inManual_congr hk.manual i).trans hi))
  unfold Block.arrivalCheck Block.land Block.park
  split
  · split
    · exact hm (hm h (.refl b)) (b.move_keeps i _ _ _)
    · exact hm (by rw [Block.car_modCar_same]; exact h) (b.modCar_keeps i _ ⟨rfl, rfl, rfl, rfl⟩)
  · exact h

/-- A dropped slot is closed (R141). -/
theorem Block.car_dropSlot (b : Block) (i : CarIx) : (b.dropSlot i).car i = (b.car i).withSlot .closed := by
  have hset : (b.setSlot i .closed).car i = (b.car i).withSlot .closed := b.car_modCar_same i _
  unfold Block.dropSlot
  split
  · rw [(Block.announce_only _ _ _).car_eq, hset]
  · exact hset

/-- Every held order is dropped, and no more of any car changes (R8, R13). -/
theorem Block.car_dropHeld (b : Block) (i : CarIx) : b.dropHeld.car i = (b.car i).withSlot .closed := by
  have hw : CarWise fun b i => if (b.car i).slot = .closed then b else b.dropSlot i := by
    refine ⟨fun b i => ?_, fun b i j h => ?_⟩
    · split
      · exact .refl b
      · exact b.dropSlot_keeps i
    · split
      · rfl
      · exact (b.dropSlot_touches i).others j h
  obtain ⟨c, -, hc, hr⟩ := hw.car_allCars b i
  rw [← hc]
  refine Eq.trans (hr : b.dropHeld.car i = _) ?_
  split
  · rename_i h
    rw [← h]; rfl
  · exact c.car_dropSlot i

/-! ### Frames of a move -/

@[simp] theorem Block.queue_sendOrder (b : Block) (i : CarIx) : (b.sendOrder i).queue = b.queue := by
  unfold Block.sendOrder
  split
  · rfl
  · dsimp only
    split <;> exact (b.sendCar_only _ _ _).sameQueue

/-- A move of a car without an entry leaves the queue (R110). -/
theorem Block.queue_move {b : Block} {i : CarIx} {dest : RState} (r : Reason) (send : Bool) (hq : b.entry? i = none) :
    (b.move i dest r send).queue = b.queue := by
  have once : ∀ (c : Block) (w s : Bool), (c.sendOrderOnce i w s).queue = c.queue := fun c w s => by
    unfold Block.sendOrderOnce; split <;> simp
  have tell : ∀ (c : Block) (old : RState) (n : Nat), ((c.tellSelection old dest).tellRecallWork n).queue = c.queue := fun c old n => by
    unfold Block.tellRecallWork Block.tellSelection; split <;> split <;> rfl
  unfold Block.move
  split
  · exact once b send false
  · obtain ⟨c, hc⟩ := b.changeState_noticed i dest r send
    rw [hc.rest, tell, Block.queue_tellRelay, once, Block.rejudge_of_none ((Block.entry?_congr hc.queue i).trans hq), hc.queue]

/-- A move of a car without an entry sends nothing on the C-port of itself, unless the car serves and its slot is released (R106,
R141). -/
theorem Block.cport_move {b : Block} {i : CarIx} {dest : RState} (r : Reason) (hq : b.entry? i = none) (hd : dest ≠ .serving) :
    (b.move i dest r false).cport = b.cport := by
  unfold Block.move
  split
  · rfl
  · obtain ⟨c, hc⟩ := b.changeState_noticed i dest r false
    rw [hc.rest, Block.cport_tellRecallWork, Block.cport_tellSelection,
      Block.rejudge_of_none ((Block.entry?_congr hc.queue i).trans hq)]
    exact (Block.cport_tellRelay c i (by rw [hc.car]; exact hd)).trans hc.cport

/-- A car's order, if it has one, sent where there is room (R100). -/
theorem Block.sendOrder_places_if (b : Block) (i : CarIx) :
    b.PlacesC (if (b.car i).order.isSome then [b.orderItem i] else []) (b.sendOrder i) := by
  split
  · rename_i h; exact Block.sendOrder_places h
  · rename_i h
    rw [Block.sendOrder_of_none (by simpa using h)]
    exact .nil rfl

/-- A move of a car without an entry that sends its order places no more than that (R100, R106). -/
theorem Block.move_places {b : Block} {i : CarIx} {dest : RState} (r : Reason) (hq : b.entry? i = none) (hd : dest ≠ .serving)
    (hk : dest.clearsOrder = false) :
    b.PlacesC (if (b.car i).order.isSome then [b.orderItem i] else []) (b.move i dest r true) := by
  unfold Block.move
  by_cases hs : (b.car i).state = dest
  · rw [if_pos hs]
    exact b.sendOrder_places_if i
  · rw [if_neg hs]
    obtain ⟨c, hc⟩ := b.changeState_noticed i dest r true
    have horder : (c.car i).order = (b.car i).order := by rw [hc.car]; simp [Car.enter, hk]
    have hsend := c.sendOrder_places_if i
    rw [horder, Block.orderItem_congr hc.active horder (by rw [hc.car]; rfl)] at hsend
    refine (Block.PlacesC.afterKeep hc.cport hsend).andKeep ?_
    rw [hc.rest, Block.cport_tellRecallWork, Block.cport_tellSelection,
      Block.rejudge_of_none ((Block.entry?_congr hc.queue i).trans hq)]
    refine Block.cport_tellRelay (c.sendOrder i) i ?_
    rw [(c.sendOrder_touches i).this.state, hc.car]
    exact hd

end Sys2Proof.Machine
end

section
/-! The end of a step that makes neither an evaluation nor a grant, and the plan changes that go no further than TRANSFER_WAIT,
MAINS_RETURN or NORMAL. -/

namespace Sys2Proof.Machine

/-! ### The end of a step -/

/-- The plan states in which a pass is allowed (R82). -/
def Plan.passes : Plan → Bool
  | .recall => true
  | .service => true
  | .mainsReturn => true
  | _ => false

theorem Block.passes_of_passAllowed {b : Block} (h : b.passAllowed = true) : b.plan.passes = true := by
  unfold Block.passAllowed at h
  cases hp : b.plan <;> simp_all [Plan.passes]

/-- Where no pass is allowed by the plan, or no entry waits, taking the trigger only clears it (R82). -/
theorem Block.takeTrigger_quiet {b : Block} (h : b.plan.passes = false ∨ b.queue = []) :
    ∃ x, b.takeTrigger = { b with arbDue := x } := by
  unfold Block.takeTrigger
  split
  · split
    · rename_i ha
      have hq : b.queue = [] := h.resolve_left fun hp => by rw [b.passes_of_passAllowed ha] at hp; cases hp
      exact ⟨false, by simp [Block.pass, hq, Block.scan]⟩
    · exact ⟨false, rfl⟩
  · exact ⟨_, rfl⟩

/-- Outside SERVICE, or with no evaluation due, taking the evaluation only clears it (R126). -/
theorem Block.takeEvaluation_quiet {b : Block} (h : b.plan ≠ .service ∨ b.evalDue = false) :
    ∃ x, b.takeEvaluation = { b with evalDue := x } := by
  unfold Block.takeEvaluation Block.evaluate
  split
  · rename_i hd
    rw [if_neg (h.resolve_right fun he => by rw [hd] at he; cases he)]
    exact ⟨_, rfl⟩
  · exact ⟨_, rfl⟩

/-- A record with other marks of its order-resend timer. -/
def Car.withResend (c : Car) (t : Timer) (unsent : Bool) : Car := { c with resendTimer := t, serveUnsent := unsent }

theorem syncResend_carWise : CarWise Block.syncResend :=
  ⟨fun b i => b.syncResend_keeps i, fun b i _ h => (b.syncResend_touches i).others _ h⟩

/-- Following the conditions of the order-resend timer changes its marks alone; in a state that is neither RECALL_PENDING nor SERVING
the timer is stopped (R101). -/
theorem Block.car_syncResend (b : Block) (i : CarIx) :
    ∃ t u, (b.syncResend i).car i = (b.car i).withResend t u ∧
      ((b.car i).state ≠ .recallPending → (b.car i).state ≠ .serving → t = none) := by
  unfold Block.syncResend
  split
  · rename_i hr
    have hs : ∀ t : Timer, (b.car i).state ≠ .recallPending → (b.car i).state ≠ .serving → t = none := fun t h1 h2 => by
      simp [Block.resendRuns, h1, h2] at hr
    split
    · exact ⟨(b.car i).resendTimer, _, rfl, hs _⟩
    · exact ⟨_, _, Block.car_modCar_same .., hs _⟩
  · split
    · rename_i h
      exact ⟨(b.car i).resendTimer, _, rfl, fun _ _ => by simp_all⟩
    · exact ⟨none, _, Block.car_modCar_same .., fun _ _ => rfl⟩

/-- The last part of a step, in which the order-resend timers follow their conditions, for all cars (R101). -/
structure Block.Resends (b b' : Block) : Prop where
  keeps : b.KeepsBudget b'
  queue : b'.queue = b.queue
  cport : b'.cport = b.cport
  marks : ∀ i, ∃ t u, b'.car i = (b.car i).withResend t u ∧
    ((b.car i).state ≠ .recallPending → (b.car i).state ≠ .serving → t = none)

theorem Block.queue_syncResend (b : Block) (i : CarIx) : (b.syncResend i).queue = b.queue := by
  unfold Block.syncResend
  repeat' split
  all_goals rfl

theorem Block.resendAll (b : Block) : b.Resends (allCars.foldl Block.syncResend b) where
  keeps := syncResend_carWise.foldl_keeps _ _
  queue := syncResend_carWise.foldl_same (fun c => c.queue) nodup_allCars b fun c i _ _ => c.queue_syncResend i
  cport := syncResend_carWise.foldl_same (fun c => c.cport) nodup_allCars b fun c i _ _ => c.cport_syncResend i
  marks i := by
    obtain ⟨c, -, hc, hr⟩ := syncResend_carWise.car_allCars b i
    rw [hr, ← hc]
    exact c.car_syncResend i

/-- The end of a step with no evaluation and no pass. -/
theorem Block.finish_quiet {b : Block} (he : b.plan ≠ .service ∨ b.evalDue = false)
    (hq : b.plan.passes = false ∨ b.queue = []) : b.Resends b.finish := by
  obtain ⟨x, hx⟩ := Block.takeEvaluation_quiet he
  obtain ⟨y, hy⟩ := Block.takeTrigger_quiet (b := { b with evalDue := x }) hq
  unfold Block.finish
  rw [hx, hy]
  obtain ⟨hk, hqueue, hport, hm⟩ := Block.resendAll { b with evalDue := x, arbDue := y }
  exact ⟨((b.evalDue_keeps x).trans (Block.queue_keeps _ b.queue y (.refl _))).trans hk, hqueue, hport, hm⟩

theorem Car.withResend_sameButMarks (c : Car) (t : Timer) (u : Bool) : c.SameButMarks (c.withResend t u) :=
  ⟨rfl, rfl, rfl, rfl, rfl, rfl, rfl, rfl, rfl, rfl, rfl, rfl⟩

theorem Block.Resends.sameButMarks {b b' : Block} (h : b.Resends b') (i : CarIx) : (b.car i).SameButMarks (b'.car i) := by
  obtain ⟨t, u, hc, -⟩ := h.marks i
  rw [hc]
  exact (b.car i).withResend_sameButMarks t u

theorem Block.Resends.slot {b b' : Block} (h : b.Resends b') (i : CarIx) : (b'.car i).slot = (b.car i).slot := by
  obtain ⟨t, u, hc, -⟩ := h.marks i
  rw [hc]; rfl

/-! ### A plan change -/

/-- A plan change sets the plan and its timer, and else only sends (R1, R16). -/
theorem Block.changePlan_only (b : Block) (p : Plan) :
    ({ b with plan := p, modeTimer := some Config.modeRepeat } : Block).OnlySends (b.changePlan p) :=
  (Block.sendMode_only _).trans (Block.planNotice_only _ _)

@[simp] theorem Block.plan_changePlan (b : Block) (p : Plan) : (b.changePlan p).plan = p := (b.changePlan_only p).plan

@[simp] theorem Block.modeTimer_changePlan (b : Block) (p : Plan) : (b.changePlan p).modeTimer = some 10 :=
  (b.changePlan_only p).modeTimer

@[simp] theorem Block.commitments_changePlan (b : Block) (p : Plan) : (b.changePlan p).commitments = b.commitments :=
  (b.changePlan_only p).commitments

@[simp] theorem Block.queue_changePlan (b : Block) (p : Plan) : (b.changePlan p).queue = b.queue := (b.changePlan_only p).sameQueue

@[simp] theorem Block.settleTimer_changePlan (b : Block) (p : Plan) : (b.changePlan p).settleTimer = b.settleTimer :=
  (b.changePlan_only p).settleTimer

@[simp] theorem Block.manual_changePlan (b : Block) (p : Plan) : (b.changePlan p).manual = b.manual := (b.changePlan_only p).manual

@[simp] theorem Block.active_changePlan (b : Block) (p : Plan) : (b.changePlan p).active = b.active := (b.changePlan_only p).active

@[simp] theorem Block.car_changePlan (b : Block) (p : Plan) (i : CarIx) : (b.changePlan p).car i = b.car i :=
  (b.changePlan_only p).car_eq i

/-! ### Entry into NORMAL (R14) -/

/-- The record that entry into NORMAL clears, before its state changes (R14, R120). -/
def Car.blank (c : Car) : Car :=
  { c with attempts := 0, doorAlarm := false, doorTimer := none, resendTimer := none, serveUnsent := false,
           selected := false, order := none, orderDeferred := false, reason := .none }

/-- The states that entry into NORMAL leaves a car in (R14). -/
def RState.staysInNormal : RState → Bool
  | .vacant => true
  | .unheard => true
  | .conflict => true
  | _ => false

theorem Block.normalCar_eq (b : Block) (i : CarIx) : b.normalCar i =
    if (b.car i).state.staysInNormal then b.modCar i Car.blank else (b.modCar i Car.blank).move i .inGroup := by
  unfold Block.normalCar
  cases h : (b.car i).state <;> rfl

theorem Car.cleared_blank {c : Car} (h : c.state.staysInNormal = true) : c.Cleared c.blank := by
  refine ⟨?_, rfl, rfl, rfl, rfl, rfl, rfl, rfl, ⟨rfl, rfl, rfl, rfl⟩⟩
  cases hs : c.state <;> simp_all [RState.staysInNormal, Car.blank]

theorem Car.cleared_inGroup {c : Car} (x : Slot) (h : c.state.staysInNormal = false) :
    c.Cleared ((c.blank.moved .inGroup .none).withSlot x) := by
  have hs : ((c.blank.moved .inGroup .none).withSlot x).state = .inGroup := Car.state_moved ..
  refine ⟨?_, ?_⟩
  · rw [hs]
    cases hc : c.state <;> simp_all [RState.staysInNormal]
  · unfold Car.moved
    split <;> exact ⟨rfl, rfl, rfl, rfl, rfl, rfl, rfl, ⟨rfl, rfl, rfl, rfl⟩⟩

/-- Entry into NORMAL clears a car (R14). -/
theorem Block.normalCar_cleared (b : Block) (i : CarIx) : (b.car i).Cleared ((b.normalCar i).car i) := by
  have hb : (b.modCar i Car.blank).car i = (b.car i).blank := b.car_modCar_same i _
  rw [b.normalCar_eq]
  split
  · rename_i h
    rw [hb]
    exact Car.cleared_blank h
  · rename_i h
    obtain ⟨x, hx⟩ := Block.car_move_quiet (b := b.modCar i Car.blank) (i := i) (dest := .inGroup) .none (.inr rfl)
    rw [hx, hb]
    exact Car.cleared_inGroup x (by simpa using h)

theorem Block.normalCar_others (b : Block) (i : CarIx) {j : CarIx} (h : j ≠ i) : (b.normalCar i).car j = b.car j := by
  rw [b.normalCar_eq]
  split
  · exact b.car_modCar_other _ h
  · rw [Block.car_move_other _ _ _ _ h, Block.car_modCar_other _ _ h]

theorem normalCar_carWise : CarWise Block.normalCar :=
  ⟨fun b i => b.normalCar_keeps i, fun b i _ h => b.normalCar_others i h⟩

/-- Entry into NORMAL leaves a closed slot closed. -/
theorem Block.normalCar_slot {b : Block} {i : CarIx} (h : (b.car i).slot = .closed) :
    ((b.normalCar i).car i).slot = .closed := by
  rw [b.normalCar_eq]
  split
  · rw [Block.car_modCar_same]; exact h
  · exact Block.move_closed _ _ (by rw [Block.car_modCar_same]; exact h) (.inr (.inr rfl))

/-- With an empty queue the cars' moves on entry into NORMAL send nothing on the C-port. -/
theorem Block.normalCar_cport {b : Block} {i : CarIx} (hq : b.queue = []) : (b.normalCar i).cport = b.cport := by
  rw [b.normalCar_eq]
  split
  · rfl
  · exact Block.cport_move _ (by simp [Block.entry?, hq]) (by decide)

/-- What remains queued where an operation only takes entries away from an empty queue. -/
theorem QueueShrinks.eq_nil {q r : List Entry} (h : QueueShrinks q r) (hq : q = []) : r = [] := by
  subst hq
  cases r with
  | nil => rfl
  | cons e r => exact absurd (h.1 e.car (by simp [queueCars])) (by simp [queueCars])

/-- A cleared record stays so when its marks follow (R14, R101). -/
theorem Car.Cleared.withResend {c d : Car} (h : c.Cleared d) {t : Timer} {u : Bool}
    (ht : d.state ≠ .recallPending → d.state ≠ .serving → t = none) : c.Cleared (d.withResend t u) := by
  obtain ⟨hs, hr, ha, ho, hd, hl, hf, -, hk⟩ := h
  have hne : d.state ≠ .recallPending ∧ d.state ≠ .serving := by rw [hs]; cases c.state <;> simp
  exact ⟨hs, hr, ha, ho, hd, hl, hf, ht hne.1 hne.2, hk.trans (d.withResend_sameButMarks t u |> fun k =>
    ⟨k.learned, k.bound, k.foreign, k.lastTag⟩)⟩

/-- What a step that enters NORMAL leaves (R14). -/
structure Block.InNormal (b t : Block) : Prop where
  plan        : t.plan = .normal
  modeTimer   : t.modeTimer = some 10
  commitments : t.commitments = []
  manual      : t.manual = none
  cleared     : ∀ i, (b.car i).Cleared (t.car i)
  queue       : b.queue = [] → t.queue = []
  slots       : (∀ i, (b.car i).slot = .closed) → ∀ i, (t.car i).slot = .closed
  sends       : b.queue = [] → b.PlacesC [ownItem (b.ownFrame 63 .modeFrame [0])] t

/-- NORMAL is entered from ADOPT, which discards the list, or with an empty list (R14). -/
theorem Block.enterNormal_inNormal {b : Block} (h : b.plan = .adopt ∨ b.commitments = []) : b.InNormal b.enterNormal.finish := by
  obtain ⟨b1, hb1, hc1, hq1, hcars, hport, hact⟩ : ∃ b1 : Block,
      b.enterNormal = allCars.foldl Block.normalCar { b1.changePlan .normal with manual := none } ∧ b1.commitments = [] ∧
        b1.queue = b.queue ∧ (∀ i, b1.car i = b.car i) ∧ b1.cport = b.cport ∧ b1.active = b.active := by
    unfold Block.enterNormal
    split
    · exact ⟨{ b with commitments := [] }, rfl, rfl, rfl, fun _ => rfl, rfl, rfl⟩
    · rename_i hp
      exact ⟨b, rfl, h.resolve_left hp, rfl, fun _ => rfl, rfl, rfl⟩
  rw [hb1]
  generalize hb2 : ({ b1.changePlan .normal with manual := none } : Block) = b2
  have hplan : b2.plan = .normal := by subst hb2; exact b1.plan_changePlan _
  have hcar : ∀ i, b2.car i = b.car i := by
    subst hb2; exact fun i => (b1.car_changePlan _ i).trans (hcars i)
  have hqueue : b2.queue = b.queue := by subst hb2; exact (b1.queue_changePlan _).trans hq1
  have hk := normalCar_carWise.foldl_keeps allCars b2
  have hend := Block.finish_quiet (b := allCars.foldl Block.normalCar b2) (.inl (by rw [hk.plan, hplan]; decide))
    (.inl (by rw [hk.plan, hplan]; rfl))
  have hkf := hk.trans hend.keeps
  refine ⟨hkf.plan.trans hplan, hkf.modeTimer.trans (by subst hb2; exact b1.modeTimer_changePlan _),
    hkf.commitments.trans (by subst hb2; exact (b1.commitments_changePlan _).trans hc1),
    hkf.manual.trans (by subst hb2; rfl), fun i => ?_, fun hq => ?_, fun hs i => ?_, fun hq => ?_⟩
  · obtain ⟨c, -, hc, hr⟩ := normalCar_carWise.car_allCars b2 i
    obtain ⟨t, u, ht, hn⟩ := hend.marks i
    rw [ht]
    rw [hr] at hn ⊢
    have := c.normalCar_cleared i
    rw [hc, hcar] at this
    exact this.withResend hn
  · exact hkf.queue.eq_nil (hqueue.trans hq)
  · rw [hend.slot]
    obtain ⟨c, -, hc, hr⟩ := normalCar_carWise.car_allCars b2 i
    rw [hr]
    exact Block.normalCar_slot (by rw [hc, hcar]; exact hs i)
  · have hmoves : b2.PlacesC [] (allCars.foldl Block.normalCar b2) :=
       normalCar_carWise.foldl_places (g := fun _ => []) nodup_allCars b2 fun c i hkc _ =>
        .nil (Block.normalCar_cport (hkc.queue.eq_nil (hqueue.trans hq)))
    have hframe : b1.ownFrame 63 .modeFrame [0] = b.ownFrame 63 .modeFrame [0] := by
      unfold Block.ownFrame Block.own; rw [hact]
    have hmode := ((b1.changePlan_places .normal).afterKeep hport).andKeep (d := b2) (by subst hb2; rfl)
    rw [← hframe]
    exact (hmode.trans hmoves).andKeep hend.cport

/-! ### Entry into MAINS_RETURN (R13) -/

/-- What a step that enters MAINS_RETURN leaves, before it goes on to NORMAL with an empty list (R13, R79). -/
structure Block.InReturn (b t : Block) : Prop where
  plan        : t.plan = .mainsReturn
  modeTimer   : t.modeTimer = some 10
  commitments : t.commitments = b.commitments
  manual      : t.manual = b.manual
  active      : t.active = b.active
  queue       : t.queue = []
  slots       : ∀ i, (t.car i).slot = .closed
  marks       : ∀ i, (b.car i).SameButMarks (t.car i)
  sends       : (∀ e ∈ b.queue, (b.car e.car).bound ≠ none) →
    b.PlacesC (ownItem (b.ownFrame 63 .modeFrame [1]) :: b.queue.map (b.flushItem 2)) t

theorem Block.inReturn (b : Block) : b.InReturn ((b.changePlan .mainsReturn).flush .mainsReturn).dropHeld := by
  have hk := ((b.changePlan .mainsReturn).flush_keeps .mainsReturn).trans (Block.dropHeld_keeps _)
  refine ⟨hk.plan.trans (by simp), hk.modeTimer.trans (by simp), hk.commitments.trans (by simp), hk.manual.trans (by simp),
    hk.active.trans (by simp), (Block.dropHeld_keeps _).queue.eq_nil (Block.queue_flush _ _), fun i => ?_, fun i => ?_,
    fun hb => ?_⟩
  · rw [Block.car_dropHeld]; rfl
  · rw [Block.car_dropHeld, Block.car_flush, Block.car_changePlan]
    exact ⟨rfl, rfl, rfl, rfl, rfl, rfl, rfl, rfl, rfl, rfl, rfl, rfl⟩
  · have hf := (b.changePlan .mainsReturn).flush_places .mainsReturn (by simpa using hb)
    have hitems : (b.changePlan .mainsReturn).queue.map ((b.changePlan .mainsReturn).flushItem RefusalReason.mainsReturn.code) =
        b.queue.map (b.flushItem 2) := by
      rw [Block.queue_changePlan]
      exact List.map_congr_left fun e _ => Block.flushItem_congr _ (by simp) (by simp)
    rw [hitems] at hf
    exact ((b.changePlan_places .mainsReturn).trans hf).andKeep (Block.cport_dropHeld _)

/-- A record cleared after no more than a change of its marks. -/
theorem Car.SameButMarks.cleared {c d e : Car} (h : c.SameButMarks d) (k : d.Cleared e) : c.Cleared e := by
  obtain ⟨hs, hr⟩ := k
  rw [h.state] at hs
  obtain ⟨h1, h2, h3, h4, h5, h6, h7, hk⟩ := hr
  exact ⟨hs, h1, h2, h3, h4, h5, h6, h7, Car.SameKnown.trans ⟨h.learned, h.bound, h.foreign, h.lastTag⟩ hk⟩

/-- What a step that enters MAINS_RETURN leaves (R13, R14, R79): MAINS_RETURN while a commitment runs on, else NORMAL. -/
structure Block.Returns (b t : Block) : Prop where
  modeTimer   : t.modeTimer = some 10
  commitments : t.commitments = b.commitments
  queue       : t.queue = []
  slots       : ∀ i, (t.car i).slot = .closed
  held        : b.commitments ≠ [] → t.plan = .mainsReturn ∧ t.manual = b.manual ∧ ∀ i, (b.car i).SameButMarks (t.car i)
  emptied     : b.commitments = [] → t.plan = .normal ∧ t.manual = none ∧ ∀ i, (b.car i).Cleared (t.car i)
  sendsHeld   : (∀ e ∈ b.queue, (b.car e.car).bound ≠ none) → b.commitments ≠ [] →
    b.PlacesC (ownItem (b.ownFrame 63 .modeFrame [1]) :: b.queue.map (b.flushItem 2)) t
  sendsEmptied : (∀ e ∈ b.queue, (b.car e.car).bound ≠ none) → b.commitments = [] →
    b.PlacesC (ownItem (b.ownFrame 63 .modeFrame [1]) :: (b.queue.map (b.flushItem 2) ++
      [ownItem (b.ownFrame 63 .modeFrame [0])])) t

theorem Block.enterMainsReturn_returns (b : Block) : b.Returns b.enterMainsReturn.finish := by
  have hr := b.inReturn
  unfold Block.enterMainsReturn
  dsimp only
  generalize ((b.changePlan .mainsReturn).flush .mainsReturn).dropHeld = r at hr
  by_cases hc : b.commitments = []
  · rw [if_pos (hr.commitments.trans hc)]
    have hn := Block.enterNormal_inNormal (b := r) (.inr (hr.commitments.trans hc))
    generalize r.enterNormal.finish = t at hn
    refine ⟨hn.modeTimer, hn.commitments.trans hc.symm, hn.queue hr.queue, hn.slots hr.slots, fun h => absurd hc h,
      fun _ => ⟨hn.plan, hn.manual, fun i => (hr.marks i).cleared (hn.cleared i)⟩, fun _ h => absurd hc h, fun hb _ => ?_⟩
    have hframe : r.ownFrame 63 .modeFrame [0] = b.ownFrame 63 .modeFrame [0] := by
      unfold Block.ownFrame Block.own; rw [hr.active]
    have hsend := (hr.sends hb).trans (hn.sends hr.queue)
    rwa [hframe] at hsend
  · rw [if_neg (fun h => hc (hr.commitments.symm.trans h))]
    have he := Block.finish_quiet (b := r) (.inl (by rw [hr.plan]; decide)) (.inr hr.queue)
    generalize r.finish = t at he
    exact ⟨he.keeps.modeTimer.trans hr.modeTimer, he.keeps.commitments.trans hr.commitments, he.queue.trans hr.queue,
      fun i => (he.slot i).trans (hr.slots i),
      fun _ => ⟨he.keeps.plan.trans hr.plan, he.keeps.manual.trans hr.manual,
        fun i => (hr.marks i).trans (he.sameButMarks i)⟩,
      fun h => absurd h hc, fun hb _ => (hr.sends hb).andKeep he.cport, fun _ h => absurd h hc⟩

end Sys2Proof.Machine
end

section
/-! The statements about the mode frame, the transfer-settle timer, and entry into NORMAL and MAINS_RETURN. -/

open Sys2Proof Sys2Proof.Machine

/-- Settles O18: the mode frame is one sending on the C-port with its mirror copy. -/
theorem modeFrameRepeats : Obligations.ModeFrameRepeats := by
  unfold Obligations.ModeFrameRepeats
  intro s hm
  have hcode : s.plan.powerMode.code = if s.plan = .normal then 0 else 1 := by cases s.plan <;> rfl
  refine ⟨_, if_pos hm, ?_⟩
  dsimp only
  rw [Block.sendMode, Block.sendCar_eq, ← hcode]
  exact ⟨rfl, rfl, rfl⟩

/-- Settles O12: a line event of GEN_READY sets the timer, and its expiry outside TRANSFER_WAIT enters no plan. -/
theorem transferSettleTimer : Obligations.TransferSettleTimer := by
  unfold Obligations.TransferSettleTimer
  refine fun s => ⟨fun hg => ?_, fun hg => ?_, fun ht hp => ?_⟩
  · exact if_neg (by simp [hg])
  · obtain ⟨b, hb, hg, ht, hs, hp⟩ : ∃ b : Block, exec .genReadyTakenNegated s = .next { s with toBlock := b.onGenNegated.finish } ∧
        b.gen.taken = false ∧ b.transferTimer = none ∧ b.genSettled = false ∧ b.plan = s.plan :=
      ⟨_, if_pos hg, rfl, rfl, rfl, rfl⟩
    have hf := b.onGenNegated.finish_keeps
    have hk := b.onGenNegated_keepBase.trans hf.toKeepsBase
    generalize b.onGenNegated.finish = t at hb hf hk
    refine ⟨_, hb, (congrArg Line.taken hk.gen).trans hg, hk.transferTimer.trans ht, hk.genSettled.trans hs, fun hr hs => ?_⟩
    refine hf.plan.trans ?_
    unfold Block.onGenNegated
    rw [hp]
    cases h : s.plan <;> simp_all
  · refine (if_pos ht).trans ?_
    rw [if_neg hp]

/-- Settles O16: both ways into NORMAL by `Block.enterNormal_inNormal`. -/
theorem normalIsEntered : Obligations.NormalIsEntered := by
  unfold Obligations.NormalIsEntered
  refine ⟨fun s ha hp hx => ?_, fun s hp hc => ?_, fun s h => ?_⟩
  · obtain ⟨b, hb, hbp, hbx, hbt, hcar⟩ : ∃ b : Block,
        exec .adoptionExpiry s = .next { s with toBlock := if s.plan = .adopt then b.leaveAdopt.finish else b } ∧
          b.plan = s.plan ∧ b.xfer = s.xfer ∧ b.adoptionTimer = none ∧ ∀ i, b.car i = s.toBlock.car i :=
      ⟨_, if_pos ha, rfl, rfl, rfl, fun _ => rfl⟩
    rw [if_pos hp, Block.leaveAdopt, hbx, if_neg (by simp [hx])] at hb
    have hn := b.enterNormal_inNormal (.inl (hbp.trans hp))
    have hk := b.enterNormal_keepBase.trans (Block.finish_keeps _).toKeepsBase
    generalize b.enterNormal.finish = t at hb hn hk
    exact ⟨_, hb, hn.plan, by rw [Block.emergActive, hn.plan]; rfl, by rw [Block.allRecalled, hn.plan]; rfl,
      hk.adoptionTimer.trans hbt, hn.modeTimer, hn.commitments, hn.manual, fun i => by have := hn.cleared i; rwa [hcar i] at this⟩
  · obtain ⟨b, hb, hbc, hcar⟩ : ∃ b : Block, exec .commitmentListEmpties s = .next { s with
          toBlock := if s.plan = .mainsReturn ∧ s.commitments = [] then b.enterNormal.finish else b } ∧
          b.commitments = s.commitments ∧ ∀ i, b.car i = s.toBlock.car i := ⟨_, rfl, rfl, fun _ => rfl⟩
    rw [if_pos ⟨hp, hc⟩] at hb
    have hn := b.enterNormal_inNormal (.inr (hbc.trans hc))
    generalize b.enterNormal.finish = t at hb hn
    exact ⟨_, hb, hn.plan, hn.modeTimer, hn.commitments, hn.manual, fun i => by have := hn.cleared i; rwa [hcar i] at this⟩
  · have hno : ¬ (s.plan = .mainsReturn ∧ s.commitments = []) := fun ⟨hp, hc⟩ => h.elim (· hp) (· hc)
    simp only [exec, execCommitmentListEmpties, if_neg hno]

/-- Settles O11: MAINS_RETURN is entered as `Block.enterMainsReturn_returns` says. -/
theorem mainsReturnFlushes : Obligations.MainsReturnFlushes := by
  unfold Obligations.MainsReturnFlushes
  intro s hx hp
  obtain ⟨b, hb, hb0, hbp⟩ : ∃ b : Block, exec .xferEmergTakenNegated s = .next { s with toBlock := b.onXferNegated.finish } ∧
      b = { s.toBlock with xfer := Line.took false } ∧ b.plan = s.plan := ⟨_, if_pos hx, rfl, rfl⟩
  have hk := b.onXferNegated_keepBase.trans b.onXferNegated.finish_keeps.toKeepsBase
  have hon : b.onXferNegated = b.enterMainsReturn := by
    unfold Block.onXferNegated
    rcases hp with h | h | h <;> rw [hbp, h]
  have hr := b.enterMainsReturn_returns
  rw [hon] at hb hk
  generalize b.enterMainsReturn.finish = t at hb hk hr
  subst hb0
  refine ⟨_, hb, congrArg Line.taken hk.xfer, hr.queue, hr.slots, hr.commitments, hk.active, hk.mgmt, hk.known, hr.modeTimer,
    hr.held, hr.emptied, fun hq => ⟨fun hc hroom => ?_, fun hc hroom => ?_⟩⟩
  · exact (hr.sendsHeld hq hc).tx hroom.1 (by simpa [Nat.add_comm] using hroom.2)
  · exact (hr.sendsEmptied hq hc).tx hroom.1 (by have := hroom.2; simp; omega)

end

section
/-! What an arbitration pass and an evaluation of the service set make of the cars. -/

namespace Sys2Proof.Machine

/-! ### A grant (R114) -/

theorem heldOrGranted.trans {a b c : RState} (h : heldOrGranted a b) (k : heldOrGranted b c) : heldOrGranted a c := by
  rcases h with rfl | ⟨ha, hb⟩
  · exact k
  · rcases k with rfl | ⟨hb', -⟩
    · exact .inr ⟨ha, hb⟩
    · rcases hb with hb | hb <;> simp [hb] at hb'

/-- What a pass leaves of a car: its state but for a grant, its order and attempts, and the flag and closed slot of a serving car. -/
structure Car.GrantOnly (c c' : Car) : Prop where
  state    : heldOrGranted c.state c'.state
  same     : c.SameOrder c'
  selected : c.state = .serving → c'.selected = c.selected
  slot     : c.state = .serving → c.slot = .closed → c'.slot = .closed

theorem Car.GrantOnly.refl (c : Car) : c.GrantOnly c := ⟨.inl rfl, .refl c, fun _ => rfl, fun _ => id⟩

/-- A serving car keeps its state through a grant. -/
theorem Car.GrantOnly.serving {c c' : Car} (h : c.GrantOnly c') (hs : c.state = .serving) : c'.state = .serving := by
  rcases h.state with h | ⟨h, -⟩
  · exact h.trans hs
  · rw [hs] at h; cases h

theorem Car.GrantOnly.trans {c d e : Car} (h : c.GrantOnly d) (k : d.GrantOnly e) : c.GrantOnly e :=
  ⟨h.state.trans k.state, h.same.trans k.same, fun hs => (k.selected (h.serving hs)).trans (h.selected hs),
    fun hs hc => k.slot (h.serving hs) (h.slot hs hc)⟩

/-- Following the conditions of the order-resend timers is no more than a grant is. -/
theorem Block.Resends.grantOnly {b b' : Block} (h : b.Resends b') (i : CarIx) : (b.car i).GrantOnly (b'.car i) :=
  have hm := h.sameButMarks i
  ⟨.inl hm.state, hm.sameOrder, fun _ => hm.selected, fun _ hc => (h.slot i).trans hc⟩

/-- The Restoration Controller is told of a grant (R114). -/
theorem Block.takeGrant_grantOnly (b : Block) (i : CarIx) (k : RunKind) (j : CarIx) :
    (b.car j).GrantOnly ((b.takeGrant i k).car j) := by
  unfold Block.takeGrant
  split
  · have hmod : (b.car j).GrantOnly ((b.modCar i fun c => { c with faultSeen := false }).car j) := by
      rw [Block.car_modCar]
      split
      · rename_i h; rw [h]; exact ⟨.inl rfl, ⟨rfl, rfl, id⟩, fun _ => rfl, fun _ => id⟩
      · exact .refl _
    dsimp only
    split
    · rename_i hs
      by_cases hj : j = i
      · subst hj
        have hg : grantState k = .recalling ∨ grantState k = .diverting := by cases k <;> simp [grantState]
        have hsame := Block.move_sameOrder (b.modCar j fun c => { c with faultSeen := false }) j (dest := grantState k) .none false
          (by rcases hg with hg | hg <;> rw [hg] <;> rfl)
        exact ⟨.inr ⟨hs, by rw [Block.state_move]; exact hg⟩, hmod.same.trans hsame, fun h => by simp [hs] at h,
          fun h => by simp [hs] at h⟩
      · rw [Block.car_move_other _ _ _ _ hj]; exact hmod
    · exact hmod
  · exact .refl _

theorem Block.takeGrant_others (b : Block) (i : CarIx) (k : RunKind) {j : CarIx} (h : j ≠ i) :
    (b.takeGrant i k).car j = b.car j := by
  unfold Block.takeGrant
  dsimp only
  repeat' split
  · rw [Block.car_move_other _ _ _ _ h, Block.car_modCar_other _ _ h]
  · exact b.car_modCar_other _ h
  · rfl

/-- A grant is a change of the queue and the list, a sending, and telling the Restoration Controller (R85). -/
theorem Block.grantEntry_eq (b : Block) (e : Entry) (noted : List CarIx) : ∃ c : Block, b.grantEntry e noted = c.takeGrant e.car e.kind ∧
    (∀ i, c.car i = b.car i) ∧ c.commitments = b.commitments ++ [e.commitment b.active.plan] := by
  unfold Block.grantEntry
  dsimp only
  have hs := fun c : Block => c.sendGrant_only e.car e.tag b.active.plan.tGrant
  exact ⟨_, rfl, fun i => (hs _).car_eq i, (hs _).commitments⟩

/-- What a pass grants waits in the queue (R84). -/
theorem Block.scan_mem {b : Block} {q : List Entry} {l : List CarIx} {e : Entry} {noted : List CarIx}
    (h : b.scan q l = some (e, noted)) : e ∈ q := by
  induction q generalizing l with
  | nil => cases h
  | cons x q ih =>
    unfold Block.scan at h
    split at h
    · exact List.mem_cons_of_mem _ (ih h)
    · split at h
      · cases h; exact List.mem_cons_self
      · split at h
        · cases h
        · exact List.mem_cons_of_mem _ (ih h)
      · exact List.mem_cons_of_mem _ (ih h)
      · exact List.mem_cons_of_mem _ (ih h)

/-- What a trigger can do: nothing but clear its mark, or grant an entry that waits (R82, R85). -/
theorem Block.takeTrigger_cases (b : Block) : (∃ x, b.takeTrigger = { b with arbDue := x }) ∨
    ∃ e noted, e ∈ b.queue ∧ b.takeTrigger = { b.grantEntry e noted with arbDue := false } := by
  unfold Block.takeTrigger
  split
  · split
    · unfold Block.pass
      split
      · exact .inl ⟨false, rfl⟩
      · rename_i h
        exact .inr ⟨_, _, Block.scan_mem h, rfl⟩
    · exact .inl ⟨false, rfl⟩
  · exact .inl ⟨_, rfl⟩

theorem Block.takeTrigger_grantOnly (b : Block) (i : CarIx) : (b.car i).GrantOnly (b.takeTrigger.car i) := by
  rcases b.takeTrigger_cases with ⟨x, hx⟩ | ⟨e, noted, -, hx⟩
  · rw [hx]; exact .refl _
  · obtain ⟨c, hc, hcar, -⟩ := b.grantEntry_eq e noted
    rw [hx, hc, ← hcar i]
    exact c.takeGrant_grantOnly e.car e.kind i

/-- A trigger only adds to the commitments in the list (R56). -/
theorem Block.takeTrigger_commitments (b : Block) : b.commitments <+: b.takeTrigger.commitments := by
  rcases b.takeTrigger_cases with ⟨x, hx⟩ | ⟨e, noted, -, hx⟩
  · rw [hx]
  · obtain ⟨c, hc, -, hl⟩ := b.grantEntry_eq e noted
    have hg : (b.grantEntry e noted).commitments = b.commitments ++ [e.commitment b.active.plan] := by
      rw [hc, (c.takeGrant_keeps _ _).commitments, hl]
    rw [hx]
    exact ⟨_, hg.symm⟩

/-- A trigger leaves a car without an entry as it is. -/
theorem Block.takeTrigger_unqueued {b : Block} {i : CarIx} (h : i ∉ queueCars b.queue) : b.takeTrigger.car i = b.car i := by
  rcases b.takeTrigger_cases with ⟨x, hx⟩ | ⟨e, noted, he, hx⟩
  · rw [hx]; rfl
  · obtain ⟨c, hc, hcar, -⟩ := b.grantEntry_eq e noted
    rw [hx, hc, ← hcar i]
    exact c.takeGrant_others e.car e.kind fun hi => h (hi ▸ List.mem_map_of_mem he)

/-- The end of a step grants at most, after the evaluation that is due. -/
theorem Block.finish_grantOnly (b : Block) (i : CarIx) : (b.takeEvaluation.car i).GrantOnly (b.finish.car i) :=
  (b.takeEvaluation.takeTrigger_grantOnly i).trans ((Block.resendAll _).grantOnly i)

theorem Block.finish_commitments (b : Block) : b.commitments <+: b.finish.commitments := by
  have h := b.takeEvaluation.takeTrigger_commitments
  rw [b.takeEvaluation_keeps.commitments] at h
  rwa [Block.finish, (Block.resendAll _).keeps.commitments]

/-- The end of a step leaves the state and the held-back order of a car without an entry. -/
theorem Block.finish_unqueued {b : Block} {i : CarIx} (h : i ∉ queueCars b.queue) :
    (b.finish.car i).state = (b.takeEvaluation.car i).state ∧
      (b.finish.car i).orderDeferred = (b.takeEvaluation.car i).orderDeferred := by
  have ht := Block.takeTrigger_unqueued (b := b.takeEvaluation) fun hi => h (b.takeEvaluation_keeps.queue.1 i hi)
  obtain ⟨t, u, hm, -⟩ := (Block.resendAll b.takeEvaluation.takeTrigger).marks i
  rw [Block.finish, hm, ht]
  exact ⟨rfl, rfl⟩

/-! ### Where a recalled car comes to stand (R112, R117) -/

/-- What entry into RECALL makes of a car depends on its configuration, its learned part, its commitment, and its order if it is
RECALL_PENDING. -/
theorem Block.recallState_congr {b c : Block} {i : CarIx} {st : RState} (ha : c.active = b.active)
    (hl : (c.car i).learned = (b.car i).learned) (hc : c.commitments = b.commitments)
    (ho : st = .recallPending → (c.car i).order = (b.car i).order) : c.recallState i st = b.recallState i st := by
  unfold Block.recallState Block.recalledTo Block.recallPark Block.commitment? Block.conf
  rw [ha, hl, hc]
  cases st with
  | recallPending => rw [ho rfl]
  | _ => rfl

/-- The arrival check of a RECALL_PENDING car (R112). -/
theorem Block.arrivalCheck_pending {b : Block} {i : CarIx} (hp : b.plan = .recall ∨ b.plan = .service)
    (hs : (b.car i).state = .recallPending) : ((b.arrivalCheck i).car i).state = b.recallState i .recallPending := by
  have hplan : (decide (b.plan = .recall) || decide (b.plan = .service)) = true := by rcases hp with h | h <;> simp [h]
  rw [Block.state_arrivalCheck]
  unfold Block.arrives Block.recallState Block.recalledTo Block.recallPark parkState orderLanding Learned.stoppedAt
  rw [hplan, hs]
  rcases ho : (b.car i).order with _ | (p | p | _) <;> simp [and_assoc]

/-- A car with a RECALL order to its recall landing comes to stand as a STANDING car does that gets that order (R10, R132). -/
theorem Block.recallState_recall {b c : Block} {i : CarIx}
    (hl : (c.car i).learned = (b.car i).learned) (hc : c.commitments = b.commitments)
    (ho : (c.car i).order = some (.recall (b.conf i).recallLanding)) :
    c.recallState i .recallPending = b.recallState i .standing := by
  unfold Block.recallState Block.recalledTo Block.recallPark Block.commitment?
  rw [ho, hl, hc]

/-! ### Selecting and releasing (R129, R132) -/

/-- A parked car that an evaluation has selected (R129). -/
structure Car.Selected (c c' : Car) : Prop where
  state    : c'.state = .serving
  selected : c'.selected = true
  order    : c'.order = some .serve
  slot     : c'.slot = .closed
  attempts : c'.attempts = c.attempts

/-- A serving car that an evaluation has released (R132): as it stands once its RECALL order is decided, or with the order held back
while it holds a commitment. -/
structure Block.Released (b : Block) (i : CarIx) (c' : Car) : Prop where
  state    : c'.state = b.recallState i .standing
  selected : c'.selected = false
  order    : c'.order = some (.recall (b.conf i).recallLanding)
  attempts : c'.attempts = (b.car i).attempts
  delayed  : b.commitment? i ≠ none → i ∉ queueCars b.queue → c'.state = .recallPending ∧ c'.orderDeferred = true
  slot     : b.inManual i = false → (b.car i).slot = .closed → c'.slot = .closed

theorem Block.Released.congr {b c : Block} {i : CarIx} {c' : Car} (h : c.Released i c') (ha : c.active = b.active)
    (hm : c.commitments = b.commitments) (hq : QueueShrinks b.queue c.queue) (hs : c.manual = b.manual) (hc : c.car i = b.car i) : b.Released i c' where
  state := h.state.trans (Block.recallState_congr ha (by rw [hc]) hm fun h => by cases h)
  selected := h.selected
  order := h.order.trans (by rw [Block.conf, ha, Block.conf])
  attempts := h.attempts.trans (by rw [hc])
  delayed hn hi := h.delayed (by rw [Block.commitment?, hm]; exact hn) fun hj => hi (hq.1 i hj)
  slot hn hcl := h.slot ((Block.inManual_congr hs i).trans hn) (by rw [hc]; exact hcl)

/-- A released slot is closed (R141). -/
theorem Block.releaseSlot_slot (b : Block) (i : CarIx) : ((b.releaseSlot i).car i).slot = .closed := by
  have hset : ((b.setSlot i .closed).car i).slot = .closed := by rw [Block.setSlot, Block.car_modCar_same]
  unfold Block.releaseSlot
  split
  · rw [((Block.relayTo_only _ _ _).trans (Block.announce_only _ _ _)).car_eq, hset]
  · exact hset

/-- A car that is made SERVING has its slot closed (R131, R141). -/
theorem Block.tellRelay_serving {b : Block} {i : CarIx} (h : (b.car i).state = .serving) :
    ((b.tellRelay i).car i).slot = .closed := by
  have ha : b.awaiting i = false := by rw [Block.awaiting_eq, h]; simp [RState.holdsRecall]
  unfold Block.tellRelay
  rw [ha, if_neg (by decide), if_pos h]
  split
  · assumption
  · exact b.releaseSlot_slot i

/-- A selected car serves, with its flag, its order and its slot closed (R129). -/
theorem Block.selectCar_selected {b : Block} {i : CarIx} (h : (b.car i).state ≠ .serving) :
    (b.car i).Selected ((b.selectCar i).car i) := by
  unfold Block.selectCar
  generalize hb1 : b.modCar i (fun c => { c with selected := true, order := some .serve }) = b1
  have hcar : b1.car i = { b.car i with selected := true, order := some .serve } := by subst hb1; exact b.car_modCar_same i _
  have ht := (b1.move_touches i .serving .none true).this
  have hm : (b1.car i).moved .serving .none = (b1.car i).enter .serving .none := if_neg (by rw [hcar]; exact h)
  rw [hm] at ht
  refine ⟨ht.state, ht.selected.trans (by rw [hcar]; rfl), ht.order.trans (by rw [hcar]; rfl), ?_,
    ht.attempts.trans (by rw [hcar]; rfl)⟩
  unfold Block.move
  rw [if_neg (by rw [hcar]; exact h)]
  obtain ⟨c, hc⟩ := b1.changeState_noticed i .serving .none true
  rw [hc.rest, Block.car_tellRecallWork, Block.car_tellSelection]
  refine Block.tellRelay_serving ?_
  rw [(Block.sendOrderOnce_touches _ i _ _).this.state, (Block.rejudge_touches _ i).this.state, hc.car]
  rfl

/-- A released car has its RECALL order, and the arrival check is made, or the order is held back (R132). -/
theorem Block.releaseCar_released {b : Block} {i : CarIx} (hp : b.plan = .service) (h : (b.car i).state = .serving) :
    b.Released i ((b.releaseCar i).car i) := by
  have hs : ∀ f : Car → Car, (f (b.car i)).state = .serving → ((b.modCar i f).car i).state ≠ .recallPending := fun f hf => by
    rw [Block.car_modCar_same, hf]; decide
  unfold Block.releaseCar
  by_cases hm : b.commitment? i = none
  · rw [if_neg (by simp [hm])]
    generalize hb1 : b.setOrder i (some (.recall (b.conf i).recallLanding)) = b1
    have hcar : b1.car i = { b.car i with order := some (.recall (b.conf i).recallLanding) } := by
      subst hb1; exact b.car_modCar_same i _
    have hk : b.KeepsBudget b1 := by subst hb1; exact b.setOrder_keeps i _
    have hk2 := hk.trans (b1.move_keeps i .recallPending .none true)
    have hsame := (b1.move_sameOrder i (dest := .recallPending) .none true rfl).trans (Block.arrivalCheck_sameOrder _ i)
    have hsel := Block.selected_move b1 i (dest := .recallPending) .none true (by rw [hcar, h]; decide) (by decide)
    have hord : ((b1.move i .recallPending .none true).car i).order = some (.recall (b.conf i).recallLanding) := by
      rw [(b1.move_sameOrder i (dest := .recallPending) .none true rfl).order, hcar]
    refine ⟨?_, (Block.arrivalCheck_sameOrder _ i).selected hsel, ?_, ?_, fun hc => absurd hm hc,
      fun hn hcl => ?_⟩
    · rw [Block.arrivalCheck_pending (.inr (hk2.plan.trans hp)) (Block.state_move ..)]
      exact Block.recallState_recall (hk2.known i).learned hk2.commitments hord
    · rw [hsame.order, hcar]
    · rw [hsame.attempts, hcar]
    · have hman : ∀ {c : Block}, b.KeepsBudget c → c.inManual i = false := fun hkc =>
        (Block.inManual_congr hkc.manual i).trans hn
      exact Block.arrivalCheck_closed (Block.move_closed .none true (by rw [hcar]; exact hcl) (.inr (.inl (hman hk))))
        (.inr (hman hk2))
  · rw [if_pos (Option.isSome_iff_ne_none.mpr hm)]
    generalize hb1 : b.modCar i (fun c => { c with order := some (.recall (b.conf i).recallLanding), orderDeferred := true }) = b1
    have hcar : b1.car i = { b.car i with order := some (.recall (b.conf i).recallLanding), orderDeferred := true } := by
      subst hb1; exact b.car_modCar_same i _
    have hqueue : b1.queue = b.queue := by subst hb1; rfl
    have hman : b1.manual = b.manual := by subst hb1; rfl
    have hsame := b1.move_sameOrder i (dest := .recallPending) .none false rfl
    refine ⟨?_, Block.selected_move b1 i .none false (by rw [hcar, h]; decide) (by decide), by rw [hsame.order, hcar],
      by rw [hsame.attempts, hcar], fun _ hq => ⟨Block.state_move .., ?_⟩,
      fun hn hcl => Block.move_closed .none false (by rw [hcar]; exact hcl)
        (.inr (.inl ((Block.inManual_congr hman i).trans hn)))⟩
    · rw [Block.state_move]
      simp [Block.recallState, Block.recalledTo, hm]
    · have hnone : b1.entry? i = none := by
        rw [Block.entry?, hqueue, List.find?_eq_none]
        exact fun e he hi => hq (List.mem_map.mpr ⟨e, he, by simpa using hi⟩)
      obtain ⟨x, hx⟩ := Block.car_move_quiet (dest := .recallPending) .none (.inl hnone)
      rw [hx, Car.moved, if_neg (by rw [hcar, h]; decide), hcar]
      rfl

/-! ### An evaluation (R126, R129) -/

/-- What an evaluation makes of a car that is in the service set or not (R129): a parked car in the set is selected, a serving car
that is not in it is released, and no other car changes. -/
def Block.EvaluatedCar (b : Block) (chosen : Bool) (i : CarIx) (c' : Car) : Prop :=
  if (b.car i).state.isParked = true then (if chosen then (b.car i).Selected c' else c' = b.car i)
  else if (b.car i).state = .serving then (if chosen then c' = b.car i else b.Released i c')
  else c' = b.car i

theorem Block.releaseCar_others (b : Block) (i : CarIx) {j : CarIx} (h : j ≠ i) : (b.releaseCar i).car j = b.car j := by
  unfold Block.releaseCar Block.setOrder
  dsimp only
  split
  · rw [Block.car_move_other _ _ _ _ h, Block.car_modCar_other _ _ h]
  · rw [Block.arrivalCheck_others _ _ h, Block.car_move_other _ _ _ _ h, Block.car_modCar_other _ _ h]

theorem evaluateCar_carWise (set : List CarIx) : CarWise (Block.evaluateCar set) := by
  refine ⟨fun b i => Block.evaluateCar_keeps set b i, fun b i j h => ?_⟩
  unfold Block.evaluateCar Block.selectCar
  repeat' split
  · rw [Block.car_move_other _ _ _ _ h, Block.car_modCar_other _ _ h]
  · rfl
  · rfl
  · exact b.releaseCar_others i h
  · rfl

theorem Block.evaluateCar_evaluated {b : Block} (hp : b.plan = .service) (set : List CarIx) (i : CarIx) :
    b.EvaluatedCar (set.contains i) i ((Block.evaluateCar set b i).car i) := by
  unfold Block.EvaluatedCar Block.evaluateCar
  by_cases hk : (b.car i).state.isParked = true
  · rw [if_pos hk, if_pos hk]
    split
    · exact Block.selectCar_selected fun hs => by rw [hs] at hk; cases hk
    · rfl
  · rw [if_neg hk, if_neg hk]
    by_cases hs : (b.car i).state = .serving
    · rw [if_pos hs, if_pos hs]
      split
      · rfl
      · exact Block.releaseCar_released hp hs
    · rw [if_neg hs, if_neg hs]

theorem Block.EvaluatedCar.congr {b c : Block} {chosen : Bool} {i : CarIx} {c' : Car} (h : c.EvaluatedCar chosen i c')
    (ha : c.active = b.active) (hm : c.commitments = b.commitments) (hq : QueueShrinks b.queue c.queue)
    (hm' : c.manual = b.manual) (hc : c.car i = b.car i) : b.EvaluatedCar chosen i c' := by
  unfold Block.EvaluatedCar at h ⊢
  rw [hc] at h
  by_cases hp : (b.car i).state.isParked = true
  · rwa [if_pos hp] at h ⊢
  · rw [if_neg hp] at h ⊢
    by_cases hs : (b.car i).state = .serving
    · rw [if_pos hs] at h ⊢
      split at h
      · rwa [if_pos ‹_›]
      · rw [if_neg ‹_›]; exact h.congr ha hm hq hm' hc
    · rwa [if_neg hs] at h ⊢

/-! ### The service set (R127, R128) -/

theorem Block.eligible_eq_counts (b : Block) (i : CarIx) : b.eligible i = b.counts i := by
  unfold Block.eligible Block.counts
  cases (b.car i).state <;> simp

theorem Block.outranks_iff (b : Block) (j i : CarIx) : b.outranks j i = true ↔
    (b.conf i).cls < (b.conf j).cls ∨ ((b.conf j).cls = (b.conf i).cls ∧ j.val < i.val) := by
  simp [Block.outranks]

theorem Block.outranks_trans {b : Block} {i j k : CarIx} (h : b.outranks i j = true) (h' : b.outranks j k = true) :
    b.outranks i k = true := by
  rw [Block.outranks_iff] at h h' ⊢
  omega

theorem Block.not_outranks_of_outranks {b : Block} {i j : CarIx} (h : b.outranks i j = true) : b.outranks j i = false := by
  rw [← Bool.not_eq_true, Block.outranks_iff]
  rw [Block.outranks_iff] at h
  omega

theorem Block.rankInsert_perm (b : Block) (i : CarIx) (l : List CarIx) : (b.rankInsert i l).Perm (i :: l) := by
  induction l with
  | nil => exact .refl _
  | cons j l ih =>
    unfold Block.rankInsert
    split
    · exact .refl _
    · exact (ih.cons j).trans (.swap i j l)

/-- Inserting the car with the highest number so far keeps the ranking (R127). -/
theorem Block.rankInsert_ranked {b : Block} {i : CarIx} {l : List CarIx} (h : l.Pairwise fun j k => b.outranks j k = true)
    (hi : ∀ j ∈ l, j < i) : (b.rankInsert i l).Pairwise fun j k => b.outranks j k = true := by
  induction l with
  | nil => exact List.pairwise_singleton _ _
  | cons j l ih =>
    obtain ⟨hj, hl⟩ := List.pairwise_cons.mp h
    unfold Block.rankInsert
    split
    · rename_i hlt
      have hij : b.outranks i j = true := by simp [Block.outranks, hlt]
      refine List.pairwise_cons.mpr ⟨fun k hk => ?_, h⟩
      rcases List.mem_cons.mp hk with rfl | hk
      · exact hij
      · exact Block.outranks_trans hij (hj k hk)
    · rename_i hle
      have hji : b.outranks j i = true := by
        have hlt : j.val < i.val := hi j (by simp)
        rw [Block.outranks_iff]
        omega
      refine List.pairwise_cons.mpr ⟨fun k hk => ?_, ih hl fun k hk => hi k (by simp [hk])⟩
      rcases List.mem_cons.mp ((b.rankInsert_perm i l).subset hk) with rfl | hk
      · exact hji
      · exact hj k hk

/-- Cars inserted in number order stand in the ranking (R127). -/
theorem Block.foldl_rankInsert {b : Block} {l r : List CarIx} (hr : r.Pairwise fun j k => b.outranks j k = true)
    (hl : l.Pairwise (· < ·)) (h : ∀ j ∈ r, ∀ i ∈ l, j < i) :
    (l.foldl (fun l i => b.rankInsert i l) r).Pairwise (fun j k => b.outranks j k = true) ∧
      (l.foldl (fun l i => b.rankInsert i l) r).Perm (l ++ r) := by
  induction l generalizing r with
  | nil => exact ⟨hr, .refl _⟩
  | cons i l ih =>
    obtain ⟨hil, hl⟩ := List.pairwise_cons.mp hl
    obtain ⟨h1, h2⟩ := ih (Block.rankInsert_ranked hr fun j hj => h j hj i (by simp)) hl fun j hj k hk => by
      rcases List.mem_cons.mp ((b.rankInsert_perm i r).subset hj) with rfl | hj
      · exact hil k hk
      · exact h j hj k (by simp [hk])
    exact ⟨h1, h2.trans ((List.Perm.append_left l (b.rankInsert_perm i r)).trans List.perm_middle)⟩

/-- The ranking holds the eligible cars in order of rank (R127). -/
theorem Block.ranking_spec (b : Block) :
    b.ranking.Pairwise (fun j k => b.outranks j k = true) ∧ b.ranking.Perm (allCars.filter b.counts) := by
  have hsorted : allCars.Pairwise (· < ·) := by decide
  have heq : b.eligible = b.counts := funext b.eligible_eq_counts
  have h := Block.foldl_rankInsert (b := b) List.Pairwise.nil (hsorted.filter b.eligible) (by simp)
  rw [heq, List.append_nil] at h
  rw [Block.ranking, heq]
  exact h

/-- In a ranked list the first n are those that fewer than n outrank. -/
theorem Block.mem_take_ranked {b : Block} {l : List CarIx} (h : l.Pairwise fun j k => b.outranks j k = true) (n : Nat) (i : CarIx) :
    i ∈ l.take n ↔ i ∈ l ∧ (l.filter fun j => b.outranks j i).length < n := by
  induction l generalizing n with
  | nil => simp
  | cons j l ih =>
    obtain ⟨hj, hl⟩ := List.pairwise_cons.mp h
    cases n with
    | zero => simp
    | succ n =>
      rw [List.take_succ_cons, List.mem_cons, List.mem_cons, ih hl n]
      by_cases hij : i = j
      · subst hij
        have hself : b.outranks i i = false := by simp [Block.outranks]
        have hnone : (l.filter fun j => b.outranks j i) = [] :=
          List.filter_eq_nil_iff.mpr fun k hk => by simp [Block.not_outranks_of_outranks (hj k hk)]
        simp [hself, hnone]
      · by_cases hi : i ∈ l
        · simp [hj i hi, hij, hi]
        · simp [hij, hi]

/-- The service set that the model computes is the set of the chosen cars (R127, R128). -/
theorem Block.contains_serviceSet (b : Block) (i : CarIx) : b.serviceSet.contains i = b.chosen i := by
  unfold Block.serviceSet Block.chosen
  cases b.manual with
  | some l => rfl
  | none =>
    obtain ⟨hr, hp⟩ := b.ranking_spec
    have hlen : (b.ranking.filter fun j => b.outranks j i).length =
        (allCars.filter fun j => b.counts j && b.outranks j i).length := by
      rw [(hp.filter _).length_eq, List.filter_filter]
      simp [Bool.and_comm]
    have hmem : i ∈ b.ranking ↔ b.counts i = true := by simp [hp.mem_iff, mem_allCars]
    have hsize : b.serviceSize = b.setSize := rfl
    rw [Bool.eq_iff_iff, List.contains_iff_mem, Block.mem_take_ranked hr, hlen, hmem, hsize]
    simp

/-- What the choice of the service set depends on (R127, R128). -/
theorem Block.chosen_congr {b c : Block} (ha : c.active = b.active) (hm : c.manual = b.manual) (hf : c.fallback = b.fallback)
    (hd : c.derate = b.derate) (hc : ∀ i, c.car i = b.car i) (i : CarIx) : c.chosen i = b.chosen i := by
  have hcounts : c.counts = b.counts := funext fun j => by rw [Block.counts, hc, Block.counts]
  have hrank : c.outranks = b.outranks := funext fun j => funext fun k => by
    rw [Block.outranks, Block.conf, Block.conf, ha]; rfl
  have hsize : c.setSize = b.setSize := by rw [Block.setSize, hf, hd, ha, Block.setSize]
  rw [Block.chosen, hm, hcounts, hrank, hsize]
  rfl

/-- An evaluation in SERVICE treats every car by whether it is chosen (R129). -/
theorem Block.evaluate_car {b : Block} (hp : b.plan = .service) (i : CarIx) :
    b.EvaluatedCar (b.chosen i) i (b.evaluate.car i) := by
  obtain ⟨c, hk, hc, hr⟩ := (evaluateCar_carWise b.serviceSet).car_allCars b i
  have he : b.evaluate.car i = (Block.evaluateCar b.serviceSet c i).car i := by
    unfold Block.evaluate
    rw [if_pos hp]
    generalize allCars.foldl (Block.evaluateCar b.serviceSet) b = d at hr ⊢
    exact hr
  rw [he, ← b.contains_serviceSet]
  exact (Block.evaluateCar_evaluated (hk.plan.trans hp) b.serviceSet i).congr hk.active hk.commitments hk.queue hk.manual hc

/-! ### A step with an evaluation -/

/-- What a step with an evaluation makes of the cars: what the evaluation does, and at most a grant behind it, which a car without
an entry does not get. -/
def Block.EvalThenGrants (b t : Block) : Prop :=
  ∀ i, ∃ e, b.EvaluatedCar (b.chosen i) i e ∧ e.GrantOnly (t.car i) ∧
    (i ∉ queueCars b.queue → (t.car i).state = e.state ∧ (t.car i).orderDeferred = e.orderDeferred)

theorem Block.EvalThenGrants.congr {b c t : Block} (h : c.EvalThenGrants t) (ha : c.active = b.active)
    (hm : c.commitments = b.commitments) (hq : c.queue = b.queue) (hs : c.manual = b.manual) (hf : c.fallback = b.fallback)
    (hd : c.derate = b.derate) (hc : ∀ i, c.car i = b.car i) : b.EvalThenGrants t := fun i => by
  obtain ⟨e, he, hg, hu⟩ := h i
  rw [Block.chosen_congr ha hs hf hd hc] at he
  exact ⟨e, he.congr ha hm (hq ▸ .refl _) hs (hc i), hg, hq ▸ hu⟩

/-- A step that ends with an evaluation due (R126). -/
theorem Block.finish_evalThenGrants {b : Block} (hp : b.plan = .service) (hd : b.evalDue = true) : b.EvalThenGrants b.finish := by
  intro i
  have he : b.takeEvaluation = b.evaluate := if_pos hd
  refine ⟨b.evaluate.car i, Block.evaluate_car hp i, he ▸ b.finish_grantOnly i, fun hi => ?_⟩
  have := Block.finish_unqueued hi
  rwa [he] at this

theorem RState.isParked_iff (st : RState) : st.isParked = true ↔ st = .parked ∨ st = .parkedAway := by
  cases st <;> simp [RState.isParked]

/-- A car that is not RECALL_PENDING keeps its state through a grant. -/
theorem Car.GrantOnly.keepsState {c c' : Car} (h : c.GrantOnly c') (hs : c.state ≠ .recallPending) : c'.state = c.state :=
  h.state.resolve_right fun k => hs k.1

/-- With the budget in order, such a step is what the statements call an evaluation (R129, R132). -/
theorem Block.EvalThenGrants.evaluated {b t : Block} (h : b.EvalThenGrants t) (hb : b.BudgetOk) : b.Evaluated t := by
  have parked : ∀ {i}, (b.car i).state = .parked ∨ (b.car i).state = .parkedAway → (b.car i).state.isParked = true :=
    fun hs => (RState.isParked_iff _).mpr hs
  have serving : ∀ {i}, (b.car i).state = .serving → ¬ (b.car i).state.isParked = true := fun hs => by rw [hs]; decide
  have released : ∀ {i}, (b.car i).state = .serving → b.chosen i = false → ∃ e, b.Released i e ∧ e.GrantOnly (t.car i) ∧
      (i ∉ queueCars b.queue → (t.car i).state = e.state ∧ (t.car i).orderDeferred = e.orderDeferred) := by
    intro i hs hc
    obtain ⟨e, he, hg, hu⟩ := h i
    rw [Block.EvaluatedCar, if_neg (serving hs), if_pos hs, hc] at he
    exact ⟨e, he, hg, hu⟩
  refine ⟨fun i hs hc => ?_, fun i hs hc => ?_, fun i hs hc => ?_, fun i hs hc => ?_, fun i hs hc hm => ?_,
    fun i h1 h2 h3 => ?_⟩
  · obtain ⟨e, he, hg, -⟩ := h i
    rw [Block.EvaluatedCar, if_pos (parked hs), hc, if_pos rfl] at he
    exact ⟨hg.serving he.state, (hg.selected he.state).trans he.selected, hg.same.order.trans he.order, hg.slot he.state he.slot⟩
  · obtain ⟨e, he, hg, -⟩ := h i
    rw [Block.EvaluatedCar, if_pos (parked hs), hc] at he
    have he : e = b.car i := he
    subst he
    exact hg.keepsState fun hr => by rw [hr] at hs; simp at hs
  · obtain ⟨e, he, hg, -⟩ := h i
    rw [Block.EvaluatedCar, if_neg (serving hs), if_pos hs, hc, if_pos rfl] at he
    exact hg.serving (he ▸ hs)
  · obtain ⟨e, he, hg, -⟩ := released hs hc
    exact ⟨hg.same.selected he.selected, hg.same.order.trans he.order, he.state ▸ hg.state⟩
  · obtain ⟨e, he, -, hu⟩ := released hs hc
    have hi : i ∉ queueCars b.queue := fun hq => hb.apart i hq <| by
      obtain ⟨c, hcm⟩ := Option.ne_none_iff_exists'.mp hm
      exact List.mem_map.mpr ⟨c, List.mem_of_find?_eq_some hcm, by simpa using List.find?_some hcm⟩
    obtain ⟨h1, h2⟩ := he.delayed hm hi
    obtain ⟨h3, h4⟩ := hu hi
    exact ⟨h3.trans h1, h4.trans h2⟩
  · obtain ⟨e, he, hg, -⟩ := h i
    rw [Block.EvaluatedCar, if_neg (fun hp => ((RState.isParked_iff _).mp hp).elim h1 h2), if_neg h3] at he
    exact he ▸ hg.state

end Sys2Proof.Machine
end

section
/-! The statement about GEN_DERATE. -/

namespace Sys2Proof.Machine

/-- The effective allowance follows the derating level (R15). -/
theorem Block.aEff_recomputeAEff (b : Block) :
    b.recomputeAEff.aEff = if b.derate.taken then b.active.plan.a * b.active.plan.dr / 100 else b.active.plan.a := by
  unfold Block.recomputeAEff
  dsimp only
  split
  · rename_i h; exact h.symm
  · rfl

/-- Recomputing the allowance changes nothing else but the trigger (R15). -/
theorem Block.recomputeAEff_eq (b : Block) : ∃ v x, b.recomputeAEff = { b with aEff := v, arbDue := x } := by
  unfold Block.recomputeAEff
  dsimp only
  split
  · exact ⟨b.aEff, b.arbDue, rfl⟩
  · exact ⟨_, true, rfl⟩

end Sys2Proof.Machine

open Sys2Proof Sys2Proof.Machine

/-- Settles O13: a new allowance and, in SERVICE, an evaluation that is due at the end of the step. -/
theorem derateSetsAllowance : Obligations.DerateSetsAllowance := by
  unfold Obligations.DerateSetsAllowance
  intro s v hv
  obtain ⟨b, hb, hb0⟩ : ∃ b : Block,
      exec (.genDerateTaken v) s = .next { s with toBlock := b.recomputeAEff.raiseEvaluation.finish } ∧
        b = { s.toBlock with derate := Line.took v } := ⟨_, if_neg (by simp [hv]), rfl⟩
  have haEff := b.aEff_recomputeAEff
  obtain ⟨a, x, ha⟩ := b.recomputeAEff_eq
  rw [ha] at hb haEff
  generalize hc : ({ b with aEff := a, arbDue := x } : Block) = c at hb haEff
  have hr := c.raiseEvaluation_keeps
  have hf := c.raiseEvaluation.finish_keeps
  have hk := hr.toKeepsPlan.trans hf
  have hcom := c.raiseEvaluation.finish_commitments
  have hev : c.plan = .service → c.EvalThenGrants c.raiseEvaluation.finish := fun hp => by
    have he : c.raiseEvaluation = { c with evalDue := true } := if_pos hp
    rw [he]
    exact (Block.finish_evalThenGrants (b := { c with evalDue := true }) hp rfl).congr rfl rfl rfl rfl rfl rfl fun _ => rfl
  rw [hr.commitments] at hcom
  generalize c.raiseEvaluation.finish = t at hb hk hcom hev
  subst hb0
  subst hc
  refine ⟨_, hb, congrArg Line.taken hk.derate, hk.aEff.trans haEff, hk.plan, hcom, hk.xfer, hk.gen, hk.active, hk.mgmt,
    hk.settleTimer, hk.manual, hk.known, fun hp hok _ => ?_⟩
  exact ((hev hp).congr (b := { s.toBlock with derate := Line.took v }) rfl rfl rfl rfl rfl rfl fun _ => rfl).evaluated
    ⟨hok.listOnce, hok.queueOnce, hok.apart, hok.slot, hok.order⟩

end

section
/-! Entry into SERVICE and into RECALL (R10, R12). -/

namespace Sys2Proof.Machine

/-! ### Entry into SERVICE (R12) -/

/-- With no car that holds recall open no arrival check is passed (R112). -/
theorem Block.arrivalAll_of_noWork {b : Block} (h : b.recallWork = 0) : b.arrivalAll = b := by
  refine List.foldl_fixed' (fun i => Block.arrivalCheck_of_not_pending fun hs => ?_) allCars
  have := b.recallWork_eq_zero_iff.mp h i
  rw [hs] at this
  cases this

theorem tellRelay_carWise : CarWise Block.tellRelay :=
  ⟨fun b i => b.tellRelay_keeps i, fun b i _ h => (b.tellRelay_touches i).others _ h⟩

theorem Block.car_tellRelayAll (b : Block) (i : CarIx) :
    ∃ c, b.KeepsBudget c ∧ c.car i = b.car i ∧ b.tellRelayAll.car i = (c.tellRelay i).car i :=
  tellRelay_carWise.car_allCars b i

@[simp] theorem Block.car_trigger (b : Block) (i : CarIx) : b.trigger.car i = b.car i := rfl

/-- Telling the Relay Unit is no more than a grant is, and keeps a held-back order. -/
theorem Block.tellRelay_grantOnly (b : Block) (i : CarIx) :
    (b.car i).GrantOnly ((b.tellRelay i).car i) ∧ ((b.tellRelay i).car i).orderDeferred = (b.car i).orderDeferred := by
  obtain ⟨x, hx⟩ := b.car_tellRelay i
  have hslot : (b.car i).state = .serving → ((b.tellRelay i).car i).slot = .closed := Block.tellRelay_serving
  rw [hx] at hslot ⊢
  exact ⟨⟨.inl rfl, ⟨rfl, rfl, id⟩, fun _ => rfl, fun hs _ => hslot hs⟩, rfl⟩

/-- Telling the Relay Unit of every car causes no evaluation. -/
theorem Block.evalDue_tellRelayAll (b : Block) : b.tellRelayAll.evalDue = b.evalDue :=
  foldl_rel (R := fun b c : Block => c.evalDue = b.evalDue) (fun _ => rfl) (fun h k => k.trans h) (fun b i => b.evalDue_tellRelay i)
    allCars b

theorem Block.evalDue_evaluate (b : Block) : b.evaluate.evalDue = false := by
  unfold Block.evaluate
  split <;> rfl

/-- What entry into SERVICE leaves at the end of its step, entered with no car that holds recall open (R12). -/
structure Block.EntersService (b t : Block) : Prop where
  plan        : t.plan = .service
  modeTimer   : t.modeTimer = some 10
  commitments : b.commitments <+: t.commitments
  cars        : b.EvalThenGrants t

theorem Block.enterService_finish {b : Block} (h : b.recallWork = 0) : b.EntersService b.enterService.finish := by
  have hc : ∀ i, (b.changePlan .service).car i = b.car i := b.car_changePlan _
  have hwork : (b.changePlan .service).recallWork = 0 := by
    rw [Block.recallWork_eq_zero_iff] at h ⊢
    exact fun i => by rw [hc, h]
  have ho := b.changePlan_only .service
  unfold Block.enterService
  rw [Block.arrivalAll_of_noWork hwork]
  generalize b.changePlan .service = c at hc ho
  have hp : c.plan = .service := ho.plan
  have hk := (c.evaluate_keeps.trans (Block.tellRelayAll_keeps _)).trans (Block.trigger_keeps _)
  have hdue : c.evaluate.tellRelayAll.trigger.evalDue = false := by
    rw [Block.evalDue_trigger, Block.evalDue_tellRelayAll, Block.evalDue_evaluate]
  have hev : c.evaluate.tellRelayAll.trigger.takeEvaluation = c.evaluate.tellRelayAll.trigger :=
    if_neg (by rw [hdue]; decide)
  have hf := c.evaluate.tellRelayAll.trigger.finish_keeps
  refine ⟨hf.plan.trans (hk.plan.trans hp), hf.modeTimer.trans (hk.modeTimer.trans ho.modeTimer), ?_, ?_⟩
  · have := c.evaluate.tellRelayAll.trigger.finish_commitments
    rw [hk.commitments, ho.commitments] at this
    exact this
  · refine Block.EvalThenGrants.congr (c := c) (fun i => ?_) ho.active ho.commitments ho.sameQueue ho.manual ho.fallback ho.derate hc
    obtain ⟨d, -, hd, hr⟩ := c.evaluate.car_tellRelayAll i
    have htr : c.evaluate.tellRelayAll.trigger.car i = (d.tellRelay i).car i := (Block.car_trigger _ i).trans hr
    obtain ⟨hg, hdef⟩ := d.tellRelay_grantOnly i
    have hgf := c.evaluate.tellRelayAll.trigger.finish_grantOnly i
    rw [hd] at hg hdef
    rw [hev, htr] at hgf
    refine ⟨_, Block.evaluate_car hp i, hg.trans hgf, fun hi => ?_⟩
    obtain ⟨h1, h2⟩ := Block.finish_unqueued (b := c.evaluate.tellRelayAll.trigger) fun hj => hi (hk.queue.1 i hj)
    rw [hev, htr] at h1 h2
    refine ⟨h1.trans ?_, h2.trans hdef⟩
    rw [(d.tellRelay_touches i).this.state, hd]

/-! ### Entry into RECALL (R10) -/

/-- A car that entry into RECALL sends nowhere keeps its state; any other comes to one of four states (R10, R112, R117). -/
theorem Block.recallState_cases (b : Block) (i : CarIx) (st : RState) :
    (b.recalledTo i st = none ∧ b.recallState i st = st) ∨ b.recallState i st = .recallPending ∨
      b.recallState i st = .landed ∨ b.recallState i st = .parked ∨ b.recallState i st = .parkedAway := by
  have hpark : b.recallPark i st = .parked ∨ b.recallPark i st = .parkedAway := by
    unfold Block.recallPark
    split
    · split <;> simp
    · simp
  unfold Block.recallState
  split
  · rename_i h; exact .inl ⟨h, rfl⟩
  · right
    split
    · split
      · simp only [hpark, or_true]
      · simp
    · simp

/-- No car that has been sent to its landing stands any more (R10). -/
theorem Block.recallState_ne_standing (b : Block) (i : CarIx) (st : RState) : b.recallState i st ≠ .standing := by
  rcases b.recallState_cases i st with ⟨h, hs⟩ | h | h | h | h
  · rw [hs]
    rintro rfl
    cases h
  all_goals rw [h]; decide

/-- Only a serving car serves after it (R10). -/
theorem Block.recallState_eq_serving {b : Block} {i : CarIx} {st : RState} (h : b.recallState i st = .serving) : st = .serving := by
  rcases b.recallState_cases i st with ⟨-, hs⟩ | hs | hs | hs | hs
  · exact hs.symm.trans h
  all_goals rw [hs] at h; cases h

/-- A grant changes nothing of a car's holding recall open (R11). -/
theorem heldOrGranted.holdsRecall {a b : RState} (h : heldOrGranted a b) : b.holdsRecall = a.holdsRecall := by
  rcases h with rfl | ⟨rfl, rfl | rfl⟩ <;> rfl

/-- What the orders, the arrival checks and the pass of entry into RECALL leave of the cars (R10, R112, R121). -/
structure Block.Recalls (b t : Block) : Prop where
  state    : ∀ i, heldOrGranted (b.recallState i (b.car i).state) (t.car i).state
  order    : ∀ i, (t.car i).order =
    if (b.car i).state = .standing then some (.recall (b.conf i).recallLanding) else (b.car i).order
  attempts : ∀ i, (t.car i).attempts = (b.car i).attempts

theorem Block.Recalls.grantOnly {b t t' : Block} (h : b.Recalls t) (hg : ∀ i, (t.car i).GrantOnly (t'.car i)) : b.Recalls t' :=
  ⟨fun i => (h.state i).trans (hg i).state, fun i => (hg i).same.order.trans (h.order i),
    fun i => (hg i).same.attempts.trans (h.attempts i)⟩

/-- Orders and arrival checks, car by car (R10, R112). -/
theorem Block.arrivals_recalls {b c : Block} (hk : b.KeepsBase c) (hc : ∀ i, c.car i = b.car i) (hm : c.commitments = b.commitments)
    (hp : c.plan = .recall) : b.Recalls (allCars.foldl Block.orderStanding c).arrivalAll := by
  have one : ∀ i, let c' := (allCars.foldl Block.orderStanding c).arrivalAll.car i
      c'.state = b.recallState i (b.car i).state ∧
      c'.order = (if (b.car i).state = .standing then some (.recall (b.conf i).recallLanding) else (b.car i).order) ∧
      c'.attempts = (b.car i).attempts := by
    intro i
    obtain ⟨d, hd, hdc, hdr⟩ := orderStanding_carWise.car_allCars c i
    have hk2 := orderStanding_carWise.foldl_keeps allCars c
    obtain ⟨e, he, hec, her⟩ := arrivalCheck_carWise.car_allCars (allCars.foldl Block.orderStanding c) i
    rw [hc] at hdc
    rw [hdr] at hec
    have hke := hk2.trans he
    have hplan : e.plan = .recall := hke.plan.trans hp
    have hbe := hk.trans hke.toKeepsBase
    have hsame := e.arrivalCheck_sameOrder i
    have hcom : e.commitments = b.commitments := hke.commitments.trans hm
    rw [show (allCars.foldl Block.orderStanding c).arrivalAll.car i = (e.arrivalCheck i).car i from her]
    by_cases hs : (b.car i).state = .standing
    · obtain ⟨h1, h2, h3⟩ := Block.orderStanding_standing (b := d) (i := i) (by rw [hdc, hs])
      rw [← hec] at h1 h2 h3
      have hconf : d.conf i = b.conf i := by rw [Block.conf, hd.active, hk.active, Block.conf]
      rw [hconf] at h2
      rw [if_pos hs, hs]
      exact ⟨(Block.arrivalCheck_pending (.inl hplan) h1).trans
        (Block.recallState_recall (hbe.known i).learned hcom h2), hsame.order.trans h2,
        hsame.attempts.trans (h3.trans (by rw [hdc]))⟩
    · rw [Block.orderStanding_of_not_standing (by rw [hdc]; exact hs), hdc] at hec
      rw [if_neg hs]
      refine ⟨?_, by rw [hsame.order, hec], by rw [hsame.attempts, hec]⟩
      by_cases hr : (b.car i).state = .recallPending
      · rw [Block.arrivalCheck_pending (.inl hplan) (hec ▸ hr), hr]
        exact Block.recallState_congr hbe.active (by rw [hec]) hcom fun _ => by rw [hec]
      · rw [Block.arrivalCheck_of_not_pending (hec ▸ hr), hec]
        unfold Block.recallState Block.recalledTo
        cases h : (b.car i).state <;> simp_all
  exact ⟨fun i => .inl (one i).1, fun i => (one i).2.1, fun i => (one i).2.2⟩

/-- What a step that enters RECALL leaves (R10, R121): what the statements say, with the attempts, no STANDING car, and the list. -/
structure Block.RecallEntered (b t : Block) : Prop where
  enters      : b.EntersRecall (fun i => (b.car i).state) t
  attempts    : ∀ i, (t.car i).attempts = (b.car i).attempts
  noStanding  : ∀ i, (t.car i).state ≠ .standing
  commitments : b.commitments <+: t.commitments
  emergency   : t.plan = .recall ∨ t.plan = .service
  work        : t.plan = .recall → t.recallWork ≠ 0

/-- RECALL stays entered while a car holds recall open (R10). -/
theorem Block.Recalls.entered {b t : Block} (h : b.Recalls t) (hp : t.plan = .recall) (hm : t.modeTimer = some 10)
    (hc : b.commitments <+: t.commitments) (hw : t.recallWork ≠ 0) : b.RecallEntered t := by
  have hex : ∃ i, (b.recallState i (b.car i).state).holdsRecall = true := by
    by_contra hno
    refine hw (t.recallWork_eq_zero_iff.mpr fun i => ?_)
    rw [(h.state i).holdsRecall]
    exact Bool.not_eq_true _ ▸ fun hh => hno ⟨i, hh⟩
  have hns : ¬ t.plan = .service := by rw [hp]; decide
  refine ⟨⟨by rw [hp, if_pos hex], hm, fun _ i hs => by rw [h.order, if_pos hs],
    fun _ i hs => by rw [h.order, if_neg (by rw [hs]; decide)], fun _ i => h.state i, fun hs => absurd hs hns,
    fun hs => absurd hs hns, fun hs => absurd hs hns⟩, h.attempts, fun i hs => ?_, hc, .inl hp, fun _ => hw⟩
  rcases h.state i with h1 | ⟨-, h1⟩
  · exact b.recallState_ne_standing i _ (h1.symm.trans hs)
  · rw [hs] at h1; simp at h1

/-- With no car that holds recall open the step goes on to SERVICE, whose evaluation finds the cars as RECALL left them (R10, R12). -/
theorem Block.Recalls.entersService {b r t : Block} (h : b.Recalls r) (hw : r.recallWork = 0) (hs : r.EntersService t)
    (hc : b.commitments <+: r.commitments) : b.RecallEntered t := by
  have hno : ∀ i, (r.car i).state.holdsRecall = false := r.recallWork_eq_zero_iff.mp hw
  have hstate : ∀ i, (r.car i).state = b.recallState i (b.car i).state := fun i =>
    (h.state i).resolve_right fun hr => by
      have := hno i
      rcases hr.2 with h1 | h1 <;> rw [h1] at this <;> cases this
  have one : ∀ i, ∃ e, e.GrantOnly (t.car i) ∧ (e = r.car i ∨ ((r.car i).state.isParked = true ∧ (r.car i).Selected e) ∨
      ((b.car i).state = .serving ∧ r.Released i e)) := by
    intro i
    obtain ⟨e, he, hg, -⟩ := hs.cars i
    refine ⟨e, hg, ?_⟩
    unfold Block.EvaluatedCar at he
    split at he
    · split at he
      · exact .inr (.inl ⟨‹_›, he⟩)
      · exact .inl he
    · split at he
      · rename_i hserve
        split at he
        · exact .inl he
        · exact .inr (.inr ⟨Block.recallState_eq_serving ((hstate i).symm.trans hserve), he⟩)
      · exact .inl he
  have kept : ∀ {i}, (r.car i).GrantOnly (t.car i) → (t.car i).state = b.recallState i (b.car i).state := fun {i} hg =>
    (hg.keepsState fun hr => by have := hno i; rw [hr] at this; cases this).trans (hstate i)
  have hplan : t.plan ≠ .recall := by rw [hs.plan]; decide
  have hnex : ¬ ∃ i, (b.recallState i (b.car i).state).holdsRecall = true := fun ⟨i, hi⟩ => by
    rw [← hstate, hno] at hi; cases hi
  refine ⟨⟨by rw [hs.plan, if_neg hnex], hs.modeTimer, fun hp => absurd hp hplan, fun hp => absurd hp hplan,
    fun hp => absurd hp hplan, fun _ i hpk => ?_, fun _ i hst => ?_, fun _ i h1 h2 h3 => ?_⟩, fun i => ?_, fun i => ?_,
    hc.trans hs.commitments, .inr hs.plan, fun hp => absurd hp hplan⟩
  · obtain ⟨e, hg, rfl | ⟨-, he⟩ | ⟨hsv, -⟩⟩ := one i
    · exact .inl (kept hg)
    · exact .inr (hg.serving he.state)
    · have hself : b.recallState i (b.car i).state = .serving := by rw [hsv]; rfl
      rw [hself] at hpk
      simp at hpk
  · obtain ⟨e, hg, rfl | ⟨-, he⟩ | ⟨hsv, -⟩⟩ := one i
    · exact .inl (hg.same.order.trans ((h.order i).trans (if_pos hst)))
    · exact .inr ⟨hg.serving he.state, hg.same.order.trans he.order⟩
    · rw [show (b.car i).state = _ from hst] at hsv; cases hsv
  · obtain ⟨e, hg, rfl | ⟨hpk, -⟩ | ⟨hsv, -⟩⟩ := one i
    · exact kept hg
    · rw [hstate] at hpk
      exact ((RState.isParked_iff _).mp hpk).elim (absurd · h1) (absurd · h2)
    · exact absurd hsv h3
  · obtain ⟨e, hg, rfl | ⟨-, he⟩ | ⟨-, he⟩⟩ := one i
    · exact hg.same.attempts.trans (h.attempts i)
    · exact hg.same.attempts.trans (he.attempts.trans (h.attempts i))
    · exact hg.same.attempts.trans (he.attempts.trans (h.attempts i))
  · obtain ⟨e, hg, rfl | ⟨-, he⟩ | ⟨-, he⟩⟩ := one i
    · rw [kept hg]; exact b.recallState_ne_standing i _
    · rw [hg.serving he.state]; decide
    · rcases hg.state with h1 | ⟨-, h1⟩
      · rw [h1, he.state]; exact r.recallState_ne_standing i _
      · rcases h1 with h1 | h1 <;> rw [h1] <;> decide

/-- Entry into RECALL to the end of its step (R10, R121). -/
theorem Block.enterRecall_finish (b : Block) : b.RecallEntered b.enterRecall.finish := by
  have hb := b.changePlan_keepBase .recall
  have hrec := Block.arrivals_recalls hb (b.car_changePlan _) (b.commitments_changePlan _) (b.plan_changePlan _)
  have hk := ((orderStanding_carWise.foldl_keeps allCars (b.changePlan .recall)).trans (Block.arrivalAll_keeps _)).trans
    (Block.trigger_keeps _)
  have hplan := hk.plan.trans (b.plan_changePlan _)
  have hmode := hk.modeTimer.trans (b.modeTimer_changePlan _)
  have hcom := hk.commitments.trans (b.commitments_changePlan _)
  unfold Block.enterRecall
  dsimp only
  generalize (allCars.foldl Block.orderStanding (b.changePlan .recall)).arrivalAll = c at hrec hplan hmode hcom
  have hrec2 := hrec.grantOnly (t' := c.trigger.takeTrigger) fun i => c.trigger.takeTrigger_grantOnly i
  have ht := c.trigger.takeTrigger_keeps
  have hpre : b.commitments <+: c.trigger.takeTrigger.commitments := hcom ▸ c.trigger.takeTrigger_commitments
  generalize c.trigger.takeTrigger = r at hrec2 ht hpre
  have hrp := ht.plan.trans hplan
  by_cases hw : r.recallWork = 0
  · rw [if_pos hw]
    exact hrec2.entersService hw (Block.enterService_finish hw) hpre
  · rw [if_neg hw]
    obtain ⟨x, hx⟩ := Block.takeEvaluation_quiet (b := r) (.inl (by rw [hrp]; decide))
    have hgrant : ∀ i, (r.car i).GrantOnly (r.finish.car i) := fun i => by
      have := r.finish_grantOnly i
      rw [hx] at this
      exact this
    have hf := r.finish_keeps
    have hfw : r.finish.recallWork ≠ 0 := fun h0 => hw <| by
      rw [Block.recallWork_eq_zero_iff] at h0 ⊢
      exact fun i => (hgrant i).state.holdsRecall ▸ h0 i
    exact (hrec2.grantOnly hgrant).entered (hf.plan.trans hrp) (hf.modeTimer.trans (ht.modeTimer.trans hmode))
      (hpre.trans r.finish_commitments) hfw

end Sys2Proof.Machine
end

section
/-! The outage: entry into TRANSFER_WAIT from NORMAL or ADOPT (R7). -/

namespace Sys2Proof.Machine

/-- Entry into RECALL reads of a block its configuration, the learned parts, the list, and the orders of the RECALL_PENDING cars. -/
theorem Block.EntersRecall.congr {b c t : Block} {st : CarIx → RState} (h : c.EntersRecall st t) (ha : c.active = b.active)
    (hl : ∀ i, (c.car i).learned = (b.car i).learned) (hm : c.commitments = b.commitments)
    (ho : ∀ i, st i = .recallPending → (c.car i).order = (b.car i).order) : b.EntersRecall st t := by
  have hr : ∀ i, c.recallState i (st i) = b.recallState i (st i) := fun i => Block.recallState_congr ha (hl i) hm (ho i)
  have hconf : ∀ i, c.conf i = b.conf i := fun i => by rw [Block.conf, ha, Block.conf]
  obtain ⟨h1, h2, h3, h4, h5, h6, h7, h8⟩ := h
  simp only [hr, hconf] at h1 h3 h5 h6 h7 h8
  exact ⟨h1, h2, h3, fun hp i hi => (h4 hp i hi).trans (ho i hi), h5, h6, h7, h8⟩

/-- The state of a car once the plan has left NORMAL or ADOPT for TRANSFER_WAIT (R7). -/
def Block.stands (b : Block) (i : CarIx) : RState :=
  if (b.car i).state = .inGroup then stoodState b i else (b.car i).state

theorem stoodState_ne (b : Block) (i : CarIx) : stoodState b i ≠ .inGroup ∧ stoodState b i ≠ .recallPending := by
  unfold stoodState
  repeat' split
  all_goals decide

/-- What entry into TRANSFER_WAIT from NORMAL or ADOPT leaves, before it goes on with the generator settled (R7). -/
structure Block.Stands (b w : Block) : Prop where
  base        : b.KeepsBase w
  plan        : w.plan = .transferWait
  modeTimer   : w.modeTimer = some 10
  commitments : w.commitments = b.commitments
  settleTimer : w.settleTimer = b.settleTimer
  manual      : w.manual = b.manual
  attempts    : ∀ i, (w.car i).attempts = 0
  state       : ∀ i, (w.car i).state = b.stands i
  order       : ∀ i, b.stands i = .recallPending → (w.car i).order = (b.car i).order
  sends       : b.cport.roomOwn = true → ∃ l, w.cport.tx = b.cport.tx ++ ownItem (b.ownFrame 63 .modeFrame [1]) :: l

/-- One car of it (R7, R107). -/
structure Block.StandsCar (b : Block) (i : CarIx) (c' : Car) : Prop where
  attempts : c'.attempts = 0
  state    : c'.state = b.stands i
  order    : b.stands i = .recallPending → c'.order = (b.car i).order

theorem Block.standCar_standsCar {b c : Block} {i : CarIx} (hk : b.KeepsBase c) (hp : c.plan = .transferWait)
    (hc : c.car i = b.car i) : b.StandsCar i ((c.standCar i).car i) := by
  by_cases h : (b.car i).state = .inGroup
  · have hs : b.stands i = stoodState b i := if_pos h
    obtain ⟨h1, h2⟩ := Block.standCar_of_inGroup (b := c) (i := i) hp (by rw [hc, h])
    exact ⟨h2, by rw [h1, hs]; exact stoodState_congr hk.active (by rw [hc]),
      fun hr => absurd (hs.symm.trans hr) (stoodState_ne b i).2⟩
  · have hs : b.stands i = (b.car i).state := if_neg h
    rw [Block.standCar_of_not_inGroup (by rw [hc]; exact h), hc]
    exact ⟨rfl, hs.symm, fun _ => rfl⟩

/-- A port whose frames a plan change begins with, after whatever more is sent (R16). -/
theorem Block.changePlan_first {b w : Block} {p : Plan} (hr : b.cport.roomOwn = true) (hg : (b.changePlan p).cport.Sends w.cport) :
    ∃ l, w.cport.tx = b.cport.tx ++ ownItem (b.ownFrame 63 .modeFrame [p.powerMode.code]) :: l := by
  obtain ⟨hu, hn⟩ := b.cport.roomOwn_iff.mp hr
  obtain ⟨l, hl⟩ := hg.grows
  exact ⟨l, by rw [hl, (b.changePlan_places p).tx hu hn, List.append_assoc, List.singleton_append]⟩

theorem Block.stands_foldl (b : Block) : b.Stands (allCars.foldl Block.standCar (b.changePlan .transferWait)) := by
  have hb := b.changePlan_keepBase .transferWait
  have hk := standCar_carWise.foldl_keeps allCars (b.changePlan .transferWait)
  have one : ∀ i, b.StandsCar i ((allCars.foldl Block.standCar (b.changePlan .transferWait)).car i) := fun i => by
    obtain ⟨c, hkc, hc, hr⟩ := standCar_carWise.car_allCars (b.changePlan .transferWait) i
    rw [hr]
    exact Block.standCar_standsCar (hb.trans hkc.toKeepsBase) (hkc.plan.trans (b.plan_changePlan _))
      (hc.trans (b.car_changePlan _ i))
  exact ⟨hb.trans hk.toKeepsBase, hk.plan.trans (b.plan_changePlan _), hk.modeTimer.trans (b.modeTimer_changePlan _),
    hk.commitments.trans (b.commitments_changePlan _), hk.settleTimer.trans (b.settleTimer_changePlan _),
    hk.manual.trans (b.manual_changePlan _), fun i => (one i).attempts, fun i => (one i).state, fun i => (one i).order,
    fun hr => Block.changePlan_first hr hk.cport⟩

/-- With the generator not settled the step ends in TRANSFER_WAIT (R7, R9). -/
theorem Block.enterWaitFresh_unsettled {b : Block} (h : b.genSettled = false) : b.Stands b.enterWaitFresh.finish := by
  have hs := b.stands_foldl
  unfold Block.enterWaitFresh
  generalize allCars.foldl Block.standCar (b.changePlan .transferWait) = w at hs
  rw [Block.passOnSettled, if_neg (by rw [hs.base.genSettled, h]; decide)]
  have he := Block.finish_quiet (b := w) (.inl (by rw [hs.plan]; decide)) (.inl (by rw [hs.plan]; rfl))
  have hm := he.sameButMarks
  exact ⟨hs.base.trans he.keeps.toKeepsBase, he.keeps.plan.trans hs.plan, he.keeps.modeTimer.trans hs.modeTimer,
    he.keeps.commitments.trans hs.commitments, he.keeps.settleTimer.trans hs.settleTimer, he.keeps.manual.trans hs.manual,
    fun i => (hm i).attempts.trans (hs.attempts i), fun i => (hm i).state.trans (hs.state i),
    fun i hi => (hm i).order.trans (hs.order i hi), fun hr => by rw [he.cport]; exact hs.sends hr⟩

/-- What a step leaves that enters TRANSFER_WAIT with the generator settled already (R7, R9, R10). -/
structure Block.StandsThenRecalls (b t : Block) : Prop where
  enters      : b.EntersRecall b.stands t
  attempts    : ∀ i, (t.car i).attempts = 0
  commitments : b.commitments <+: t.commitments
  emergency   : t.emergActive = true

theorem Block.RecallEntered.emergActive {b t : Block} (h : b.RecallEntered t) : t.emergActive = true := by
  rw [Block.emergActive]
  rcases h.emergency with h | h <;> rw [h] <;> rfl

theorem Block.enterWaitFresh_settled {b : Block} (h : b.genSettled = true) : b.StandsThenRecalls b.enterWaitFresh.finish := by
  have hs := b.stands_foldl
  unfold Block.enterWaitFresh
  generalize allCars.foldl Block.standCar (b.changePlan .transferWait) = w at hs
  rw [Block.passOnSettled, if_pos (by rw [hs.base.genSettled, h])]
  have hr := w.enterRecall_finish
  generalize w.enterRecall.finish = t at hr
  have hcom := hr.commitments
  rw [hs.commitments] at hcom
  have hst : (fun i => (w.car i).state) = b.stands := funext hs.state
  have hen := hr.enters
  rw [hst] at hen
  exact ⟨hen.congr hs.base.active (fun i => (hs.base.known i).learned) hs.commitments hs.order,
    fun i => (hr.attempts i).trans (hs.attempts i), hcom, hr.emergActive⟩

end Sys2Proof.Machine
end

section
/-! The statements about entry into RECALL, into SERVICE, and into TRANSFER_WAIT from NORMAL and ADOPT. -/

open Sys2Proof Sys2Proof.Machine

/-- Settles O15: with no car that holds recall open SERVICE is entered as `Block.enterService_finish` says. -/
theorem recallWorkEmptiesEntersService : Obligations.RecallWorkEmptiesEntersService := by
  unfold Obligations.RecallWorkEmptiesEntersService
  refine fun s => ⟨fun hp hw => ?_, fun h => ?_⟩
  · obtain ⟨b, hb, hb0⟩ : ∃ b : Block, exec .recallWorkEmpties s = .next { s with
          toBlock := if s.plan = .recall ∧ s.toBlock.recallWork = 0 then b.enterService.finish else b } ∧
        b = { s.toBlock with recallReports := s.recallReports - 1 } := ⟨_, rfl, rfl⟩
    rw [if_pos ⟨hp, hw⟩] at hb
    have hs := Block.enterService_finish (b := b) (by subst hb0; exact hw)
    have hk := b.enterService_keepBase.trans (Block.finish_keeps _).toKeepsBase
    generalize b.enterService.finish = t at hb hs hk
    subst hb0
    refine ⟨_, hb, hs.plan, hs.modeTimer, hs.commitments, fun hok => ?_, hk⟩
    exact (hs.cars.congr (b := s.toBlock) rfl rfl rfl rfl rfl rfl fun _ => rfl).evaluated hok
  · have hno : ¬ (s.plan = .recall ∧ s.toBlock.recallWork = 0) := fun ⟨hp, hw⟩ => h.elim (· hp) (· hw)
    simp only [exec, execRecallWorkEmpties, if_neg hno]

/-- Settles O14: RECALL is entered as `Block.enterRecall_finish` says. -/
theorem settleExpiryStartsRecall : Obligations.SettleExpiryStartsRecall := by
  unfold Obligations.SettleExpiryStartsRecall
  intro s ht hp _
  obtain ⟨b, hb, hb0⟩ : ∃ b : Block, exec .transferSettleExpiry s =
        .next { s with toBlock := if s.plan = .transferWait then b.enterRecall.finish else b } ∧
      b = { s.toBlock with transferTimer := none, genSettled := true } := ⟨_, if_pos ht, rfl⟩
  rw [if_pos hp] at hb
  have hr := b.enterRecall_finish
  have hk := b.enterRecall_keepBase.trans (Block.finish_keeps _).toKeepsBase
  generalize b.enterRecall.finish = t at hb hr hk
  subst hb0
  refine ⟨_, hb, hk.genSettled, hk.transferTimer, hr.enters.mode, hr.emergActive, ?_, hr.work, ?_, hr.noStanding,
    hr.commitments, hk⟩
  · simp [Block.allRecalled, Block.recallWork_eq_zero_iff]
  · exact hr.enters.congr (b := s.toBlock) rfl (fun _ => rfl) rfl fun _ _ => rfl

/-- Settles O9: TRANSFER_WAIT is entered from NORMAL, and RECALL behind it with the generator settled. -/
theorem mainsFailureStandsCars : Obligations.MainsFailureStandsCars := by
  unfold Obligations.MainsFailureStandsCars
  have start : ∀ s : State, s.plan = .normal → s.xfer.taken = false → ∃ b : Block,
      exec .xferEmergTakenAsserted s = .next { s with toBlock := b.enterWaitFresh.finish } ∧
        b = { s.toBlock with xfer := Line.took true } := fun s hp hx => by
    refine ⟨{ s.toBlock with xfer := Line.took true }, (if_neg (by simp [hx])).trans ?_, rfl⟩
    have hon : ({ s.toBlock with xfer := Line.took true } : Block).onXferAsserted =
        ({ s.toBlock with xfer := Line.took true } : Block).enterWaitFresh := by
      unfold Block.onXferAsserted
      rw [show ({ s.toBlock with xfer := Line.took true } : Block).plan = .normal from hp]
    rw [hon]
  refine ⟨fun s hp hx hg => ?_, fun s hp hx hg _ => ?_⟩
  · obtain ⟨b, hb, hb0⟩ := start s hp hx
    have hs := Block.enterWaitFresh_unsettled (b := b) (by subst hb0; exact hg)
    generalize b.enterWaitFresh.finish = t at hb hs
    subst hb0
    exact ⟨_, hb, hs.plan, by rw [Block.emergActive, hs.plan]; rfl, congrArg Line.taken hs.base.xfer, hs.modeTimer,
      hs.commitments, hs.settleTimer, hs.manual, hs.attempts, hs.state, hs.sends, hs.base⟩
  · obtain ⟨b, hb, hb0⟩ := start s hp hx
    have hs := Block.enterWaitFresh_settled (b := b) (by subst hb0; exact hg)
    have hk := b.enterWaitFresh_keepBase.trans (Block.finish_keeps _).toKeepsBase
    generalize b.enterWaitFresh.finish = t at hb hs hk
    subst hb0
    exact ⟨_, hb, congrArg Line.taken hk.xfer, hs.emergency, hs.commitments, hs.attempts,
      hs.enters.congr (b := s.toBlock) rfl (fun _ => rfl) rfl fun _ _ => rfl, hk⟩

/-- Settles O17: TRANSFER_WAIT is entered from ADOPT, and RECALL behind it with the generator settled. -/
theorem adoptionExpiryKeepsCommitments : Obligations.AdoptionExpiryKeepsCommitments := by
  unfold Obligations.AdoptionExpiryKeepsCommitments
  have start : ∀ s : State, s.adoptionTimer.isSome = true → s.plan = .adopt → s.xfer.taken = true → ∃ b : Block,
      exec .adoptionExpiry s = .next { s with toBlock := b.enterWaitFresh.finish } ∧
        b = { s.toBlock with adoptionTimer := none } := fun s ha hp hx => by
    refine ⟨{ s.toBlock with adoptionTimer := none }, (if_pos ha).trans ?_, rfl⟩
    rw [if_pos hp, Block.leaveAdopt, if_pos (show ({ s.toBlock with adoptionTimer := none } : Block).xfer.taken = true from hx)]
  refine ⟨fun s ha hp hx hg => ?_, fun s ha hp hx hg _ => ?_⟩
  · obtain ⟨b, hb, hb0⟩ := start s ha hp hx
    have hs := Block.enterWaitFresh_unsettled (b := b) (by subst hb0; exact hg)
    have hne : ∀ i, b.stands i ≠ .inGroup := fun i => by
      unfold Block.stands
      split
      · exact (stoodState_ne b i).1
      · assumption
    generalize b.enterWaitFresh.finish = t at hb hs
    subst hb0
    exact ⟨_, hb, hs.plan, hs.base.adoptionTimer, hs.commitments, hs.settleTimer, hs.attempts,
      fun i => hs.state i ▸ hne i, hs.base⟩
  · obtain ⟨b, hb, hb0⟩ := start s ha hp hx
    have hs := Block.enterWaitFresh_settled (b := b) (by subst hb0; exact hg)
    have hk := b.enterWaitFresh_keepBase.trans (Block.finish_keeps _).toKeepsBase
    generalize b.enterWaitFresh.finish = t at hb hs hk
    subst hb0
    exact ⟨_, hb, hk.adoptionTimer, hs.commitments, hs.attempts,
      hs.enters.congr (b := s.toBlock) rfl (fun _ => rfl) rfl fun _ _ => rfl, hk⟩

end

section
/-! The outage: losing power in it (R8), and entry into RECALL with no entry waiting. -/

namespace Sys2Proof.Machine

/-! ### What a loss of power sends -/

theorem Block.entry?_eq_none {b : Block} {i : CarIx} : b.entry? i = none ↔ i ∉ queueCars b.queue := by
  simp [Block.entry?, queueCars, List.find?_eq_none]

/-- A counted attempt of a car without an entry sends its order again below the limit (R116), and leaves the queue. -/
theorem Block.countAttempt_sends {b : Block} {i : CarIx} (hq : b.entry? i = none) :
    b.PlacesC (if (decide ((b.car i).attempts + 1 < b.active.plan.attemptLimit) && (b.car i).order.isSome) = true
      then [b.orderItem i] else []) (b.countAttempt i) ∧ (b.countAttempt i).queue = b.queue := by
  unfold Block.countAttempt Block.fail
  dsimp only
  generalize hb1 : b.modCar i (fun c => { c with attempts := (b.car i).attempts + 1 }) = b1
  have hq1 : b1.entry? i = none := by subst hb1; exact hq
  have hqueue : b1.queue = b.queue := by subst hb1; rfl
  have hport : b1.cport = b.cport := by subst hb1; rfl
  have hcar : b1.car i = { b.car i with attempts := (b.car i).attempts + 1 } := by subst hb1; exact b.car_modCar_same i _
  have hitem : b1.orderItem i = b.orderItem i :=
    Block.orderItem_congr (by subst hb1; rfl) (by rw [hcar]) (by rw [hcar])
  by_cases hlim : (b.car i).attempts + 1 < b.active.plan.attemptLimit
  · rw [if_pos hlim, decide_eq_true hlim, Bool.true_and]
    have hp := Block.move_places (b := b1) (i := i) (dest := .recallPending) .none hq1 (by decide) rfl
    rw [hitem, hcar] at hp
    exact ⟨.afterKeep hport hp, (Block.queue_move _ _ hq1).trans hqueue⟩
  · rw [if_neg hlim, decide_eq_false hlim, Bool.false_and]
    exact ⟨.nil ((Block.cport_move _ hq1 (by decide)).trans hport), (Block.queue_move _ _ hq1).trans hqueue⟩

/-- What a loss of power sends for a car that it moves only without an entry, and that the queue stays (R8, R116, R132). -/
theorem Block.loseCar_sends {b : Block} {i : CarIx} (hq : (b.car i).state.lostByPower = true → b.entry? i = none) :
    b.PlacesC (if b.lossResends i then [b.orderItem i] else []) (b.loseCar i) ∧ (b.loseCar i).queue = b.queue := by
  unfold Block.lossResends Block.loseCar
  cases hs : (b.car i).state with
  | recalling => exact Block.countAttempt_sends (hq (by rw [hs]; rfl))
  | diverting => exact Block.countAttempt_sends (hq (by rw [hs]; rfl))
  | landed =>
    have hn := hq (by rw [hs]; rfl)
    exact ⟨.nil (Block.cport_move _ hn (by decide)), Block.queue_move _ _ hn⟩
  | recallPending =>
    cases hd : (b.car i).orderDeferred with
    | false => exact ⟨.nil rfl, rfl⟩
    | true =>
      exact ⟨b.sendOrder_places_if i, by simp⟩
  | _ => exact ⟨.nil rfl, rfl⟩

/-- Frames of some cars, as frames of all cars with none of the others. -/
theorem flatMap_ite_eq_map_filter {α β : Type} (p : α → Bool) (f : α → β) (l : List α) :
    (l.flatMap fun a => if p a then [f a] else []) = (l.filter p).map f := by
  induction l with
  | nil => rfl
  | cons a l ih => rw [List.flatMap_cons, ih, List.filter_cons]; cases p a <;> rfl

/-! ### Entry into TRANSFER_WAIT in an outage (R8) -/

/-- No entry waits of a car that a loss of power moves, and every entry's car is bound. -/
def Block.QueueUnmoved (b : Block) : Prop := ∀ e ∈ b.queue, (b.car e.car).bound ≠ none ∧ (b.car e.car).state.lostByPower = false

/-- The frames of a loss of power: the mode frame, the orders sent again, the refusals (R8, R16, R79, R116). -/
def Block.lossFrames (b : Block) : List TxItem :=
  ownItem (b.ownFrame 63 .modeFrame [1]) ::
    ((allCars.filter b.lossResends).map b.orderItem ++ b.queue.map (b.flushItem 14))

theorem Block.length_lossFrames (b : Block) :
    b.lossFrames.length = 1 + (allCars.filter b.lossResends).length + b.queue.length := by
  simp [Block.lossFrames]
  omega

/-- What entry into TRANSFER_WAIT in an outage leaves, before it goes on with the generator settled (R8, R70, R79). -/
structure Block.LosesPower (b w : Block) : Prop where
  base        : b.KeepsBase w
  plan        : w.plan = .transferWait
  commitments : w.commitments = []
  queue       : w.queue = []
  settleTimer : w.settleTimer = none
  manual      : w.manual = b.manual
  cars        : ∀ i, b.LosesCar i (w.car i)
  slots       : ∀ i, (w.car i).slot = .closed
  sends       : b.QueueUnmoved → b.PlacesC b.lossFrames w

/-- The cars' part of it sends the orders that are sent again, in car-number order, and leaves the queue (R116, R132). -/
theorem Block.loseCars_sends {b v : Block} (hb : b.KeepsBase v) (hc : ∀ i, v.car i = b.car i) (hq : v.queue = b.queue)
    (hu : b.QueueUnmoved) :
    v.PlacesC ((allCars.filter b.lossResends).map b.orderItem) (allCars.foldl Block.loseCar v) ∧
      (allCars.foldl Block.loseCar v).queue = b.queue := by
  have one : ∀ c i, v.KeepsBudget c → c.car i = v.car i →
      c.PlacesC (if b.lossResends i then [b.orderItem i] else []) (c.loseCar i) ∧ (c.loseCar i).queue = c.queue := by
    intro c i hk hci
    rw [hc] at hci
    have hact : c.active = b.active := hk.active.trans hb.active
    have h := Block.loseCar_sends (b := c) (i := i) fun hl => Block.entry?_eq_none.mpr fun hi => by
      obtain ⟨e, he, rfl⟩ := List.mem_map.mp (hk.queue.1 i hi)
      rw [hci, (hu e (hq ▸ he)).2] at hl
      cases hl
    have hres : c.lossResends i = b.lossResends i := by unfold Block.lossResends; rw [hci, hact]
    rw [hres, Block.orderItem_congr hact (by rw [hci]) (by rw [hci])] at h
    exact h
  refine ⟨?_, (loseCar_carWise.foldl_same (fun c => c.queue) nodup_allCars v fun c i hk hci => (one c i hk hci).2).trans hq⟩
  rw [← flatMap_ite_eq_map_filter]
  exact loseCar_carWise.foldl_places nodup_allCars v fun c i hk hci => (one c i hk hci).1

theorem Block.losesPower (b : Block) :
    b.LosesPower ((allCars.foldl Block.loseCar (b.changePlan .transferWait).void).flush .powerLost).dropHeld := by
  have hb := (b.changePlan_keepBase .transferWait).trans (Block.void_keepBase _)
  have hcar : ∀ i, (b.changePlan .transferWait).void.car i = b.car i := b.car_changePlan _
  have hqueue : (b.changePlan .transferWait).void.queue = b.queue := b.queue_changePlan _
  have hplan : (b.changePlan .transferWait).void.plan = .transferWait := b.plan_changePlan _
  have hman : (b.changePlan .transferWait).void.manual = b.manual := b.manual_changePlan _
  have hmode : b.PlacesC [ownItem (b.ownFrame 63 .modeFrame [1])] (b.changePlan .transferWait).void :=
    (b.changePlan_places .transferWait).andKeep rfl
  have hlist : (b.changePlan .transferWait).void.commitments = [] := rfl
  have hset : (b.changePlan .transferWait).void.settleTimer = none := rfl
  generalize (b.changePlan .transferWait).void = v at hb hcar hqueue hplan hman hmode hlist hset
  have hlose := loseCar_carWise.foldl_keeps allCars v
  have hcars : ∀ i, b.LosesCar i ((allCars.foldl Block.loseCar v).car i) := fun i => by
    obtain ⟨c, hk, hc, hr⟩ := loseCar_carWise.car_allCars v i
    have h := c.loseCar_losesCar i
    rw [← hr] at h
    obtain ⟨h1, h2, h3⟩ := h
    rw [hc, hcar] at h1 h2 h3
    exact ⟨by rw [h1, hk.active, hb.active], h2, h3⟩
  have hsend := fun hu => Block.loseCars_sends (b := b) hb hcar hqueue hu
  generalize allCars.foldl Block.loseCar v = u at hlose hcars hsend
  have hk := hlose.trans ((u.flush_keeps .powerLost).trans (Block.dropHeld_keeps _))
  have hbu := hb.trans hlose.toKeepsBase
  refine ⟨hb.trans hk.toKeepsBase, hk.plan.trans hplan, hk.commitments.trans hlist,
    (Block.dropHeld_keeps _).queue.eq_nil (Block.queue_flush _ _), hk.settleTimer.trans hset, hk.manual.trans hman,
    fun i => ?_, fun i => ?_, fun hu => ?_⟩
  · rw [Block.car_dropHeld, Block.car_flush]
    obtain ⟨h1, h2, h3⟩ := hcars i
    exact ⟨h1, h2, h3⟩
  · rw [Block.car_dropHeld]; rfl
  · obtain ⟨h1, h2⟩ := hsend hu
    have hf := u.flush_places .powerLost fun e he => by
      rw [(hbu.known _).bound]; exact (hu e (h2 ▸ he)).1
    have hitems : u.queue.map (u.flushItem RefusalReason.powerLost.code) = b.queue.map (b.flushItem 14) := by
      rw [h2]
      exact List.map_congr_left fun e _ => Block.flushItem_congr _ hbu.active (hbu.known _).bound
    rw [hitems] at hf
    exact (hmode.trans (h1.trans hf)).andKeep (Block.cport_dropHeld _)

/-- With the generator not settled the step ends in TRANSFER_WAIT (R8, R9). -/
theorem Block.enterWaitLoss_unsettled {b : Block} (h : b.genSettled = false) : b.LosesPower b.enterWaitLoss.finish := by
  have hl := b.losesPower
  unfold Block.enterWaitLoss
  generalize ((allCars.foldl Block.loseCar (b.changePlan .transferWait).void).flush .powerLost).dropHeld = w at hl
  rw [Block.passOnSettled, if_neg (by rw [hl.base.genSettled, h]; decide)]
  have he := Block.finish_quiet (b := w) (.inl (by rw [hl.plan]; decide)) (.inr hl.queue)
  have hm := he.sameButMarks
  generalize w.finish = t at he hm
  refine ⟨hl.base.trans he.keeps.toKeepsBase, he.keeps.plan.trans hl.plan, he.keeps.commitments.trans hl.commitments,
    he.queue.trans hl.queue, he.keeps.settleTimer.trans hl.settleTimer, he.keeps.manual.trans hl.manual, fun i => ?_,
    fun i => (he.slot i).trans (hl.slots i), fun hu => (hl.sends hu).andKeep he.cport⟩
  obtain ⟨h1, h2, h3⟩ := hl.cars i
  exact ⟨(hm i).state.trans h1, (hm i).attempts.trans h2, fun hr => (hm i).order.trans (h3 ((hm i).state.symm.trans hr))⟩

/-! ### Entry into RECALL and SERVICE with no entry waiting -/

theorem Block.awaiting_congr {b c : Block} {i : CarIx} (hp : c.plan = b.plan) (hm : c.manual = b.manual)
    (hs : (c.car i).state = (b.car i).state) : c.awaiting i = b.awaiting i := by
  rw [Block.awaiting_eq, Block.awaiting_eq, hp, Block.inManual_congr hm, hs]

/-- Telling the Relay Unit opens a closed slot exactly when its car is selected-awaiting (R131, R140). -/
theorem Block.tellRelay_slot {b : Block} {i : CarIx} (h : (b.car i).slot = .closed) :
    ((b.tellRelay i).car i).slot = if b.awaiting i then .empty else .closed := by
  cases ha : b.awaiting i with
  | false => rw [Block.tellRelay_of_closed h ha, h]; rfl
  | true =>
    unfold Block.tellRelay
    rw [if_pos ha, h]
    exact congrArg Car.slot (b.car_modCar_same i _)

/-- A car that is not chosen is not in the manual selection (R128). -/
theorem Block.inManual_of_not_chosen {b : Block} {i : CarIx} (h : b.chosen i = false) : b.inManual i = false := by
  unfold Block.chosen at h
  unfold Block.inManual
  cases hm : b.manual with
  | none => rfl
  | some l => rw [hm] at h; exact h

/-- An evaluation leaves closed slots closed (R141). -/
theorem Block.EvaluatedCar.closed {b : Block} {i : CarIx} {c' : Car} (h : b.EvaluatedCar (b.chosen i) i c')
    (hs : (b.car i).slot = .closed) : c'.slot = .closed := by
  unfold Block.EvaluatedCar at h
  split at h
  · split at h
    · exact h.slot
    · rw [h]; exact hs
  · split at h
    · split at h
      · rw [h]; exact hs
      · rename_i hc
        exact h.slot (Block.inManual_of_not_chosen (by simpa using hc)) hs
    · rw [h]; exact hs

/-- What entry into RECALL or SERVICE leaves where no entry waits and every slot is closed: the list and the settle timer as they
were, and a slot open exactly for a selected-awaiting car (R131, R140). -/
structure Block.NoneWaits (b t : Block) : Prop where
  queue       : t.queue = []
  commitments : t.commitments = b.commitments
  settleTimer : t.settleTimer = b.settleTimer
  slots       : ∀ i, (t.car i).slot = if t.awaiting i then .empty else .closed

theorem Block.enterService_noneWaits {b : Block} (hw : b.recallWork = 0) (hq : b.queue = []) (hs : ∀ i, (b.car i).slot = .closed) :
    b.NoneWaits b.enterService.finish := by
  have hcar : ∀ i, (b.changePlan .service).car i = b.car i := b.car_changePlan _
  have hwork : (b.changePlan .service).recallWork = 0 := by
    rw [Block.recallWork_eq_zero_iff] at hw ⊢
    exact fun i => by rw [hcar, hw]
  have ho := b.changePlan_only .service
  unfold Block.enterService
  rw [Block.arrivalAll_of_noWork hwork]
  generalize b.changePlan .service = c at hcar ho
  have hp : c.plan = .service := ho.plan
  have hev : ∀ i, (c.evaluate.car i).slot = .closed := fun i => (Block.evaluate_car hp i).closed (by rw [hcar, hs])
  have hke := c.evaluate_keeps
  have hdue := c.evalDue_evaluate
  generalize c.evaluate = d at hev hke hdue
  have htell := d.car_tellRelayAll
  have hkt := d.tellRelayAll_keeps
  have hdue2 : d.tellRelayAll.evalDue = false := d.evalDue_tellRelayAll.trans hdue
  generalize d.tellRelayAll = f at htell hkt hdue2
  have hqf : f.queue = [] := hkt.queue.eq_nil (hke.queue.eq_nil (ho.sameQueue.trans hq))
  have he := Block.finish_quiet (b := f.trigger) (.inr hdue2) (.inr hqf)
  generalize f.trigger.finish = t at he
  have hkf := (hke.trans hkt).trans (f.trigger_keeps.trans he.keeps)
  refine ⟨he.queue.trans hqf, hkf.commitments.trans ho.commitments, hkf.settleTimer.trans ho.settleTimer, fun i => ?_⟩
  obtain ⟨g, hg, hgc, hgr⟩ := htell i
  have hslot := Block.tellRelay_slot (b := g) (i := i) (by rw [hgc]; exact hev i)
  have htf := hkt.trans (f.trigger_keeps.trans he.keeps)
  have hstate : (t.car i).state = (g.car i).state := by
    rw [(he.sameButMarks i).state, Block.car_trigger, hgr, (g.tellRelay_touches i).this.state]
  rw [he.slot, Block.car_trigger, hgr, hslot,
    Block.awaiting_congr (htf.plan.trans hg.plan.symm) (htf.manual.trans hg.manual.symm) hstate]

/-- Orders and arrival checks in RECALL leave closed slots closed (R140). -/
theorem Block.arrivals_closed {c : Block} (hp : c.plan = .recall) (hs : ∀ i, (c.car i).slot = .closed) (i : CarIx) :
    ((allCars.foldl Block.orderStanding c).arrivalAll.car i).slot = .closed := by
  have hns : ∀ {d : Block}, c.KeepsBudget d → d.plan ≠ .service := fun hk => by rw [hk.plan, hp]; decide
  obtain ⟨d, hd, hdc, hdr⟩ := orderStanding_carWise.car_allCars c i
  have hk := orderStanding_carWise.foldl_keeps allCars c
  obtain ⟨e, he, hec, her⟩ := arrivalCheck_carWise.car_allCars (allCars.foldl Block.orderStanding c) i
  rw [show (allCars.foldl Block.orderStanding c).arrivalAll.car i = (e.arrivalCheck i).car i from her]
  refine Block.arrivalCheck_closed ?_ (.inl (hns (hk.trans he)))
  rw [hec, hdr]
  have hcl : (d.car i).slot = .closed := by rw [hdc, hs]
  unfold Block.orderStanding Block.setOrder
  split
  · exact Block.move_closed _ _ (by rw [Block.car_modCar_same]; exact hcl)
      (.inl (hns (hd.trans (d.modCar_keeps i _ ⟨rfl, rfl, rfl, rfl⟩))))
  · exact hcl

theorem Block.enterRecall_noneWaits {b : Block} (hq : b.queue = []) (hs : ∀ i, (b.car i).slot = .closed) :
    b.NoneWaits b.enterRecall.finish := by
  have ho := b.changePlan_only .recall
  have hp := b.plan_changePlan .recall
  have hcl := Block.arrivals_closed hp fun i => by rw [b.car_changePlan, hs]
  have hk := (orderStanding_carWise.foldl_keeps allCars (b.changePlan .recall)).trans (Block.arrivalAll_keeps _)
  unfold Block.enterRecall
  dsimp only
  generalize (allCars.foldl Block.orderStanding (b.changePlan .recall)).arrivalAll = c at hcl hk
  have hqc : c.queue = [] := hk.queue.eq_nil (ho.sameQueue.trans hq)
  obtain ⟨x, hx⟩ := Block.takeTrigger_quiet (b := c.trigger) (.inr hqc)
  have hkr : c.KeepsBudget c.trigger.takeTrigger := by rw [hx]; exact c.queue_keeps c.queue x (.refl _)
  have hcr : ∀ i, (c.trigger.takeTrigger.car i).slot = .closed := by rw [hx]; exact hcl
  generalize c.trigger.takeTrigger = r at hkr hcr
  have hqr : r.queue = [] := hkr.queue.eq_nil hqc
  have hkb := hk.trans hkr
  by_cases hw : r.recallWork = 0
  · rw [if_pos hw]
    obtain ⟨h1, h2, h3, h4⟩ := Block.enterService_noneWaits hw hqr hcr
    exact ⟨h1, h2.trans (hkb.commitments.trans ho.commitments), h3.trans (hkb.settleTimer.trans ho.settleTimer), h4⟩
  · rw [if_neg hw]
    have hpr : r.plan = .recall := hkb.plan.trans hp
    have he := Block.finish_quiet (b := r) (.inl (by rw [hpr]; decide)) (.inr hqr)
    generalize r.finish = t at he
    have hkt := hkb.trans he.keeps
    refine ⟨he.queue.trans hqr, hkt.commitments.trans ho.commitments, hkt.settleTimer.trans ho.settleTimer, fun i => ?_⟩
    have hna : t.awaiting i = false := by rw [Block.awaiting_eq, hkt.plan, hp]; rfl
    rw [he.slot, hcr, hna]
    rfl

/-- What a step leaves that loses power in an outage with the generator settled already (R8, R9, R10). -/
structure Block.LosesThenRecalls (b t : Block) : Prop where
  waits    : ({ b with commitments := [], settleTimer := none } : Block).NoneWaits t
  attempts : ∀ i, (t.car i).attempts =
    if (b.car i).state = .recalling ∨ (b.car i).state = .diverting then (b.car i).attempts + 1 else (b.car i).attempts
  enters   : ({ b with commitments := [] } : Block).EntersRecall
    (fun i => lostState b.active.plan.attemptLimit (b.car i)) t
  sends    : b.QueueUnmoved → b.cport.up = true → b.cport.ownCount + b.lossFrames.length ≤ 8 →
    b.cport.tx ++ b.lossFrames <+: t.cport.tx

theorem Block.enterWaitLoss_settled {b : Block} (h : b.genSettled = true) : b.LosesThenRecalls b.enterWaitLoss.finish := by
  have hl := b.losesPower
  unfold Block.enterWaitLoss
  generalize ((allCars.foldl Block.loseCar (b.changePlan .transferWait).void).flush .powerLost).dropHeld = w at hl
  rw [Block.passOnSettled, if_pos (by rw [hl.base.genSettled, h])]
  have hw := Block.enterRecall_noneWaits hl.queue hl.slots
  have hr := w.enterRecall_finish
  have hk := w.enterRecall_keepBase.trans (Block.finish_keeps _).toKeepsBase
  generalize w.enterRecall.finish = t at hw hr hk
  have hst : (fun i => (w.car i).state) = fun i => lostState b.active.plan.attemptLimit (b.car i) :=
    funext fun i => (hl.cars i).state
  have hen := hr.enters
  rw [hst] at hen
  refine ⟨⟨hw.queue, hw.commitments.trans hl.commitments, hw.settleTimer.trans hl.settleTimer, hw.slots⟩,
    fun i => (hr.attempts i).trans (hl.cars i).attempts, hen.congr hl.base.active (fun i => (hl.base.known i).learned)
      hl.commitments fun i hi => (hl.cars i).order ((hl.cars i).state.trans hi), fun hu hup hn => ?_⟩
  rw [← (hl.sends hu).tx hup hn]
  obtain ⟨l, hg⟩ := hk.cport.grows
  exact ⟨l, hg.symm⟩

end Sys2Proof.Machine
end

section
/-! The statement about losing power in an outage. -/

open Sys2Proof Sys2Proof.Machine

/-- The mains lost again in MAINS_RETURN (R5). -/
theorem exec_mainsLostAgain {s : State} (hx : s.xfer.taken = false) (hp : s.plan = .mainsReturn) : ∃ b : Block,
    exec .xferEmergTakenAsserted s = .next { s with toBlock := b.enterWaitLoss.finish } ∧
      b = { s.toBlock with xfer := Line.took true } := by
  obtain ⟨b, hb, hb0, hbp⟩ : ∃ b : Block, exec .xferEmergTakenAsserted s = .next { s with toBlock := b.onXferAsserted.finish } ∧
      b = { s.toBlock with xfer := Line.took true } ∧ b.plan = s.plan := ⟨_, if_neg (by simp [hx]), rfl, rfl⟩
  have hon : b.onXferAsserted = b.enterWaitLoss := by
    unfold Block.onXferAsserted
    rw [hbp, hp]
  rw [hon] at hb
  exact ⟨b, hb, hb0⟩

/-- The generator lost in RECALL or SERVICE, or the mains lost again in MAINS_RETURN, the generator not settled: the event sets no
more than the lines and the settling of the generator before TRANSFER_WAIT is entered (R4, R5). -/
theorem exec_losesPower {s : State} {c : Instr}
    (h : (c = .genReadyTakenNegated ∧ s.gen.taken = true ∧ (s.plan = .recall ∨ s.plan = .service)) ∨
      (c = .xferEmergTakenAsserted ∧ s.xfer.taken = false ∧ s.plan = .mainsReturn ∧ s.genSettled = false)) :
    ∃ (x g : Line) (tt : Timer) (b : Block), exec c s = .next { s with toBlock := b.enterWaitLoss.finish } ∧
      b = { s.toBlock with xfer := x, gen := g, transferTimer := tt, genSettled := false } ∧
      (c = .genReadyTakenNegated → g.taken = false ∧ tt = none ∧ x = s.xfer) := by
  rcases h with ⟨rfl, hg, hp⟩ | ⟨rfl, hx, hp, hs⟩
  · obtain ⟨b, hb, hb0, hbp⟩ : ∃ b : Block, exec .genReadyTakenNegated s = .next { s with toBlock := b.onGenNegated.finish } ∧
        b = { s.toBlock with xfer := s.xfer, gen := Line.took false, transferTimer := none, genSettled := false } ∧
        b.plan = s.plan := ⟨_, if_pos hg, rfl, rfl⟩
    have hon : b.onGenNegated = b.enterWaitLoss := by
      unfold Block.onGenNegated
      rcases hp with h | h <;> rw [hbp, h]
    rw [hon] at hb
    exact ⟨_, _, _, b, hb, hb0, fun _ => ⟨rfl, rfl, rfl⟩⟩
  · obtain ⟨b, hb, hb0⟩ := exec_mainsLostAgain hx hp
    exact ⟨Line.took true, s.gen, s.transferTimer, b, hb, by rw [hb0, ← hs], fun h => by cases h⟩

/-- Settles O10: TRANSFER_WAIT is entered as `Block.losesPower` says, and RECALL behind it with the generator settled. -/
theorem powerLossVoidsEverything : Obligations.PowerLossVoidsEverything := by
  unfold Obligations.PowerLossVoidsEverything
  refine ⟨fun s c h => ?_, fun s hp hx hg _ => ?_⟩
  · obtain ⟨x, g, tt, b, hb, hb0, hgen⟩ := exec_losesPower h
    have hl := Block.enterWaitLoss_unsettled (b := b) (by rw [hb0])
    generalize b.enterWaitLoss.finish = t at hb hl
    subst hb0
    have hsums : t.sumUpper = 0 ∧ t.sumLower = 0 := by simp [Block.sumUpper, Block.sumLower, hl.commitments]
    refine ⟨_, hb, hl.plan, hl.commitments, hsums.1, hsums.2, hl.queue, hl.settleTimer, hl.manual, hl.base.active, hl.base.mgmt,
      hl.slots, fun i => (hl.cars i).state, fun i => (hl.cars i).attempts, fun hu hn hq => ?_, hl.base.known, fun hc => ?_⟩
    · exact (hl.sends hq).tx hu (by rw [Block.length_lossFrames, ← Nat.add_assoc, ← Nat.add_assoc]; exact hn)
    · obtain ⟨h1, h2, h3⟩ := hgen hc
      exact ⟨(congrArg Line.taken hl.base.gen).trans h1, hl.base.genSettled, hl.base.transferTimer.trans h2, hl.base.xfer.trans h3⟩
  · obtain ⟨b, hb, hb0⟩ := exec_mainsLostAgain hx hp
    have hl := Block.enterWaitLoss_settled (b := b) (by rw [hb0]; exact hg)
    have hk := b.enterWaitLoss_keepBase.trans (Block.finish_keeps _).toKeepsBase
    generalize b.enterWaitLoss.finish = t at hb hl hk
    subst hb0
    refine ⟨_, hb, congrArg Line.taken hk.xfer, hl.waits.commitments, hl.waits.queue, hl.waits.settleTimer, hl.attempts,
      hl.waits.slots, fun hroom hq => hl.sends hq hroom.1 ?_,
      hl.enters.congr (b := { s.toBlock with commitments := [] }) rfl (fun _ => rfl) rfl fun _ _ => rfl, hk⟩
    rw [Block.length_lossFrames]
    exact hroom.2

end

section
/-! What a pass grants, what a notice queues on the G-port, and the car whose report timer expires (R36, R65, R122). -/

namespace Sys2Proof.Machine

/-! ### A pass over silent cars (R86) -/

/-- A pass goes past the entries of silent cars (R86). -/
theorem Block.scan_heard {b : Block} {q : List Entry} {l : List CarIx} {e : Entry} {noted : List CarIx}
    (h : b.scan q l = some (e, noted)) : (b.car e.car).learned.silent = false := by
  induction q generalizing l with
  | nil => cases h
  | cons x q ih =>
    unfold Block.scan at h
    split at h
    · exact ih h
    · rename_i hx
      split at h
      · cases h; simpa using hx
      · split at h
        · cases h
        · exact ih h
      · exact ih h
      · exact ih h

/-- What a trigger can do, with the scan behind a grant (R82, R84). -/
theorem Block.takeTrigger_scan (b : Block) : (∃ x, b.takeTrigger = { b with arbDue := x }) ∨
    ∃ e noted, b.scan b.queue [] = some (e, noted) ∧ b.takeTrigger = { b.grantEntry e noted with arbDue := false } := by
  unfold Block.takeTrigger
  split
  · split
    · unfold Block.pass
      split
      · exact .inl ⟨false, rfl⟩
      · rename_i h
        exact .inr ⟨_, _, h, rfl⟩
    · exact .inl ⟨false, rfl⟩
  · exact .inl ⟨_, rfl⟩

/-- A trigger leaves a silent car as it is (R86). -/
theorem Block.takeTrigger_silent {b : Block} {i : CarIx} (h : (b.car i).learned.silent = true) : b.takeTrigger.car i = b.car i := by
  rcases b.takeTrigger_scan with ⟨x, hx⟩ | ⟨e, noted, hs, hx⟩
  · rw [hx]; rfl
  · obtain ⟨c, hc, hcar, -⟩ := b.grantEntry_eq e noted
    rw [hx, hc, ← hcar i]
    refine c.takeGrant_others e.car e.kind fun hi => ?_
    rw [hi, Block.scan_heard hs] at h
    cases h

/-- With no evaluation due the end of a step leaves a silent car but for its marks. -/
theorem Block.finish_silent {b : Block} {i : CarIx} (hd : b.evalDue = false) (h : (b.car i).learned.silent = true) :
    (b.car i).SameButMarks (b.finish.car i) := by
  have he : b.takeEvaluation = b := if_neg (by rw [hd]; decide)
  have hm := (Block.resendAll b.takeEvaluation.takeTrigger).sameButMarks i
  rw [he, Block.takeTrigger_silent h] at hm
  rw [Block.finish, he]
  exact hm

/-! ### A notice -/

/-- A notice that names a car queues its frame where the G-port has room (R143). -/
theorem Block.gport_carNotice {b : Block} (hr : b.gport.roomOwn = true) (i : CarIx) (r : NoticeReason) :
    (b.carNotice i r).gport = { b.gport with tx := b.gport.tx ++
      [ownItem (b.ownFrame 0 .planNotice [b.plan.code, byteOf (carNo i), (b.car i).state.code, r.code])] } := by
  unfold Block.carNotice Block.sendNotice Block.placeOwn
  rw [show (b.port .g).roomOwn = true from hr]
  rfl

/-- What is queued behind a port's frames stays there while the port only sends. -/
theorem Port.Sends.behind {p q r : Port} {x : TxItem} (h : q.Sends r) (hx : q.tx = p.tx ++ [x]) : ∃ l, r.tx = p.tx ++ x :: l := by
  obtain ⟨l, hl⟩ := h.grows
  exact ⟨l, by rw [hl, hx, List.append_assoc, List.singleton_append]⟩

/-! ### Silence (R36) -/

/-- The record of a car that has become silent (R36). -/
def Car.silenced (c : Car) : Car := { c with learned := { c.learned with silent := true, reportTimer := none } }

/-- The block once a silent car's commitment is held, before its notice (R36, R65). -/
def Block.heldBySilence (b : Block) (i : CarIx) : Block := ((b.modCar i Car.silenced).holdSilent i).trigger

theorem Block.becomeSilent_eq (b : Block) (i : CarIx) :
    b.becomeSilent i = ((b.heldBySilence i).carNotice i (.failure .silent)).finish := rfl

theorem Block.commitments_heldBySilence (b : Block) (i : CarIx) :
    (b.heldBySilence i).commitments = b.commitments.map (heldForSilence i b.active.plan.tRelease) := rfl

theorem Block.car_heldBySilence (b : Block) (i j : CarIx) :
    (b.heldBySilence i).car j = if j = i then (b.car i).silenced else b.car j := b.car_modCar i j _

end Sys2Proof.Machine

open Sys2Proof Sys2Proof.Machine

/-- Settles O21: the car is silent and its commitment held before the notice; the pass behind it grants no silent car. -/
theorem reportTimerMakesSilent : Obligations.ReportTimerMakesSilent := by
  unfold Obligations.ReportTimerMakesSilent
  rintro s i ht ⟨-, hdue⟩
  have hexec : exec (.reportTimerExpiry i) s = .next { s with toBlock := s.toBlock.becomeSilent i } := if_pos ht
  rw [Block.becomeSilent_eq] at hexec
  have hcar := s.toBlock.car_heldBySilence i
  have hcom := s.toBlock.commitments_heldBySilence i
  have ho := (s.toBlock.heldBySilence i).carNotice_only i (.failure .silent)
  obtain ⟨hplan, hmgmt, hactive, heval, hgport⟩ : (s.toBlock.heldBySilence i).plan = s.plan ∧
    (s.toBlock.heldBySilence i).mgmt = s.mgmt ∧ (s.toBlock.heldBySilence i).active = s.active ∧
    (s.toBlock.heldBySilence i).evalDue = s.evalDue ∧ (s.toBlock.heldBySilence i).gport = s.gport := ⟨rfl, rfl, rfl, rfl, rfl⟩
  have hfinish := ((s.toBlock.heldBySilence i).carNotice i (.failure .silent)).finish_keeps
  have hmarks := Block.finish_silent (b := (s.toBlock.heldBySilence i).carNotice i (.failure .silent)) (i := i)
    ((ho.evalDue.trans heval).trans hdue) (by rw [ho.car_eq, hcar, if_pos rfl]; rfl)
  have hpre := ((s.toBlock.heldBySilence i).carNotice i (.failure .silent)).finish_commitments
  have hknown := fun j => (ho.known j).trans (hfinish.known j)
  rw [ho.car_eq, hcar, if_pos rfl] at hmarks
  rw [ho.commitments, hcom] at hpre
  generalize ((s.toBlock.heldBySilence i).carNotice i (.failure .silent)).finish = t at hexec hfinish hmarks hpre hknown
  refine ⟨_, hexec, hmarks.learned, hmarks.state, hpre, fun hr => ?_, fun j hj => ?_, hfinish.plan.trans (ho.plan.trans hplan),
    hfinish.mgmt.trans (ho.mgmt.trans hmgmt), hfinish.active.trans (ho.active.trans hactive)⟩
  · have hnotice := Block.gport_carNotice (b := s.toBlock.heldBySilence i) (by rw [hgport]; exact hr) i (.failure .silent)
    rw [hcar, if_pos rfl, hgport] at hnotice
    exact hfinish.gport.behind (congrArg Port.tx hnotice)
  · have := hknown j
    rw [hcar, if_neg hj] at this
    exact this

end

section
/-! Responses of several parts (R154), and the records of READ_CARS, READ_QUEUE and READ_COMMITMENTS (12.5). -/

namespace Sys2Proof.Machine

/-! ### Placing the waiting parts (R154) -/

/-- The block with these frames queued on the G-port and these parts waiting. -/
def Block.placing (b : Block) (tx : List TxItem) (parts : List Frame) : Block :=
  { b with gport := { b.gport with tx := tx }, mgmt := { b.mgmt with response := parts } }

theorem Block.placing_self (b : Block) : b.placing b.gport.tx b.mgmt.response = b := rfl

/-- A waiting part is placed where the G-port has room (R154). -/
theorem Block.placePart_cons {b : Block} {f : Frame} {rest : List Frame} (hs : b.mgmt.storeAnswer = [])
    (hr : b.mgmt.response = f :: rest) :
    b.placePart = if b.gport.roomOwn then b.placing (b.gport.tx ++ [ownItem f]) rest else b := by
  unfold Block.placePart Block.placeOwn
  rw [hs, hr]
  cases h : b.gport.roomOwn
  · simp [Block.port, h]
  · simp [Block.port, h]; rfl

/-- With no part waiting nothing is placed. -/
theorem Block.placePart_nil {b : Block} (hs : b.mgmt.storeAnswer = []) (hr : b.mgmt.response = []) : b.placePart = b := by
  unfold Block.placePart
  rw [hs, hr]

/-- Once a part finds no room, or none waits, nothing more is placed. -/
theorem Block.placeParts_fixed {b : Block} (h : b.placePart = b) (n : Nat) : Block.placeParts n b = b := by
  induction n with
  | zero => rfl
  | succ n ih => rw [Block.placeParts, h, ih]

/-- Of the waiting parts the first k are placed, and more only wait for want of room or because n are placed (R154). -/
theorem Block.placeParts_spec (n : Nat) (b : Block) (hs : b.mgmt.storeAnswer = []) : ∃ k,
    Block.placeParts n b = b.placing (b.gport.tx ++ (b.mgmt.response.take k).map ownItem) (b.mgmt.response.drop k) ∧
      (k < b.mgmt.response.length → k = n ∨ (Block.placeParts n b).gport.roomOwn = false) := by
  induction n generalizing b with
  | zero => exact ⟨0, by simp [Block.placeParts, b.placing_self], fun _ => .inl rfl⟩
  | succ n ih =>
    cases hr : b.mgmt.response with
    | nil =>
      refine ⟨0, ?_, by simp⟩
      rw [Block.placeParts_fixed (Block.placePart_nil hs hr)]
      simpa [hr] using b.placing_self.symm
    | cons f rest =>
      have hp := Block.placePart_cons hs hr
      cases hroom : b.gport.roomOwn with
      | false =>
        have hfix : b.placePart = b := by rw [hp, hroom]; rfl
        refine ⟨0, ?_, fun _ => .inr ?_⟩
        · rw [Block.placeParts_fixed hfix]
          simpa [hr] using b.placing_self.symm
        · rw [Block.placeParts_fixed hfix, hroom]
      | true =>
        rw [hroom, if_pos rfl] at hp
        obtain ⟨k, hk, hlt⟩ := ih (b.placing (b.gport.tx ++ [ownItem f]) rest) hs
        rw [Block.placeParts, hp]
        refine ⟨k + 1, hk.trans ?_, fun h => (hlt (Nat.lt_of_succ_lt_succ h)).imp_left fun h => by rw [h]⟩
        simp [Block.placing]

/-- Own frames behind a port's queue take as many own places. -/
theorem Block.ownCount_placing (b : Block) (l parts : List Frame) :
    (b.placing (b.gport.tx ++ l.map ownItem) parts).gport.ownCount = b.gport.ownCount + l.length := by
  simp [Block.placing, Port.ownCount, List.filter_append, List.filter_map, Function.comp_def, ownItem]

/-- Placing all parts leaves some waiting only where no own place is left: the own share has eight (R148, R154). -/
theorem Block.placeAll_spec (b : Block) (hs : b.mgmt.storeAnswer = []) : ∃ k,
    b.placeAll = b.placing (b.gport.tx ++ (b.mgmt.response.take k).map ownItem) (b.mgmt.response.drop k) ∧
      (k < b.mgmt.response.length → b.placeAll.gport.roomOwn = false) := by
  obtain ⟨k, hk, hlt⟩ := Block.placeParts_spec Config.ownPlaces b hs
  refine ⟨k, hk, fun h => (hlt h).elim (fun hn => ?_) id⟩
  have hcount := b.ownCount_placing (b.mgmt.response.take k) (b.mgmt.response.drop k)
  rw [List.length_take, Nat.min_eq_left h.le] at hcount
  have h8 : k = 8 := hn
  rw [Block.placeAll, hk, ← Bool.not_eq_true, Port.roomOwn_iff, hcount]
  omega

/-! ### The parts of an answer (12.4, 12.5) -/

@[simp] theorem length_responseParts (dst src kind : Byte) (code : RespCode) (n : Nat) (rs : List (List Byte)) :
    (responseParts dst src kind code n rs).length = rs.length := by
  induction rs generalizing n with
  | nil => rfl
  | cons r rs ih =>
    cases rs with
    | nil => rfl
    | cons r' rs => simp [responseParts, ih]

/-- Each record has its part, numbered in order, the last one marked (R154). -/
theorem getElem?_responseParts (dst src kind : Byte) (code : RespCode) (n : Nat) {rs : List (List Byte)} {k : Nat}
    {r : List Byte} (h : rs[k]? = some r) : (responseParts dst src kind code n rs)[k]? =
      some (responseFrame dst src kind code (partByte (n + k) (decide (k + 1 = rs.length))) r) := by
  induction rs generalizing n k with
  | nil => simp at h
  | cons a rs ih =>
    cases rs with
    | nil =>
      obtain ⟨rfl, rfl⟩ : k = 0 ∧ a = r := by simpa [List.getElem?_cons] using h
      rfl
    | cons a' rs =>
      cases k with
      | zero =>
        obtain rfl : a = r := by simpa using h
        simp [responseParts]
      | succ k =>
        have := ih (n + 1) (k := k) (by simpa using h)
        simpa [responseParts, Nat.add_right_comm, Nat.add_assoc] using this

/-! ### Requests that read -/

/-- The block once a request has been taken, before its effect (R153, R154, R161, R163, R166). -/
def State.begunBlock (s : State) : Block := { s.toBlock with mgmt := s.begun }

/-- A request that any level may make, and that neither uses the store nor is held back by the freeze: checks 1 to 6 let it pass
(R153). -/
structure Request.Unchecked (r : Request) : Prop where
  formed    : r.isMalformed = false
  level     : r.level = .opened
  freezable : r.freezable = false
  store     : r.usesStore = false
  wipe      : r ≠ .wipe

theorem Request.Unchecked.passes {r : Request} (h : r.Unchecked) (b : Block) (prepare : Bool) : b.checkRequest prepare r = none := by
  simp [Block.checkRequest, h.formed, h.level, h.freezable, h.store, h.wipe, Level.rank]

/-- Such a request, from another node than 63, has its effect (R153, R154). -/
theorem request_unchecked {s : State} {src : Node} {r : Request} (hload : s.loaded = true) (hsrc : src.val ≠ 63)
    (h : r.Unchecked) : request src r s = .next { s with toBlock := s.begunBlock.perform src r } := by
  have hserve : (s.toBlock.modMgmt fun m => { m with request := none }).serveRequest src r = s.begunBlock.perform src r := by
    unfold Block.serveRequest
    rw [h.passes]
    rfl
  have htake : s.toBlock.takeRequest src r = (s.toBlock.modMgmt fun m => { m with request := none }).serveRequest src r :=
    (if_pos hload).trans (if_neg hsrc)
  rw [request, htake, hserve]

/-- The block of a request taken whose parts wait, with this free-value counter (R154). -/
def State.answering (s : State) (parts : List Frame) (n : Nat) : Block :=
  { s.toBlock with mgmt := { s.begun with response := parts }, freeCount := n }

theorem Block.respond_eq (s : State) (src : Node) (kind : Byte) (r : Reply) (n : Nat) :
    ({ s.begunBlock with freeCount := n } : Block).respond src kind r =
      (s.answering (r.parts (nodeByte src) s.toBlock.own kind) n).placeAll := rfl

/-- An answer DONE with one part for each record, as far as there is room at once (R154). -/
structure State.AnswersWith (s : State) (src : Node) (kind : Byte) (records : List (List Byte)) (n : Nat) (t : State) : Prop where
  parts : ∃ parts, State.PlacesParts s t parts ∧ parts.length = records.length ∧
    ∀ k r, records[k]? = some r → State.IsPart s src kind parts k r
  frame : t = { s with gport := { s.gport with tx := t.gport.tx }, mgmt := { s.begun with response := t.mgmt.response }, freeCount := n }

theorem Block.respond_answersWith {s : State} (src : Node) (kind : Byte) {records : List (List Byte)} (n : Nat)
    (hs : s.mgmt.storeAnswer = []) (hne : records ≠ []) : s.AnswersWith src kind records n
      { s with toBlock := ({ s.begunBlock with freeCount := n } : Block).respond src kind { code := .done, records := records } } := by
  have hparts : ({ code := .done, records := records } : Reply).parts (nodeByte src) s.toBlock.own kind =
      responseParts (nodeByte src) s.toBlock.own kind .done 1 records := by
    cases records with
    | nil => exact absurd rfl hne
    | cons r rs => rfl
  rw [Block.respond_eq, hparts]
  obtain ⟨k, hk, hroom⟩ := Block.placeAll_spec
    (s.answering (responseParts (nodeByte src) s.toBlock.own kind .done 1 records) n) hs
  refine ⟨⟨responseParts (nodeByte src) s.toBlock.own kind .done 1 records, ⟨k, ?_, ?_, hroom⟩,
    length_responseParts .., fun k r hr => ?_⟩, ?_⟩
  · rw [hk]; rfl
  · rw [hk]; rfl
  · unfold State.IsPart
    rw [getElem?_responseParts _ _ _ _ _ hr, length_responseParts, partByte, Nat.add_comm 1 k]
    by_cases hlast : k + 1 = records.length <;> simp only [hlast, decide_true, decide_false] <;> rfl
  · rw [hk]; rfl

/-- An answer of a single part that finds room (R154). -/
theorem Block.respond_single {s : State} {src : Node} {kind : Byte} {r : Reply} {record : List Byte} (h : s.Ready src)
    (hr : r.records = [record] ∨ (r.records = [] ∧ record = [])) : s.begunBlock.respond src kind r =
      { s.toBlock with mgmt := s.begun, gport := s.gportWith (s.answer src kind r.code record) } := by
  obtain ⟨-, -, hroom, hs⟩ := h
  have hparts : r.parts (nodeByte src) s.toBlock.own kind =
      [responseFrame (nodeByte src) s.toBlock.own kind r.code (partByte 1 true) record] := by
    unfold Reply.parts
    rcases hr with hr | ⟨hr, rfl⟩
    · rw [hr]; rfl
    · rw [hr]
  rw [show s.begunBlock.respond src kind r = (s.answering (r.parts (nodeByte src) s.toBlock.own kind) s.freeCount).placeAll from rfl,
    hparts]
  have hplace := (Block.placePart_cons
    (b := s.answering [responseFrame (nodeByte src) s.toBlock.own kind r.code (partByte 1 true) record] s.freeCount) hs rfl).trans
    (if_pos hroom)
  rw [Block.placeAll, show Config.ownPlaces = 7 + 1 from rfl, Block.placeParts, hplace]
  exact Block.placeParts_fixed (Block.placePart_nil (b := (s.answering _ _).placing _ []) hs rfl) 7

/-- A request that is answered with these records, and has no other effect than any request taken but for the free-value counter. -/
theorem request_answersWith {s : State} {src : Node} {r : Request} {records : List (List Byte)} {n : Nat} (hl : s.loaded = true)
    (hn : src.val ≠ 63) (hs : s.mgmt.storeAnswer = []) (hr : r.Unchecked) (hne : records ≠ [])
    (hp : s.begunBlock.perform src r =
      ({ s.begunBlock with freeCount := n } : Block).respond src r.kindByte { code := .done, records := records }) :
    ∃ t, request src r s = .next t ∧ s.AnswersWith src r.kindByte records n t :=
  ⟨_, by rw [request_unchecked hl hn hr, hp], Block.respond_answersWith src r.kindByte n hs hne⟩

/-- A request that is answered with a single part at once, and has no other effect than any request taken (R153, R154). -/
theorem request_single {s : State} {src : Node} {r : Request} {reply : Reply} {record : List Byte} (h : s.Ready src)
    (hr : r.Unchecked) (hp : s.begunBlock.perform src r = s.begunBlock.respond src r.kindByte reply)
    (hrec : reply.records = [record] ∨ (reply.records = [] ∧ record = [])) : request src r s = .next { s with
      mgmt := s.begun, gport := s.gportWith (s.answer src r.kindByte reply.code record) } := by
  rw [request_unchecked h.1 h.2.1 hr, hp, Block.respond_single h hrec]

/-! ### Flags bytes (12.5) -/

theorem bitOf_eq (x : Bool) (n : Nat) : bitOf x n = 2 ^ n * if x then 1 else 0 := by cases x <;> simp [bitOf]

theorem Block.inManual_eq (b : Block) (i : CarIx) : b.inManual i = (b.manual.getD []).contains i := by
  unfold Block.inManual
  cases b.manual <;> rfl

/-- The flags byte of a car record, in the words of the statements. -/
theorem Block.carFlags_eq (b : Block) (i : CarIx) : b.carFlags i =
    flagByte [(b.car i).learned.heard, (b.car i).learned.silent, (b.car i).learned.between, (b.car i).doorAlarm,
      (b.car i).selected, (b.manual.getD []).contains i,
      decide (b.plan = .service) && (b.manual.getD []).contains i && (b.car i).state.holdsRecall] := by
  unfold Block.carFlags flagByte
  rw [b.awaiting_eq, b.inManual_eq]
  refine congrArg byteOf ?_
  simp only [bitOf_eq, List.foldr_cons, List.foldr_nil]
  omega

theorem Block.entryFlags_eq (b : Block) (e : Entry) :
    b.entryFlags e = flagByte [e.blocking, (b.car e.car).learned.silent] := by
  unfold Block.entryFlags flagByte
  refine congrArg byteOf ?_
  simp only [bitOf_eq, List.foldr_cons, List.foldr_nil]
  omega

theorem Commitment.flags_eq (c : Commitment) : c.flags = flagByte [c.slowStart, c.unauthorized, c.silentHold, c.tag.isSome] := by
  unfold Commitment.flags flagByte
  refine congrArg byteOf ?_
  simp only [bitOf_eq, List.foldr_cons, List.foldr_nil]
  omega

/-! ### The records (12.5) -/

/-- The record of a car with this landing byte of its order (12.5, R40). -/
def Block.carBytes (b : Block) (i : CarIx) (x : Byte) : List Byte :=
  byteOf (carNo i) :: ((b.conf i).encode ++
    [flagByte [(b.car i).learned.heard, (b.car i).learned.silent, (b.car i).learned.between, (b.car i).doorAlarm,
        (b.car i).selected, (b.manual.getD []).contains i,
        decide (b.plan = .service) && (b.manual.getD []).contains i && (b.car i).state.holdsRecall],
      byteOf (b.car i).learned.landing, (b.car i).learned.motion.code, dirCode (b.car i).learned.dir,
      (b.car i).learned.door.code, (b.car i).learned.load.code, (b.car i).learned.mode.code, (b.car i).learned.fault,
      (b.car i).learned.ackMode.code, nodeOrNone (b.car i).bound, nodeOrNone (b.car i).learned.firstForeign,
      (b.car i).state.code, (b.car i).reason.code, byteOf (b.car i).attempts, orderKindCode (b.car i).order, x])

/-- A car's record has the landing of its order, or some byte where the order names none; only the free-value counter moves on
(assumption 14). -/
theorem Block.carRecord_eq (b : Block) (i : CarIx) : ∃ n x, b.carRecord i = ({ b with freeCount := n }, b.carBytes i x) ∧
    ∀ p, (b.car i).order = some (.recall p) ∨ (b.car i).order = some (.divert p) → x = byteOf p := by
  have hbyte : ∃ n x, b.orderByte (b.car i).order = ({ b with freeCount := n }, x) ∧
      ∀ p, (b.car i).order = some (.recall p) ∨ (b.car i).order = some (.divert p) → x = byteOf p := by
    rcases (b.car i).order with _ | (p | p | _)
    · exact ⟨_, _, rfl, by simp⟩
    · exact ⟨b.freeCount, byteOf p, rfl, by simp⟩
    · exact ⟨b.freeCount, byteOf p, rfl, by simp⟩
    · exact ⟨_, _, rfl, by simp⟩
  obtain ⟨n, x, hx, hp⟩ := hbyte
  refine ⟨n, x, ?_, hp⟩
  unfold Block.carRecord Block.carBytes
  dsimp only
  rw [hx, b.carFlags_eq]

/-- The records of some cars, in their order (R155). -/
theorem Block.readCarRecords_spec (b : Block) (l : List CarIx) : ∃ n rs, b.readCarRecords l = ({ b with freeCount := n }, rs) ∧
    rs.length = l.length ∧ ∀ (k : Nat) (i : CarIx), l[k]? = some i → ∃ x, rs[k]? = some (b.carBytes i x) ∧
      ∀ p, (b.car i).order = some (.recall p) ∨ (b.car i).order = some (.divert p) → x = byteOf p := by
  induction l generalizing b with
  | nil => exact ⟨b.freeCount, [], rfl, rfl, by simp⟩
  | cons i l ih =>
    obtain ⟨m, x, hx, hp⟩ := b.carRecord_eq i
    obtain ⟨n, rs, hrs, hlen, hget⟩ := ih { b with freeCount := m }
    refine ⟨n, b.carBytes i x :: rs, ?_, by simp [hlen], fun k j hk => ?_⟩
    · rw [Block.readCarRecords, hx]
      dsimp only
      rw [hrs]
    · cases k with
      | zero =>
        obtain rfl : i = j := by simpa using hk
        exact ⟨x, rfl, hp⟩
      | succ k => exact hget k j (by simpa using hk)

/-- The record of a queue entry, in the words of the statements (12.5, R89). -/
theorem Block.queueRecord_eq (b : Block) (e : Entry) : b.queueRecord e =
    [byteOf (queuePosition e.car b.queue), byteOf (carNo e.car), e.kind.code, byteOf e.cls, byteOf e.target,
        dirCode (some e.dir), e.load.code] ++ be16s e.fig.ds ++ be16s e.fig.dh ++ be16s e.fig.dl ++
      [byteOf e.skip, flagByte [e.blocking, (b.car e.car).learned.silent], e.tag] := by
  rw [Block.queueRecord, b.entryFlags_eq]

/-- With one entry for a car, an entry's position is its place in the queue, counted from 1 (R89). -/
theorem queuePosition_getElem? {q : List Entry} (hn : (queueCars q).Nodup) {k : Nat} {e : Entry} (h : q[k]? = some e) :
    queuePosition e.car q = k + 1 := by
  induction q generalizing k with
  | nil => simp at h
  | cons x q ih =>
    obtain ⟨hx, hq⟩ := List.nodup_cons.mp hn
    cases k with
    | zero =>
      obtain rfl : x = e := by simpa using h
      simp [queuePosition]
    | succ k =>
      have h : q[k]? = some e := by simpa using h
      have hne : x.car ≠ e.car := fun he => hx (List.mem_map.mpr ⟨e, List.mem_of_getElem? h, he.symm⟩)
      rw [queuePosition, if_neg hne, ih hq h]

/-- The record of a commitment with this tag byte (12.5, R54). -/
def Commitment.bytes (c : Commitment) (x : Byte) : List Byte :=
  [byteOf (carNo c.car), c.kind.code, c.phase.code] ++ be16s c.fig.ds ++ be16s c.fig.dh ++ be16s c.fig.dl ++
    be16s c.upper ++ be16s c.lower ++
    [nodeOrNone c.target, x, flagByte [c.slowStart, c.unauthorized, c.silentHold, c.tag.isSome],
      timerByte c.grantTimer, timerByte c.accelTimer] ++ c.runTimer.word ++ timerWord c.releaseTimer

/-- A commitment's record has its tag, or some byte where it has none (assumption 14). -/
theorem Block.commitmentRecord_eq (b : Block) (c : Commitment) : ∃ n x,
    b.commitmentRecord c = ({ b with freeCount := n }, c.bytes x) ∧ ∀ tag, c.tag = some tag → x = tag := by
  have hbyte : ∃ n x, b.tagByte c.tag = ({ b with freeCount := n }, x) ∧ ∀ tag, c.tag = some tag → x = tag := by
    cases c.tag with
    | none => exact ⟨_, _, rfl, by simp⟩
    | some tag => exact ⟨b.freeCount, tag, rfl, by simp⟩
  obtain ⟨n, x, hx, hp⟩ := hbyte
  refine ⟨n, x, ?_, hp⟩
  unfold Block.commitmentRecord Commitment.bytes
  dsimp only
  rw [hx, c.flags_eq]

/-- The records of some commitments, in their order (R155). -/
theorem Block.commitmentRecords_spec (b : Block) (l : List Commitment) : ∃ n rs,
    b.commitmentRecords l = ({ b with freeCount := n }, rs) ∧ rs.length = l.length ∧
      ∀ (k : Nat) (c : Commitment), l[k]? = some c → ∃ x, rs[k]? = some (c.bytes x) ∧ ∀ tag, c.tag = some tag → x = tag := by
  induction l generalizing b with
  | nil => exact ⟨b.freeCount, [], rfl, rfl, by simp⟩
  | cons c l ih =>
    obtain ⟨m, x, hx, hp⟩ := b.commitmentRecord_eq c
    obtain ⟨n, rs, hrs, hlen, hget⟩ := ih { b with freeCount := m }
    refine ⟨n, c.bytes x :: rs, ?_, by simp [hlen], fun k d hk => ?_⟩
    · rw [Block.commitmentRecords, hx]
      dsimp only
      rw [hrs]
    · cases k with
      | zero =>
        obtain rfl : c = d := by simpa using hk
        exact ⟨x, rfl, hp⟩
      | succ k => exact hget k d (by simpa using hk)

/-! ### Cars by number -/

/-- A car number is its own byte. -/
@[simp] theorem toNat_byteOf_carNo (i : CarIx) : (byteOf (carNo i)).toNat = i.val + 1 := by
  have := i.isLt
  simp only [byteOf, carNo, BitVec.toNat_ofNat]
  omega

/-- The cars stand in car-number order. -/
theorem getElem?_allCars (i : CarIx) : allCars[i.val]? = some i := by revert i; decide

end Sys2Proof.Machine

open Sys2Proof Sys2Proof.Machine

/-- READ_CARS (R155). -/
theorem readCars_answers {s : State} {src : Node} {start : CarIx} {count : Byte} (hl : s.loaded = true) (hn : src.val ≠ 63)
    (hs : s.mgmt.storeAnswer = []) (h1 : 1 ≤ count.toNat) (h16 : count.toNat ≤ 16) : ∃ t n rs,
      exec (.readCars src (byteOf (carNo start)) count) s = .next t ∧ s.AnswersWith src 2 rs n t ∧
      rs.length = min count.toNat (16 - start.val) ∧
      ∀ k, k < rs.length → ∀ i : CarIx, i.val = start.val + k → ∃ x, rs[k]? = some (s.toBlock.carBytes i x) ∧
        ∀ p, (s.toBlock.car i).order = some (.recall p) ∨ (s.toBlock.car i).order = some (.divert p) → x = byteOf p := by
  obtain ⟨n, rs, hrs, hlen, hget⟩ := s.begunBlock.readCarRecords_spec ((allCars.drop start.val).take count.toNat)
  have hlen : rs.length = min count.toNat (16 - start.val) := by
    rw [hlen, List.length_take, List.length_drop]; rfl
  have hstart := start.isLt
  have hread : s.begunBlock.doReadCars (byteOf (carNo start)) count =
      ({ s.begunBlock with freeCount := n }, { code := .done, records := rs }) := by
    unfold Block.doReadCars
    rw [toNat_byteOf_carNo, if_neg (by omega), if_neg (by omega), Nat.add_sub_cancel, hrs]
  obtain ⟨t, ht, ha⟩ := request_answersWith (r := .readCars (byteOf (carNo start)) count) hl hn hs
    ⟨rfl, rfl, rfl, rfl, by simp⟩ (fun h => by simp [h] at hlen; omega) (congrArg (fun x => x.1.respond src 2 x.2) hread)
  refine ⟨t, n, rs, ht, ha, hlen, fun k hk i hi => hget k i ?_⟩
  rw [List.getElem?_take_of_lt (by omega), List.getElem?_drop, ← hi, getElem?_allCars]

/-- Settles O43: each request is answered as `request_answersWith` or `request_single` says. -/
theorem listReads : Obligations.ListReads := by
  unfold Obligations.ListReads
  refine ⟨fun s src start count hl hn hs h1 h16 => ?_, fun s src hl hn hs hne => ?_, fun s src hl hn hs hne => ?_,
    fun s src hr => ⟨fun hc => ?_, fun start count hst => ?_, fun start count hct => ?_⟩⟩
  · obtain ⟨t, n, rs, ht, ⟨⟨parts, hplace, hlen, hpart⟩, hframe⟩, hrs, hget⟩ := readCars_answers (start := start) hl hn hs h1 h16
    refine ⟨t, ht, ⟨parts, hplace, hlen.trans hrs, fun k hk i hi => ?_⟩, ?_⟩
    · obtain ⟨x, hx, hp⟩ := hget k (hlen ▸ hk) i hi
      exact ⟨x, hp, hpart k _ hx⟩
    · rw [hframe]
  · obtain ⟨t, ht, ⟨parts, hplace, hlen, hpart⟩, hframe⟩ := request_answersWith (r := .readQueue)
      (records := s.queue.map s.begunBlock.queueRecord) (n := s.freeCount) hl hn hs ⟨rfl, rfl, rfl, rfl, by simp⟩
      (by simpa using hne) rfl
    refine ⟨t, ht, ⟨parts, hplace, by simpa using hlen, fun k e hk => ⟨fun hnd => queuePosition_getElem? hnd hk, ?_⟩⟩, hframe⟩
    have hrec := hpart k (s.begunBlock.queueRecord e) (by simp [hk])
    rw [Block.queueRecord_eq] at hrec
    exact hrec
  · obtain ⟨n, rs, hrs, hlen, hget⟩ := s.begunBlock.commitmentRecords_spec s.commitments
    have hread : s.begunBlock.doReadCommitments = ({ s.begunBlock with freeCount := n }, { code := .done, records := rs }) := by
      rw [Block.doReadCommitments, show s.begunBlock.commitments = s.commitments from rfl, hrs]
    obtain ⟨t, ht, ⟨parts, hplace, hplen, hpart⟩, hframe⟩ := request_answersWith (r := .readCommitments) hl hn hs
      ⟨rfl, rfl, rfl, rfl, by simp⟩ (fun h => hne (by simpa [h] using hlen.symm)) (congrArg (fun x => x.1.respond src 4 x.2) hread)
    refine ⟨t, ht, ⟨parts, hplace, hplen.trans hlen, fun k c hk => ?_⟩, ?_⟩
    · obtain ⟨x, hx, htag⟩ := hget k c hk
      exact ⟨x, htag, hpart k _ hx⟩
    · rw [hframe]
  · have hread : s.begunBlock.doReadCommitments = (s.begunBlock, Reply.plain .done) := by
      rw [Block.doReadCommitments, show s.begunBlock.commitments = [] from hc]
      rfl
    exact request_single (r := .readCommitments) (reply := Reply.plain .done) hr ⟨rfl, rfl, rfl, rfl, by simp⟩
      (congrArg (fun x => x.1.respond src 4 x.2) hread) (.inr ⟨rfl, rfl⟩)
  · have hread : s.begunBlock.doReadCars start count = (s.begunBlock, Reply.plain .notFound) := if_pos hst
    exact request_single (r := .readCars start count) (reply := Reply.plain .notFound) hr ⟨rfl, rfl, rfl, rfl, by simp⟩
      (congrArg (fun x => x.1.respond src 2 x.2) hread) (.inr ⟨rfl, rfl⟩)
  · have hstart := start.isLt
    have hread : s.begunBlock.doReadCars (byteOf (carNo start)) count = (s.begunBlock, Reply.badField 2 0) := by
      unfold Block.doReadCars
      rw [toNat_byteOf_carNo, if_neg (by omega), if_pos hct]
    exact request_single (r := .readCars (byteOf (carNo start)) count) (reply := Reply.badField 2 0) hr
      ⟨rfl, rfl, rfl, rfl, by simp⟩ (congrArg (fun x => x.1.respond src 2 x.2) hread) (.inl rfl)

end

section
/-! What has been recorded in an error summary stays recorded through every operation of a step (R151). -/

namespace Sys2Proof.Machine

/-- A kind has been recorded in an error summary (R151). -/
def ErrorSummary.has (e : ErrorSummary) : ErrKind → Bool
  | .check => e.check
  | .length => e.length
  | .truncated => e.truncated
  | .overrun => e.overrun
  | .lineFault => e.lineFault
  | .txDiscard => e.txDiscard
  | .noticeLost => e.noticeLost

theorem ErrorSummary.has_add (e : ErrorSummary) (k k' : ErrKind) : (e.add k).has k' = (decide (k = k') || e.has k') := by
  cases k <;> cases k' <;> rfl

/-- What either port has recorded stays recorded. -/
def Block.KeepsErrors (b b' : Block) : Prop := ∀ p k, (b.port p).errors.has k = true → (b'.port p).errors.has k = true

theorem Block.KeepsErrors.refl (b : Block) : b.KeepsErrors b := fun _ _ => id

theorem Block.KeepsErrors.trans {b c d : Block} (h : b.KeepsErrors c) (k : c.KeepsErrors d) : b.KeepsErrors d :=
  fun p e => k p e ∘ h p e

/-- An operation that leaves both ports alone. -/
theorem Block.KeepsErrors.of_ports {b c : Block} (hg : c.gport = b.gport) (hc : c.cport = b.cport) : b.KeepsErrors c := by
  intro p e he
  cases p
  · exact (congrArg Port.errors hg).symm ▸ he
  · exact (congrArg Port.errors hc).symm ▸ he

theorem Block.marks_keepErrors (b : Block) (x y : Bool) : b.KeepsErrors { b with arbDue := x, evalDue := y } := .of_ports rfl rfl

/-! ### Sending -/

theorem Block.modPort_keepErrors (b : Block) (p : PortId) (f : Port → Port)
    (h : ∀ k, (b.port p).errors.has k = true → (f (b.port p)).errors.has k = true) : b.KeepsErrors (b.modPort p f) := by
  intro q k hk
  cases p <;> cases q
  · exact h k hk
  · exact hk
  · exact hk
  · exact h k hk

theorem Block.record_keepErrors (b : Block) (p : PortId) (k : ErrKind) : b.KeepsErrors (b.modPort p fun q => q.record k) :=
  b.modPort_keepErrors p _ fun k' hk => by
    rw [Port.record, ErrorSummary.has_add, hk, Bool.or_true]

theorem Block.push_keepErrors (b : Block) (p : PortId) (x : TxItem) : b.KeepsErrors (b.modPort p fun q => q.push x) :=
  b.modPort_keepErrors p _ fun _ => id

theorem Block.modCar_keepErrors (b : Block) (i : CarIx) (f : Car → Car) : b.KeepsErrors (b.modCar i f) := .of_ports rfl rfl

theorem Block.placeOwn_keepErrors (b : Block) (p : PortId) (f : Frame) (restart : Bool) :
    b.KeepsErrors (b.placeOwn p f restart).1 := by
  unfold Block.placeOwn
  split
  · exact b.push_keepErrors p _
  · exact .refl b

theorem Block.relayTo_keepErrors (b : Block) (p : PortId) (f : Frame) : b.KeepsErrors (b.relayTo p f) := by
  unfold Block.relayTo
  split
  · exact b.push_keepErrors p _
  · exact b.record_keepErrors p _

theorem Block.mirrorCopy_keepErrors (b : Block) (f : Frame) : b.KeepsErrors (b.mirrorCopy f) := by
  unfold Block.mirrorCopy
  split
  · exact b.placeOwn_keepErrors .g _ false
  · exact .refl b

theorem Block.sendCar_keepErrors (b : Block) (dst : Byte) (k : FrameKind) (payload : List Byte) :
    b.KeepsErrors (b.sendCar dst k payload).1 := by
  unfold Block.sendCar
  dsimp only
  split
  · exact (b.placeOwn_keepErrors .c _ false).trans (Block.mirrorCopy_keepErrors _ _)
  · exact b.placeOwn_keepErrors .c _ false

theorem Block.sendCarOrLose_keepErrors (b : Block) (dst : Byte) (k : FrameKind) (payload : List Byte) :
    b.KeepsErrors (b.sendCarOrLose dst k payload) := by
  unfold Block.sendCarOrLose
  dsimp only
  split
  · exact b.sendCar_keepErrors dst k payload
  · exact (b.sendCar_keepErrors dst k payload).trans (Block.record_keepErrors _ _ _)

theorem Block.sendNotice_keepErrors (b : Block) (dst : Byte) (k : FrameKind) (payload : List Byte) :
    b.KeepsErrors (b.sendNotice dst k payload) := by
  unfold Block.sendNotice
  dsimp only
  split
  · exact b.placeOwn_keepErrors .g _ false
  · exact (b.placeOwn_keepErrors .g _ false).trans (Block.record_keepErrors _ _ _)

theorem Block.carNotice_keepErrors (b : Block) (i : CarIx) (r : NoticeReason) : b.KeepsErrors (b.carNotice i r) :=
  b.sendNotice_keepErrors _ _ _

theorem Block.announce_keepErrors (b : Block) (f : Frame) (o : NoticeOutcome) : b.KeepsErrors (b.announce f o) := by
  unfold Block.announce Block.orderNotice
  split
  · exact .refl b
  · exact b.sendNotice_keepErrors _ _ _

theorem Block.boundNode_keepErrors (b : Block) (i : CarIx) : b.KeepsErrors (b.boundNode i).1 := by
  unfold Block.boundNode
  split
  · exact .refl b
  · exact .of_ports rfl rfl

theorem Block.refuseBound_keepErrors (b : Block) (i : CarIx) (tag : Byte) (r : RefusalReason) :
    b.KeepsErrors (b.refuseBound i tag r) := (b.boundNode_keepErrors i).trans (Block.sendCarOrLose_keepErrors _ _ _ _)

theorem Block.sendGrant_keepErrors (b : Block) (i : CarIx) (tag : Byte) (window : Nat) :
    b.KeepsErrors (b.sendGrant i tag window) := (b.boundNode_keepErrors i).trans (Block.sendCarOrLose_keepErrors _ _ _ _)

theorem Block.sendOrder_keepErrors (b : Block) (i : CarIx) : b.KeepsErrors (b.sendOrder i) := by
  unfold Block.sendOrder
  split
  · exact .refl b
  · dsimp only
    split
    · exact (b.sendCar_keepErrors _ _ _).trans (Block.modCar_keepErrors _ _ _)
    · exact (b.sendCar_keepErrors _ _ _).trans (Block.modCar_keepErrors _ _ _)

/-! ### Moves -/

theorem Block.releaseSlot_keepErrors (b : Block) (i : CarIx) : b.KeepsErrors (b.releaseSlot i) := by
  unfold Block.releaseSlot
  split
  · exact ((b.modCar_keepErrors i _).trans (Block.relayTo_keepErrors _ _ _)).trans (Block.announce_keepErrors _ _ _)
  · exact b.modCar_keepErrors i _

theorem Block.dropSlot_keepErrors (b : Block) (i : CarIx) : b.KeepsErrors (b.dropSlot i) := by
  unfold Block.dropSlot
  split
  · exact (b.modCar_keepErrors i _).trans (Block.announce_keepErrors _ _ _)
  · exact b.modCar_keepErrors i _

theorem Block.tellRelay_keepErrors (b : Block) (i : CarIx) : b.KeepsErrors (b.tellRelay i) := by
  unfold Block.tellRelay
  split
  · split
    · exact b.modCar_keepErrors i _
    · exact .refl b
  · split
    · exact .refl b
    · split
      · exact b.releaseSlot_keepErrors i
      · split
        · exact .refl b
        · exact b.dropSlot_keepErrors i

theorem Block.setEntryKind_keepErrors (b : Block) (i : CarIx) (k : RunKind) : b.KeepsErrors (b.setEntryKind i k) := by
  unfold Block.setEntryKind
  split
  · exact .refl b
  · dsimp only
    split
    · exact .of_ports rfl rfl
    · exact .of_ports rfl rfl

theorem Block.rejudge_keepErrors (b : Block) (i : CarIx) : b.KeepsErrors (b.rejudge i).1 := by
  have hremove : ∀ (tag : Byte) (r : RefusalReason), b.KeepsErrors ((b.removeEntry i).refuseBound i tag r) := fun tag r =>
    (Block.KeepsErrors.of_ports (c := b.removeEntry i) rfl rfl).trans (Block.refuseBound_keepErrors _ i tag r)
  unfold Block.rejudge
  split
  · exact .refl b
  · split
    · exact hremove _ _
    · split
      · exact .refl b
      · split
        · exact b.setEntryKind_keepErrors i _
        · dsimp only
          split
          · exact (hremove _ _).trans (Block.sendOrder_keepErrors _ _)
          · exact hremove _ _

theorem Block.sendOrderOnce_keepErrors (b : Block) (i : CarIx) (wanted sent : Bool) :
    b.KeepsErrors (b.sendOrderOnce i wanted sent) := by
  unfold Block.sendOrderOnce
  split
  · exact b.sendOrder_keepErrors i
  · exact .refl b

theorem Block.tellSelection_keepErrors (b : Block) (old dest : RState) : b.KeepsErrors (b.tellSelection old dest) := by
  unfold Block.tellSelection
  split
  · exact .of_ports rfl rfl
  · exact .refl b

theorem Block.tellRecallWork_keepErrors (b : Block) (n : Nat) : b.KeepsErrors (b.tellRecallWork n) := by
  unfold Block.tellRecallWork
  split
  · exact .of_ports rfl rfl
  · exact .refl b

theorem Block.move_keepErrors (b : Block) (i : CarIx) (dest : RState) (r : Reason) (send : Bool) :
    b.KeepsErrors (b.move i dest r send) := by
  unfold Block.move
  split
  · exact b.sendOrderOnce_keepErrors i send false
  · unfold Block.changeState
    exact ((((((b.modCar_keepErrors i _).trans (Block.carNotice_keepErrors _ _ _)).trans (Block.rejudge_keepErrors _ _)).trans
      (Block.sendOrderOnce_keepErrors _ _ _ _)).trans (Block.tellRelay_keepErrors _ _)).trans
      (Block.tellSelection_keepErrors _ _ _)).trans (Block.tellRecallWork_keepErrors _ _)

theorem Block.park_keepErrors (b : Block) (i : CarIx) (alarm : Bool) : b.KeepsErrors (b.park i alarm) := by
  unfold Block.park
  dsimp only
  split
  · exact (b.modCar_keepErrors i _).trans (Block.move_keepErrors _ _ _ _ _)
  · exact b.move_keepErrors i _ _ _

theorem Block.arrivalCheck_keepErrors (b : Block) (i : CarIx) : b.KeepsErrors (b.arrivalCheck i) := by
  unfold Block.arrivalCheck Block.land
  split
  · split
    · exact (b.move_keepErrors i _ _ _).trans (Block.park_keepErrors _ _ _)
    · exact (b.modCar_keepErrors i _).trans (Block.move_keepErrors _ _ _ _ _)
  · exact .refl b

/-! ### The end of a step -/

theorem Block.evaluateCar_keepErrors (set : List CarIx) (b : Block) (i : CarIx) : b.KeepsErrors (Block.evaluateCar set b i) := by
  have hmove : ∀ (f : Car → Car) (dest : RState) (send : Bool), b.KeepsErrors ((b.modCar i f).move i dest .none send) :=
    fun f dest send => (b.modCar_keepErrors i f).trans (Block.move_keepErrors _ _ _ _ _)
  unfold Block.evaluateCar Block.selectCar Block.releaseCar
  dsimp only
  repeat' split
  · exact hmove _ _ _
  · exact .refl b
  · exact .refl b
  · exact hmove _ _ _
  · exact (hmove _ _ _).trans (Block.arrivalCheck_keepErrors _ _)
  · exact .refl b

theorem Block.takeEvaluation_keepErrors (b : Block) : b.KeepsErrors b.takeEvaluation := by
  unfold Block.takeEvaluation Block.evaluate
  split
  · split
    · exact Block.KeepsErrors.trans (c := allCars.foldl (Block.evaluateCar b.serviceSet) b)
        (foldl_rel .refl .trans (fun b i => Block.evaluateCar_keepErrors _ b i) _ _) (Block.marks_keepErrors _ _ false)
    · exact .of_ports rfl rfl
  · exact .refl b

theorem Block.takeGrant_keepErrors (b : Block) (i : CarIx) (k : RunKind) : b.KeepsErrors (b.takeGrant i k) := by
  unfold Block.takeGrant
  dsimp only
  repeat' split
  · exact (b.modCar_keepErrors i _).trans (Block.move_keepErrors _ _ _ _ _)
  · exact b.modCar_keepErrors i _
  · exact .refl b

/-- The block of a grant with the entry out of the queue and the commitment made, before the grant is sent (R85). -/
def Block.committed (b : Block) (e : Entry) (noted : List CarIx) : Block :=
  { b with
    queue := (b.queue.filter fun x => x.car ≠ e.car).map fun x =>
      if noted.contains x.car then x.bump b.active.plan.skipLimit else x
    commitments := b.commitments ++ [e.commitment b.active.plan] }

theorem Block.grantEntry_committed (b : Block) (e : Entry) (noted : List CarIx) : b.grantEntry e noted =
    ((b.committed e noted).sendGrant e.car e.tag b.active.plan.tGrant).takeGrant e.car e.kind := rfl

theorem Block.grantEntry_keepErrors (b : Block) (e : Entry) (noted : List CarIx) : b.KeepsErrors (b.grantEntry e noted) :=
  ((Block.KeepsErrors.of_ports (c := b.committed e noted) rfl rfl).trans (Block.sendGrant_keepErrors _ _ _ _)).trans
    (Block.takeGrant_keepErrors _ _ _)

theorem Block.takeTrigger_keepErrors (b : Block) : b.KeepsErrors b.takeTrigger := by
  rcases b.takeTrigger_cases with ⟨x, hx⟩ | ⟨e, noted, -, hx⟩
  · rw [hx]; exact .of_ports rfl rfl
  · rw [hx]
    exact (b.grantEntry_keepErrors e noted).trans (Block.marks_keepErrors _ false _)

theorem Block.gport_syncResend (b : Block) (i : CarIx) : (b.syncResend i).gport = b.gport := by
  unfold Block.syncResend
  repeat' split
  all_goals rfl

/-- The order-resend timers leave the G-port alone (R101). -/
theorem Block.gport_resendAll (b : Block) : (allCars.foldl Block.syncResend b).gport = b.gport :=
  syncResend_carWise.foldl_same (fun c => c.gport) nodup_allCars b fun c i _ _ => c.gport_syncResend i

/-- The end of a step keeps what has been recorded (R151). -/
theorem Block.finish_keepErrors (b : Block) : b.KeepsErrors b.finish :=
  (b.takeEvaluation_keepErrors.trans (Block.takeTrigger_keepErrors _)).trans
    (.of_ports (Block.gport_resendAll _) (Block.resendAll _).cport)

end Sys2Proof.Machine
end

section
/-! What a move leaves of the step's own marks and sends on the G-port, and what the pass behind a removal leaves (R78, R83). -/

namespace Sys2Proof.Machine

/-! ### The marks of a step -/

theorem Block.marks_sendOrder (b : Block) (i : CarIx) :
    (b.sendOrder i).arbDue = b.arbDue ∧ (b.sendOrder i).evalDue = b.evalDue := by
  unfold Block.sendOrder
  split
  · exact ⟨rfl, rfl⟩
  · dsimp only
    split
    · exact ⟨(b.sendCar_only _ _ _).arbDue, (b.sendCar_only _ _ _).evalDue⟩
    · exact ⟨(b.sendCar_only _ _ _).arbDue, (b.sendCar_only _ _ _).evalDue⟩

theorem Block.marks_sendOrderOnce (b : Block) (i : CarIx) (wanted sent : Bool) :
    (b.sendOrderOnce i wanted sent).arbDue = b.arbDue ∧ (b.sendOrderOnce i wanted sent).evalDue = b.evalDue := by
  unfold Block.sendOrderOnce
  split
  · exact b.marks_sendOrder i
  · exact ⟨rfl, rfl⟩

@[simp] theorem Block.arbDue_tellRelay (b : Block) (i : CarIx) : (b.tellRelay i).arbDue = b.arbDue := by
  obtain ⟨x, hx⟩ := b.tellRelay_sends i
  exact hx.arbDue

/-- Judging an entry again causes no evaluation (R110). -/
theorem Block.evalDue_rejudge (b : Block) (i : CarIx) : (b.rejudge i).1.evalDue = b.evalDue := by
  have hremove : ∀ (tag : Byte) (r : RefusalReason), ((b.removeEntry i).refuseBound i tag r).evalDue = b.evalDue := fun tag r =>
    ((b.removeEntry i).refuseBound_only i tag r).evalDue
  unfold Block.rejudge
  split
  · rfl
  · split
    · exact hremove _ _
    · split
      · rfl
      · split
        · unfold Block.setEntryKind
          split
          · rfl
          · dsimp only
            split
            · rfl
            · rfl
        · dsimp only
          split
          · exact (Block.marks_sendOrder _ _).2.trans (hremove _ _)
          · exact hremove _ _

/-- A move out of SERVING, or into a parked state, is an evaluation event in SERVICE (R106, R126). -/
def Plan.evaluates (p : Plan) (old dest : RState) : Bool :=
  decide (p = .service) && (decide (old = .serving) || dest.isParked)

theorem Block.evalDue_tellSelection (b : Block) (old dest : RState) :
    (b.tellSelection old dest).evalDue = (b.evalDue || b.plan.evaluates old dest) := by
  unfold Block.tellSelection Plan.evaluates
  by_cases h : b.plan = .service ∧ (old = .serving ∨ dest.isParked = true)
  · rw [if_pos h]
    simp [h.1, h.2]
  · rw [if_neg h]
    simpa using fun hp ho => absurd ⟨hp, ho⟩ h

theorem Block.marks_tellRecallWork (b : Block) (n : Nat) :
    (b.tellRecallWork n).arbDue = b.arbDue ∧ (b.tellRecallWork n).evalDue = b.evalDue := by
  unfold Block.tellRecallWork
  split
  · exact ⟨rfl, rfl⟩
  · exact ⟨rfl, rfl⟩

theorem Block.arbDue_tellSelection (b : Block) (old dest : RState) : (b.tellSelection old dest).arbDue = b.arbDue := by
  unfold Block.tellSelection
  split
  · rfl
  · rfl

/-- The block of a move once the car has entered its state and its plan notice has been sent (R106). -/
def Block.entered (b : Block) (i : CarIx) (dest : RState) (r : Reason) : Block :=
  (b.modCar i fun c => c.enter dest r).carNotice i (moveReason (b.car i) dest r)

theorem Block.entered_only (b : Block) (i : CarIx) (dest : RState) (r : Reason) :
    (b.modCar i fun c => c.enter dest r).OnlySends (b.entered i dest r) := Block.carNotice_only _ _ _

theorem Block.changeState_entered (b : Block) (i : CarIx) (dest : RState) (r : Reason) (send : Bool) :
    b.changeState i dest r send = ((((((b.entered i dest r).rejudge i).1.sendOrderOnce i send
      ((b.entered i dest r).rejudge i).2).tellRelay i).tellSelection (b.car i).state dest).tellRecallWork b.recallWork) := rfl

/-- After its notice a move keeps what moves keep. -/
theorem Block.entered_keeps (b : Block) (i : CarIx) (dest : RState) (r : Reason) (send : Bool) :
    (b.entered i dest r).KeepsBudget (b.changeState i dest r send) := by
  rw [b.changeState_entered]
  exact ((((Block.rejudge_keeps _ i).trans (Block.sendOrderOnce_keeps _ _ _ _)).trans (Block.tellRelay_keeps _ _)).trans
    (Block.tellSelection_keeps _ _ _)).trans (Block.tellRecallWork_keeps _ _)

/-- A move makes an evaluation due exactly when it is an evaluation event (R106, R126). -/
theorem Block.evalDue_move (b : Block) (i : CarIx) (dest : RState) (r : Reason) (send : Bool) :
    (b.move i dest r send).evalDue =
      (b.evalDue || (decide ((b.car i).state ≠ dest) && b.plan.evaluates (b.car i).state dest)) := by
  unfold Block.move
  split
  · rename_i h
    simp [h, (b.marks_sendOrderOnce i send false).2]
  · rename_i h
    have ho := b.entered_only i dest r
    have hk := (((Block.rejudge_keeps (b.entered i dest r) i).trans (Block.sendOrderOnce_keeps _ i send
      ((b.entered i dest r).rejudge i).2)).trans (Block.tellRelay_keeps _ i))
    rw [b.changeState_entered, (Block.marks_tellRecallWork _ _).2, Block.evalDue_tellSelection, Block.evalDue_tellRelay,
      (Block.marks_sendOrderOnce _ _ _ _).2, Block.evalDue_rejudge, ho.evalDue, hk.plan, ho.plan]
    simp [h]

/-- A move of a car without an entry is no trigger (R83). -/
theorem Block.arbDue_move {b : Block} {i : CarIx} (hq : b.entry? i = none) (dest : RState) (r : Reason) (send : Bool) :
    (b.move i dest r send).arbDue = b.arbDue := by
  unfold Block.move
  split
  · exact (b.marks_sendOrderOnce i send false).1
  · have ho := b.entered_only i dest r
    rw [b.changeState_entered, (Block.marks_tellRecallWork _ _).1, Block.arbDue_tellSelection, Block.arbDue_tellRelay,
      (Block.marks_sendOrderOnce _ _ _ _).1, Block.rejudge_of_none ((Block.entry?_congr ho.sameQueue i).trans hq), ho.arbDue]
    rfl

/-! ### The notice of a move -/

/-- A move to another state queues its plan notice first on the G-port, where there is room (R106, R143). -/
theorem Block.gport_move {b : Block} {i : CarIx} {dest : RState} (r : Reason) (send : Bool) (hs : (b.car i).state ≠ dest)
    (hr : b.gport.roomOwn = true) : ∃ l, (b.move i dest r send).gport.tx = b.gport.tx ++
      ownItem (b.ownFrame 0 .planNotice [b.plan.code, byteOf (carNo i), dest.code, (moveReason (b.car i) dest r).code]) :: l := by
  have hnotice := Block.gport_carNotice (b := b.modCar i fun c => c.enter dest r) hr i (moveReason (b.car i) dest r)
  rw [Block.car_modCar_same] at hnotice
  rw [Block.move, if_neg hs]
  exact (b.entered_keeps i dest r send).gport.behind (congrArg Port.tx hnotice)

/-! ### A frame whose loss is recorded -/

/-- A frame whose loss is recorded leaves one frame more on the C-port, or the loss recorded (R102). -/
theorem Block.cport_sendCarOrLose (b : Block) (dst : Byte) (k : FrameKind) (payload : List Byte) :
    (b.sendCarOrLose dst k payload).cport = if b.cport.roomOwn then
      { b.cport with tx := b.cport.tx ++ [ownItem (b.ownFrame dst k payload)] } else b.cport.record .noticeLost := by
  unfold Block.sendCarOrLose
  dsimp only
  rw [b.sendCar_snd, b.sendCar_eq]
  cases h : b.cport.roomOwn <;> simp [Block.modPort]

/-- Its copy on the G-port takes one own place at most (R144). -/
theorem Block.gport_sendCarOrLose (b : Block) (dst : Byte) (k : FrameKind) (payload : List Byte) : ∃ l : List TxItem,
    l.length ≤ 1 ∧ (∀ x ∈ l, x.own = true) ∧ (b.sendCarOrLose dst k payload).gport = { b.gport with tx := b.gport.tx ++ l } := by
  have hsame : ∃ l : List TxItem, l.length ≤ 1 ∧ (∀ x ∈ l, x.own = true) ∧
      b.gport = { b.gport with tx := b.gport.tx ++ l } := ⟨[], by simp, by simp, by simp⟩
  unfold Block.sendCarOrLose
  dsimp only
  rw [b.sendCar_snd, b.sendCar_eq]
  cases hc : b.cport.roomOwn
  · simpa [Block.modPort] using hsame
  · cases hm : (b.active.plan.mirror && b.gport.roomOwn)
    · simpa [hm] using hsame
    · exact ⟨[ownItem (b.ownFrame 0 k payload)], by simp, by simp [ownItem], by simp [hm]⟩

/-! ### A grant -/

/-- A car without an entry keeps the queue when it is told of its grant (R114). -/
theorem Block.queue_takeGrant {b : Block} {i : CarIx} (k : RunKind) (hq : b.entry? i = none) :
    (b.takeGrant i k).queue = b.queue := by
  unfold Block.takeGrant
  dsimp only
  repeat' split
  · exact Block.queue_move (b := b.modCar i fun c => { c with faultSeen := false }) _ _ hq
  · rfl
  · rfl

/-- What a grant leaves (R85): the entry out of the queue, its commitment last in the list, no other car changed. -/
structure Block.Grants (b : Block) (e : Entry) (noted : List CarIx) (t : Block) : Prop where
  queue  : t.queue = (b.committed e noted).queue
  list   : t.commitments = b.commitments ++ [e.commitment b.active.plan]
  others : ∀ j, j ≠ e.car → t.car j = b.car j
  grant  : ∀ n, (b.car e.car).bound = some n → b.cport.roomOwn = true → ∃ l, t.cport.tx = b.cport.tx ++
    ownItem (b.ownFrame (byteOf n) .startGrant [byteOf (carNo e.car), e.tag, byteOf b.active.plan.tGrant]) :: l

/-- The queue of a grant has the entries of the other cars. -/
theorem Block.queueCars_committed (b : Block) (e : Entry) (noted : List CarIx) :
    queueCars (b.committed e noted).queue = (queueCars b.queue).filter fun j => j ≠ e.car := by
  have hcar : ∀ x : Entry, (if noted.contains x.car then x.bump b.active.plan.skipLimit else x).car = x.car := fun x => by
    split <;> rfl
  simp only [Block.committed, queueCars, List.map_map, List.filter_map, Function.comp_def, hcar]

theorem Block.grantEntry_grants (b : Block) (e : Entry) (noted : List CarIx) : b.Grants e noted (b.grantEntry e noted) := by
  have hs := (b.committed e noted).sendGrant_only e.car e.tag b.active.plan.tGrant
  have hnone : ((b.committed e noted).sendGrant e.car e.tag b.active.plan.tGrant).entry? e.car = none := by
    rw [Block.entry?_eq_none, hs.sameQueue, b.queueCars_committed]
    simp
  have hk := ((b.committed e noted).sendGrant e.car e.tag b.active.plan.tGrant).takeGrant_keeps e.car e.kind
  rw [b.grantEntry_committed]
  refine ⟨(Block.queue_takeGrant _ hnone).trans hs.sameQueue, hk.commitments.trans hs.commitments,
    fun j hj => (Block.takeGrant_others _ _ _ hj).trans (hs.car_eq j), fun n hn hr => ?_⟩
  refine hk.cport.behind (p := b.cport) ?_
  have hbound : ((b.committed e noted).car e.car).bound = some n := hn
  unfold Block.sendGrant Block.boundNode
  rw [hbound]
  exact congrArg Port.tx ((Block.cport_sendCarOrLose (b.committed e noted) _ _ _).trans (if_pos hr))

/-! ### The pass behind a removal -/

theorem Block.passAllowed_iff (b : Block) : b.passAllowed = true ↔ b.slotHolder = none ∧ b.settleTimer = none ∧
    (b.plan = .recall ∨ b.plan = .service ∨ b.plan = .mainsReturn) ∧ b.cport.roomOwn = true := by
  simp [Block.passAllowed, and_assoc, or_assoc]

theorem Block.roomBehind_iff {b c : Block} (h : c.cport.up = b.cport.up) : b.roomBehind c.cport.tx ↔ c.cport.roomOwn = true := by
  rw [Block.roomBehind, Port.roomOwn_iff, h, Nat.lt_iff_add_one_le]
  rfl

/-- What decides a pass is the same in two blocks (R82, R84). -/
structure Block.SamePass (b c : Block) : Prop where
  plan        : c.plan = b.plan
  active      : c.active = b.active
  fallback    : c.fallback = b.fallback
  aEff        : c.aEff = b.aEff
  settleTimer : c.settleTimer = b.settleTimer
  commitments : c.commitments = b.commitments
  queue       : c.queue = b.queue
  up          : c.cport.up = b.cport.up
  silent      : ∀ j, (c.car j).learned.silent = (b.car j).learned.silent
  bound       : ∀ j, (c.car j).bound = (b.car j).bound

theorem Block.SamePass.slotHolder {b c : Block} (h : b.SamePass c) : c.slotHolder = b.slotHolder := by
  rw [Block.slotHolder, h.commitments, Block.slotHolder]

theorem Block.SamePass.headFits {b c : Block} (h : b.SamePass c) {e : Entry} {rest : List Entry} (hf : b.HeadFits e rest) :
    c.HeadFits e rest where
  queue := h.queue.trans hf.queue
  plan := h.plan ▸ hf.plan
  slot := h.slotHolder.trans hf.slot
  heard := (h.silent e.car).trans hf.heard
  fits := by
    rw [← hf.fits]
    unfold Block.verdict Block.sumUpper Block.sumLower
    rw [h.fallback, h.commitments, h.active, h.aEff]

/-- A pass that is not allowed leaves everything (R82). -/
theorem Block.takeTrigger_barred {b : Block} (h : b.passAllowed = false) : ∃ x, b.takeTrigger = { b with arbDue := x } := by
  unfold Block.takeTrigger
  rw [h]
  split
  · exact ⟨false, rfl⟩
  · exact ⟨_, rfl⟩

/-- Where the head fits, the trigger grants it (R84, R85). -/
theorem Block.takeTrigger_head {b : Block} {e : Entry} {rest : List Entry} (hd : b.arbDue = true) (hf : b.HeadFits e rest)
    (hs : b.settleTimer = none) (hr : b.cport.roomOwn = true) : b.takeTrigger = { b.grantEntry e [] with arbDue := false } := by
  have hallowed : b.passAllowed = true :=
    b.passAllowed_iff.mpr ⟨hf.slot, hs, hf.plan.elim .inl fun h => .inr (.inl h), hr⟩
  rw [Block.takeTrigger, if_pos hd, if_pos hallowed, Block.pass_head hf]

/-- The queue behind a grant of its head, with one entry for a car. -/
theorem Block.queue_committed_head {b : Block} {e : Entry} {rest : List Entry} (hq : b.queue = e :: rest)
    (hn : (queueCars b.queue).Nodup) : (b.committed e []).queue = rest := by
  rw [hq] at hn
  have hrest : ∀ x ∈ rest, x.car ≠ e.car := fun x hx he =>
    (List.nodup_cons.mp hn).1 (List.mem_map.mpr ⟨x, hx, he⟩)
  simp only [Block.committed, hq, List.filter_cons, ne_eq, not_true_eq_false, decide_false, Bool.false_eq_true, if_false,
    List.contains_nil, List.map_id']
  exact List.filter_eq_self.mpr fun x hx => by simpa using hrest x hx

/-- The commitment of a grant holds the slot where it was free (R57). -/
theorem slotHolder_append {b t : Block} {c : Commitment} (hl : t.commitments = b.commitments ++ [c]) (hb : b.slotHolder = none)
    (hc : c.holdsSlot = true) : t.slotHolder = some c.car := by
  have hnone : b.commitments.find? (fun c => c.holdsSlot) = none := by simpa [Block.slotHolder] using hb
  rw [Block.slotHolder, hl, List.find?_append, hnone]
  simp [hc]

/-- A removal is a trigger, and the step goes on with no more than its pass (R78, R83). -/
theorem Block.SamePass.thenPass {b c : Block} {i : CarIx} (h : b.SamePass c) (hcar : ∀ j, j ≠ i → c.car j = b.car j)
    (hdue : c.arbDue = true) (heval : c.evalDue = false) : b.ThenPass i c.cport.tx c.finish := by
  have he : c.takeEvaluation = c := if_neg (by rw [heval]; decide)
  have hres := Block.resendAll c.takeTrigger
  have hgrant := fun j => c.finish_grantOnly j
  rw [he] at hgrant
  have hsettle : c.finish.settleTimer = c.settleTimer := c.finish_keeps.settleTimer
  have hfin : c.finish = allCars.foldl Block.syncResend c.takeTrigger := by rw [Block.finish, he]
  have hmoved : ∀ j, j ≠ i → heldOrGranted (b.car j).state (c.finish.car j).state := fun j hj => by
    rw [← hcar j hj]
    exact (hgrant j).state
  have hsame : ∀ {x : Bool}, c.takeTrigger = { c with arbDue := x } →
      c.finish.queue = b.queue ∧ c.finish.commitments = b.commitments ∧ c.finish.cport.tx = c.cport.tx := fun hx => by
    rw [hfin, hres.queue, hres.keeps.commitments, hres.cport, hx]
    exact ⟨h.queue, h.commitments, rfl⟩
  have hstill : b.noPass c.cport.tx → c.finish.queue = b.queue ∧ c.finish.commitments = b.commitments ∧
      c.finish.cport.tx = c.cport.tx := fun hno => by
    have hbarred : c.passAllowed = false := by
      rw [← Bool.not_eq_true, c.passAllowed_iff, h.slotHolder, h.settleTimer, h.plan, ← Block.roomBehind_iff h.up]
      rintro ⟨h1, h2, h3, h4⟩
      rcases hno with hp | hp | hp | hp
      · exact h3.elim hp.1 (·.elim hp.2.1 hp.2.2)
      · exact hp h1
      · exact hp h2
      · exact hp h4
    obtain ⟨x, hx⟩ := Block.takeTrigger_barred hbarred
    exact hsame hx
  have hfits : ∀ e rest, b.HeadFits e rest → b.BudgetOk → b.settleTimer = none → b.roomBehind c.cport.tx →
      b.GrantsHead e rest c.cport.tx c.finish := fun e rest hf hok hset hroom => by
    have hx := Block.takeTrigger_head hdue (h.headFits hf) (h.settleTimer.trans hset) ((Block.roomBehind_iff h.up).mp hroom)
    have hg := c.grantEntry_grants e []
    have hlist : c.finish.commitments = b.commitments ++ [e.commitment b.active.plan] := by
      rw [hfin, hres.keeps.commitments, hx, ← h.active, ← h.commitments]
      exact hg.list
    refine ⟨?_, hlist, slotHolder_append hlist hf.slot rfl, fun n hn => ?_⟩
    · rw [hfin, hres.queue, hx]
      exact hg.queue.trans (Block.queue_committed_head (h.queue.trans hf.queue) (h.queue.symm ▸ hok.queueOnce))
    · have hsend := hg.grant n ((h.bound e.car).trans hn) ((Block.roomBehind_iff h.up).mp hroom)
      rw [Block.ownFrame, Block.own, h.active] at hsend
      rw [hfin, hres.cport, hx]
      exact hsend
  rcases c.takeTrigger_cases with ⟨x, hx⟩ | ⟨e, noted, hmem, hx⟩
  · obtain ⟨hq, hc, -⟩ := hsame hx
    refine ⟨by rw [hc], by rw [hc]; omega, fun j => ?_, hmoved, fun j hj _ => ?_, hsettle.trans h.settleTimer, hstill, hfits⟩
    · rw [hq, hc]
      simp [listCars]
    · have hm := hres.sameButMarks j
      rw [← hfin, hx] at hm
      rw [← hcar j hj]
      exact hm
  · have hg := c.grantEntry_grants e noted
    have hc : c.finish.commitments = b.commitments ++ [e.commitment c.active.plan] := by
      rw [hfin, hres.keeps.commitments, hx, ← h.commitments]
      exact hg.list
    have hq : queueCars c.finish.queue = (queueCars b.queue).filter fun j => j ≠ e.car := by
      rw [hfin, hres.queue, hx, ← h.queue, ← c.queueCars_committed e noted]
      exact congrArg queueCars hg.queue
    have hnew : listCars (c.finish.commitments.drop b.commitments.length) = [e.car] := by
      rw [hc, List.drop_left]; rfl
    have hin : e.car ∈ queueCars b.queue := h.queue ▸ List.mem_map_of_mem hmem
    refine ⟨⟨_, hc.symm⟩, by rw [hc]; simp, fun j => ?_, hmoved, fun j hj hjn => ?_, hsettle.trans h.settleTimer, hstill, hfits⟩
    · rw [hq, hnew, List.mem_filter, List.mem_singleton]
      by_cases hj : j = e.car <;> simp [hj, hin]
    · rw [hnew, List.mem_singleton] at hjn
      have hm := hres.sameButMarks j
      rw [← hfin, hx] at hm
      rw [← hcar j hj, ← hg.others j hjn]
      exact hm

/-- A step with neither trigger nor evaluation ends with the order-resend timers alone (R101). -/
theorem Block.finish_settled {b : Block} (h : b.Settled) : b.Resends b.finish ∧ b.finish.gport = b.gport := by
  have he : b.takeEvaluation = b := if_neg (by rw [h.2]; decide)
  have ht : b.takeTrigger = b := if_neg (by rw [h.1]; decide)
  have hfin : b.finish = allCars.foldl Block.syncResend b := by rw [Block.finish, he, ht]
  rw [hfin]
  exact ⟨b.resendAll, b.gport_resendAll⟩

/-- An evaluation leaves a car that is neither parked nor serving (R129). -/
theorem Block.takeEvaluation_other {b : Block} {i : CarIx} (hp : (b.car i).state.isParked = false)
    (hs : (b.car i).state ≠ .serving) : b.takeEvaluation.car i = b.car i := by
  unfold Block.takeEvaluation
  split
  · by_cases hplan : b.plan = .service
    · have h := Block.evaluate_car hplan i
      rw [Block.EvaluatedCar, hp, if_neg (by decide), if_neg hs] at h
      exact h
    · rw [Block.evaluate, if_neg hplan]
      rfl
  · rfl

/-- The end of a step leaves the state of a car that is neither parked, nor serving, nor RECALL_PENDING. -/
theorem Block.state_finish_other {b : Block} {i : CarIx} (hp : (b.car i).state.isParked = false) (hs : (b.car i).state ≠ .serving)
    (hr : (b.car i).state ≠ .recallPending) : (b.finish.car i).state = (b.car i).state := by
  have he := Block.takeEvaluation_other hp hs
  have hg := b.finish_grantOnly i
  rw [he] at hg
  exact hg.keepsState hr

end Sys2Proof.Machine
end

section
/-! How a car report is taken and checked (R25), and the binding conflict (R33, R34). -/

namespace Sys2Proof.Machine

/-! ### Taking the head of the C-port's FIFO -/

/-- Taking the head of the FIFO leaves the sending side of a port (R146). -/
theorem Port.takeHead_sending (p : Port) : p.takeHead.tx = p.tx ∧ p.takeHead.up = p.up ∧ p.takeHead.errors = p.errors := by
  unfold Port.takeHead
  split
  · exact ⟨rfl, rfl, rfl⟩
  · exact ⟨rfl, rfl, rfl⟩

@[simp] theorem Port.tx_takeHead (p : Port) : p.takeHead.tx = p.tx := p.takeHead_sending.1

@[simp] theorem Port.up_takeHead (p : Port) : p.takeHead.up = p.up := p.takeHead_sending.2.1

@[simp] theorem Port.roomOwn_takeHead (p : Port) : p.takeHead.roomOwn = p.roomOwn := by
  rw [Port.roomOwn, Port.ownCount, p.up_takeHead, p.tx_takeHead]; rfl

/-- The block with the head of the C-port's FIFO taken. -/
def State.carHeadTaken (s : State) : Block := { s.toBlock with cport := s.cport.takeHead }

/-- A car report at the head of the C-port's FIFO is taken (R25, R27). -/
theorem exec_carReport {s : State} {f : Frame} (h : s.Takes .c f .carReport) :
    exec .carReport s = .next { s with toBlock := s.carHeadTaken.onCarReport f } := by
  obtain ⟨hl, ⟨rest, hrx⟩, hroute⟩ := h
  have htake : s.toBlock.takeFrame .c (fun r => decide (r = .carReport)) Block.onCarReport = s.carHeadTaken.onCarReport f := by
    unfold Block.takeFrame
    rw [if_pos hl, hrx]
    dsimp only
    rw [hroute]
    rfl
  exact congrArg (fun b : Block => Host.Outcome.next { s with toBlock := b }) htake

/-! ### Checks 1 to 4 (R25) -/

@[simp] theorem carIx?_carNo (i : CarIx) : carIx? (byteOf (carNo i)).toNat = some i := by
  have := i.isLt
  rw [toNat_byteOf_carNo, carIx?, dif_pos ⟨by omega, by omega⟩]
  rfl

theorem carIx?_eq_none {n : Nat} (h : n = 0 ∨ 16 < n) : carIx? n = none := dif_neg (by omega)

/-- A report whose source is no car node is discarded (R25, check 1). -/
theorem Block.onCarReport_badSource {b : Block} {f : Frame} (h : f.src.toNat = 0 ∨ 61 < f.src.toNat) : b.onCarReport f = b :=
  if_pos (by omega)

/-- A report for a car number goes on to the car's own checks, or is a frame of the other row (R25, check 2). -/
theorem Block.onCarReport_eq {b : Block} {f : Frame} {car : Byte} {fields : List Byte} (h1 : 1 ≤ f.src.toNat) (h2 : f.src.toNat ≤ 61)
    (hp : f.payload = car :: fields) : b.onCarReport f =
      match carIx? car.toNat with
      | none => b.relayUnder .c f b.otherCell
      | some i =>
        if b.fallback = false ∧ (b.conf i).present = false then b.relayUnder .c f b.otherCell
        else b.reportForCar i f.src.toNat fields f := by
  unfold Block.onCarReport
  dsimp only
  rw [hp]
  exact if_neg (by omega)

/-- A report that passes checks 1 to 4 is judged by its binding (R25). -/
theorem State.onCarReport_hears {s : State} {i : CarIx} {dst src : Byte} {fields : List Byte} {f : Frame}
    (hf : f = { dst := dst, src := src, kind := 1, payload := byteOf (carNo i) :: fields }) (h : s.HearsReport i src) :
    s.carHeadTaken.onCarReport f = match (s.toBlock.car i).bound with
      | some n => if n = src.toNat then s.carHeadTaken.acceptReport i src.toNat fields f
        else (s.carHeadTaken.bindingConflict i src.toNat).finish
      | none => s.carHeadTaken.acceptReport i src.toNat fields f := by
  obtain ⟨h1, h2, hpres, hrelay⟩ := h
  subst hf
  have hpres' : ¬ (s.carHeadTaken.fallback = false ∧ (s.carHeadTaken.conf i).present = false) := by
    rintro ⟨hf, hp⟩
    rcases hpres with h | h
    · exact Bool.false_ne_true (hf.symm.trans h)
    · exact Bool.false_ne_true (hp.symm.trans h)
  rw [Block.onCarReport_eq h1 h2 rfl, carIx?_carNo]
  dsimp only
  rw [if_neg hpres']
  exact if_neg hrelay

/-- A frame of the other row that comes from the C-port (R135, R137). -/
theorem State.relayOther (s : State) (f : Frame) : s.carHeadTaken.relayUnder .c f s.carHeadTaken.otherCell =
    { s.toBlock with
      cport := s.cport.takeHead
      gport := if (if s.plan = .normal then s.active.plan.relay.otherNormal else s.active.plan.relay.otherEmergency) &&
          !s.toBlock.barred f.src.toNat then s.gport.offered f else s.gport } := by
  have hcell : s.carHeadTaken.otherCell =
      if s.plan = .normal then s.active.plan.relay.otherNormal else s.active.plan.relay.otherEmergency := by
    simp only [Block.otherCell, Block.normalColumn, decide_eq_true_eq]
    rfl
  have hbar : s.carHeadTaken.barredSource .c f = s.toBlock.barred f.src.toNat := rfl
  unfold Block.relayUnder
  rw [hcell, hbar]
  generalize (if s.plan = .normal then s.active.plan.relay.otherNormal else s.active.plan.relay.otherEmergency) = cell
  cases cell && !s.toBlock.barred f.src.toNat
  · rfl
  · exact Block.relayTo_eq_offered _ _ _

/-! ### A binding conflict (R33, R34) -/

/-- The record of a car that has heard a foreign node for the first time (R33). -/
def Car.accused (c : Car) (node : Nat) : Car :=
  { c with foreign := (c.addForeign node).foreign, learned := { c.learned with firstForeign := some node } }

theorem Car.mem_addForeign (c : Car) (node : Nat) : node ∈ (c.addForeign node).foreign := by
  unfold Car.addForeign
  split
  · rename_i h; simpa using h
  · simp

theorem Block.modCar_modCar (b : Block) (i : CarIx) (f g : Car → Car) :
    (b.modCar i f).modCar i g = b.modCar i fun c => g (f c) := by
  rw [Block.modCar, Block.car_modCar_same]
  simp [Block.modCar]

/-- The block of a first conflict once the entry is out of the queue, before the move (R33). -/
def Block.accuse (b : Block) (i : CarIx) (node : Nat) : Block := (b.modCar i fun c => c.accused node).removeInConflict i

theorem Block.bindingConflict_known {b : Block} {i : CarIx} (node : Nat) (h : (b.car i).state = .conflict) :
    b.bindingConflict i node = b.modCar i fun c => c.addForeign node := if_pos h

theorem Block.bindingConflict_first {b : Block} {i : CarIx} (node : Nat) (h : (b.car i).state ≠ .conflict) :
    b.bindingConflict i node = (b.accuse i node).move i .conflict := by
  have hacc : ∀ c : Car, ({ c.addForeign node with learned := { (c.addForeign node).learned with firstForeign := some node } } : Car) =
      c.accused node := fun c => by
    unfold Car.accused Car.addForeign
    split <;> rfl
  unfold Block.bindingConflict
  dsimp only
  rw [if_neg h, Block.modCar_modCar]
  simp only [hacc]
  rfl

/-- A conflict removes the car's entry, if it has one, and refuses it (R33, R99). -/
theorem Block.removeInConflict_eq (b : Block) (i : CarIx) : b.removeInConflict i =
    match b.entry? i with
    | none => b
    | some e => (b.withoutEntry i).trigger.refuseBound i e.tag .conflict := rfl

theorem Block.queue_withoutEntry_of_none {b : Block} {i : CarIx} (h : b.entry? i = none) : (b.withoutEntry i).queue = b.queue := by
  refine List.filter_eq_self.mpr fun e he => ?_
  have hne : e.car ≠ i := fun hi => Block.entry?_eq_none.mp h (List.mem_map.mpr ⟨e, he, hi⟩)
  simpa using hne

theorem Block.entry?_withoutEntry (b : Block) (i : CarIx) : (b.withoutEntry i).entry? i = none := by
  rw [Block.entry?_eq_none]
  simp [Block.withoutEntry, queueCars]

/-- What a conflict's removal keeps, with its entry out of the queue (R33). -/
structure Block.Accuses (b : Block) (i : CarIx) (node : Nat) (c : Block) : Prop where
  keeps : (b.modCar i fun c => c.accused node).KeepsBudget c
  queue : c.queue = (b.withoutEntry i).queue
  cars  : ∀ j, c.car j = if j = i then (b.car i).accused node else b.car j
  eval  : c.evalDue = b.evalDue
  quiet : b.entry? i = none → c = b.modCar i fun c => c.accused node

theorem Block.accuse_accuses (b : Block) (i : CarIx) (node : Nat) : b.Accuses i node (b.accuse i node) := by
  have hcar := fun j => b.car_modCar i j fun c => c.accused node
  have hentry : (b.modCar i fun c => c.accused node).entry? i = b.entry? i := rfl
  rw [Block.accuse, Block.removeInConflict_eq, hentry]
  cases he : b.entry? i with
  | none => exact ⟨.refl _, (Block.queue_withoutEntry_of_none he).symm, hcar, rfl, fun _ => rfl⟩
  | some e =>
    have ho := (((b.modCar i fun c => c.accused node).withoutEntry i).trigger).refuseBound_only i e.tag .conflict
    exact ⟨((b.modCar i fun c => c.accused node).removeEntry_keeps i).trans ho.toKeepsBudget, ho.sameQueue,
      fun j => (ho.car_eq j).trans (hcar j), ho.evalDue, fun h => absurd (he.symm.trans h) (by simp)⟩

/-- The refusal of a bound car's entry: on the C-port, and perhaps copied to the G-port (R99, R144). -/
theorem Block.accuse_refuses {b : Block} {i : CarIx} {node n : Nat} {e : Entry} (he : b.entry? i = some e)
    (hb : (b.car i).bound = some n) : ∃ c : Block, b.accuse i node = c.sendCarOrLose (byteOf n) .startRefusal
      [byteOf (carNo i), e.tag, 5] ∧ c.cport = b.cport ∧ c.gport = b.gport ∧ c.active = b.active ∧ c.arbDue = true := by
  have hentry : (b.modCar i fun c => c.accused node).entry? i = some e := he
  have hbound : (((b.modCar i fun c => c.accused node).withoutEntry i).trigger.car i).bound = some n := by
    exact (congrArg Car.bound (b.car_modCar_same i fun c => c.accused node)).trans hb
  refine ⟨((b.modCar i fun c => c.accused node).withoutEntry i).trigger, ?_, rfl, rfl, rfl, rfl⟩
  rw [Block.accuse, Block.removeInConflict_eq, hentry]
  dsimp only
  unfold Block.refuseBound Block.boundNode
  rw [hbound]
  rfl

end Sys2Proof.Machine
end

section
/-! The statement about reports that are not accepted. -/

namespace Sys2Proof.Machine

/-- What a binding conflict leaves before the step ends (R33, R34). -/
structure Block.Conflicts (b : Block) (i : CarIx) (node : Nat) (c : Block) : Prop where
  plan        : c.plan = b.plan
  active      : c.active = b.active
  mgmt        : c.mgmt = b.mgmt
  commitments : c.commitments = b.commitments
  others      : ∀ j, j ≠ i → c.car j = b.car j
  state       : (c.car i).state = .conflict
  bound       : (c.car i).bound = (b.car i).bound
  foreign     : node ∈ (c.car i).foreign
  learned     : (c.car i).learned = { (b.car i).learned with
    firstForeign := if (b.car i).state = .conflict then (b.car i).learned.firstForeign else some node }

/-- A first conflict moves the car behind the removal of its entry (R33, R106). -/
structure Block.FirstConflict (b : Block) (i : CarIx) (node : Nat) (c : Block) : Prop where
  keeps  : (b.accuse i node).KeepsBudget c
  queue  : c.queue = (b.withoutEntry i).queue
  others : ∀ j, j ≠ i → c.car j = b.car j
  state  : (c.car i).state = .conflict
  eval   : c.evalDue = (b.evalDue || b.plan.evaluates (b.car i).state .conflict)
  arb    : c.arbDue = (b.accuse i node).arbDue
  cport  : c.cport = (b.accuse i node).cport
  errors : (b.accuse i node).KeepsErrors c
  notice : (b.accuse i node).gport.roomOwn = true → ∃ l, c.gport.tx = (b.accuse i node).gport.tx ++
    ownItem (b.ownFrame 0 .planNotice [b.plan.code, byteOf (carNo i), RState.conflict.code, 0]) :: l

theorem Block.bindingConflict_firstConflict {b : Block} {i : CarIx} (node : Nat) (h : (b.car i).state ≠ .conflict) :
    b.FirstConflict i node (b.bindingConflict i node) := by
  have ha := b.accuse_accuses i node
  have hentry : (b.accuse i node).entry? i = none := (Block.entry?_congr ha.queue i).trans (b.entry?_withoutEntry i)
  have hcar : ((b.accuse i node).car i).state = (b.car i).state := by rw [ha.cars, if_pos rfl]; rfl
  have hplan : (b.accuse i node).plan = b.plan := ha.keeps.plan
  have hown : (b.accuse i node).own = b.own := congrArg (fun t : Table => byteOf t.plan.ownNode) ha.keeps.active
  rw [Block.bindingConflict_first node h]
  refine ⟨Block.move_keeps _ i _ _ _, (Block.queue_move _ _ hentry).trans ha.queue, fun j hj => ?_, Block.state_move .., ?_,
    Block.arbDue_move hentry _ _ _, Block.cport_move _ hentry (by decide), Block.move_keepErrors _ i _ _ _, fun hr => ?_⟩
  · rw [Block.car_move_other _ _ _ _ hj, ha.cars, if_neg hj]
  · rw [Block.evalDue_move, ha.eval, hcar, hplan]
    simp [h]
  · have hn := Block.gport_move (b := b.accuse i node) (i := i) (dest := .conflict) .none false (by rw [hcar]; exact h) hr
    rw [hplan, Block.ownFrame, hown] at hn
    exact hn

theorem Block.bindingConflict_conflicts (b : Block) (i : CarIx) (node : Nat) :
    b.Conflicts i node (b.bindingConflict i node) := by
  by_cases h : (b.car i).state = .conflict
  · rw [Block.bindingConflict_known node h]
    have hcar := b.car_modCar_same i fun c => c.addForeign node
    have hadd : ∀ c : Car, (c.addForeign node).learned = c.learned ∧ (c.addForeign node).bound = c.bound ∧
        (c.addForeign node).state = c.state := fun c => by
      unfold Car.addForeign
      split <;> exact ⟨rfl, rfl, rfl⟩
    obtain ⟨h1, h2, h3⟩ := hadd (b.car i)
    refine ⟨rfl, rfl, rfl, rfl, fun j hj => b.car_modCar_other _ hj, ?_, ?_, ?_, ?_⟩
    · rw [hcar, h3, h]
    · rw [hcar, h2]
    · rw [hcar]; exact Car.mem_addForeign _ node
    · rw [hcar, h1, if_pos h]
  · have ha := b.accuse_accuses i node
    have hf := Block.bindingConflict_firstConflict node h
    have hcar := ha.cars i
    rw [if_pos rfl] at hcar
    have hk := hf.keeps.known i
    rw [hcar] at hk
    refine ⟨hf.keeps.plan.trans ha.keeps.plan, hf.keeps.active.trans ha.keeps.active, hf.keeps.mgmt.trans ha.keeps.mgmt,
      hf.keeps.commitments.trans ha.keeps.commitments, hf.others, hf.state, hk.bound, ?_, ?_⟩
    · rw [hk.foreign]
      exact Car.mem_addForeign _ node
    · rw [hk.learned, if_neg h]
      rfl

/-- At a first conflict the refusal stands on the C-port, or its loss is recorded, and perhaps one copy of it on the G-port; with no
entry both ports are as they were (R33, R99, R144). -/
structure Block.RefusesConflict (b : Block) (i : CarIx) (c : Block) (n : Nat) : Prop where
  none  : b.entry? i = none → c.cport = b.cport ∧ c.gport = b.gport ∧ c.arbDue = b.arbDue
  entry : ∀ e, b.entry? i = some e → c.arbDue = true ∧
    c.cport.tx = (if b.cport.roomOwn then b.cport.tx ++
      [ownItem (b.ownFrame (byteOf n) .startRefusal [byteOf (carNo i), e.tag, 5])] else b.cport.tx) ∧
    (b.cport.roomOwn = false → c.cport.errors.noticeLost = true)
  copy  : ∃ l : List TxItem, l.length ≤ 1 ∧ (∀ x ∈ l, x.own = true) ∧ c.gport = { b.gport with tx := b.gport.tx ++ l }

theorem Block.accuse_refusesConflict {b : Block} {i : CarIx} {n : Nat} (node : Nat) (hb : (b.car i).bound = some n) :
    b.RefusesConflict i (b.accuse i node) n := by
  have hnone : b.entry? i = none → b.accuse i node = b.modCar i fun c => c.accused node :=
    (b.accuse_accuses i node).quiet
  refine ⟨fun h => ?_, fun e he => ?_, ?_⟩
  · rw [hnone h]
    exact ⟨rfl, rfl, rfl⟩
  · obtain ⟨c, hc, hcp, -, hact, harb⟩ := Block.accuse_refuses (node := node) he hb
    have hport := c.cport_sendCarOrLose (byteOf n) .startRefusal [byteOf (carNo i), e.tag, 5]
    rw [Block.ownFrame, Block.own, hact, hcp] at hport
    rw [hc, (c.sendCarOrLose_only _ _ _).arbDue, hport]
    refine ⟨harb, ?_, fun hr => ?_⟩
    · split
      · rfl
      · rfl
    · rw [hr]; rfl
  · cases he : b.entry? i with
    | none => exact ⟨[], by simp, by simp, by rw [hnone he]; simp⟩
    | some e =>
      obtain ⟨c, hc, -, hgp, -, -⟩ := Block.accuse_refuses (node := node) he hb
      obtain ⟨l, h1, h2, h3⟩ := c.gport_sendCarOrLose (byteOf n) .startRefusal [byteOf (carNo i), e.tag, 5]
      rw [hgp] at h3
      exact ⟨l, h1, h2, hc ▸ h3⟩

/-- A first conflict leaves what decides a pass as the removal of the entry does (R33, R82). -/
theorem Block.FirstConflict.samePass {b c : Block} {i : CarIx} {node : Nat} (hf : b.FirstConflict i node c) :
    (b.withoutEntry i).SamePass c := by
  have ha := b.accuse_accuses i node
  have hcar : ∀ j, ((b.accuse i node).car j).bound = (b.car j).bound ∧
      ((b.accuse i node).car j).learned.silent = (b.car j).learned.silent := fun j => by
    rw [ha.cars]
    split
    · rename_i hj
      rw [hj]
      exact ⟨rfl, rfl⟩
    · exact ⟨rfl, rfl⟩
  have hk := ha.keeps
  exact
    { plan := hf.keeps.plan.trans hk.plan
      active := hf.keeps.active.trans hk.active
      fallback := hf.keeps.fallback.trans hk.fallback
      aEff := hf.keeps.aEff.trans hk.aEff
      settleTimer := hf.keeps.settleTimer.trans hk.settleTimer
      commitments := hf.keeps.commitments.trans hk.commitments
      queue := hf.queue
      up := congrArg Port.up hf.cport |>.trans hk.cport.up
      silent := fun j => (congrArg Learned.silent (hf.keeps.known j).learned).trans (hcar j).2
      bound := fun j => (hf.keeps.known j).bound.trans (hcar j).1 }

/-- Outside SERVICE, or for a car that was not serving, a first conflict makes no evaluation due (R126). -/
theorem Block.FirstConflict.evalDue_false {b c : Block} {i : CarIx} {node : Nat} (hf : b.FirstConflict i node c)
    (hb : b.evalDue = false) (h : b.plan ≠ .service ∨ (b.car i).state ≠ .serving) : c.evalDue = false := by
  rw [hf.eval, hb]
  rcases h with h | h
  · simp [Plan.evaluates, h]
  · simp [Plan.evaluates, h, RState.isParked]

/-- But for the foreign set, a car that has heard one more foreign node is as it was. -/
theorem Car.SameButMarks.withForeign {c d : Car} {node : Nat} (h : (c.addForeign node).SameButMarks d) :
    c.SameButMarks { d with foreign := c.foreign } := by
  unfold Car.addForeign at h
  split at h
  · exact { h with foreign := rfl }
  · exact { h with foreign := rfl }

/-- A port with at most one own frame more behind its queue still has room where two places were free (R148). -/
theorem Port.roomOwn_behind {p q : Port} {l : List TxItem} (hq : q = { p with tx := p.tx ++ l }) (hl : l.length ≤ 1)
    (hu : p.up = true) (hn : p.ownCount + 2 ≤ 8) : q.roomOwn = true := by
  have hfilter := List.length_filter_le (fun x : TxItem => x.own) l
  have hcount : q.ownCount = p.ownCount + (l.filter fun x => x.own).length := by
    rw [hq]; simp [Port.ownCount, List.filter_append]
  rw [Port.roomOwn_iff, hcount]
  exact ⟨by rw [hq]; exact hu, by omega⟩

end Sys2Proof.Machine

open Sys2Proof Sys2Proof.Machine

/-- A report of a node that is not the bound one is a binding conflict (R25, check 5). -/
theorem exec_foreignReport {s : State} {i : CarIx} {n : Nat} {dst src landing between motion dir door load mode fault ack : Byte}
    (ht : s.Takes .c (reportFrame dst src i landing between motion dir door load mode fault ack) .carReport)
    (hh : s.HearsReport i src) (hb : (s.toBlock.car i).bound = some n) (hn : n ≠ src.toNat) :
    exec .carReport s = .next { s with toBlock := (s.carHeadTaken.bindingConflict i src.toNat).finish } := by
  have hjudge := State.onCarReport_hears (f := reportFrame dst src i landing between motion dir door load mode fault ack) rfl hh
  rw [hb] at hjudge
  rw [exec_carReport ht, hjudge]
  exact congrArg (fun b : Block => Host.Outcome.next { s with toBlock := b }) (if_neg hn)

/-- Settles O20: a foreign report's step is a `Block.FirstConflict` with its pass, or adds a node to the foreign set alone; checks 1
to 3 by `Block.onCarReport_eq`. -/
theorem foreignReportMakesConflict : Obligations.ForeignReportMakesConflict := by
  unfold Obligations.ForeignReportMakesConflict
  refine ⟨fun s i n dst src landing between motion dir door load mode fault ack ht hh hb hn => ?_,
    fun s dst src car fields ht => ⟨fun hsrc => ?_, fun h1 h2 hcar => ?_, fun i h1 h2 hcar hp hr => ?_⟩⟩
  · have hexec := exec_foreignReport ht hh hb hn
    have hc := s.carHeadTaken.bindingConflict_conflicts i src.toNat
    have hknownConflict : (s.toBlock.car i).state = .conflict → s.carHeadTaken.bindingConflict i src.toNat =
      s.carHeadTaken.modCar i fun c => c.addForeign src.toNat := Block.bindingConflict_known (b := s.carHeadTaken) src.toNat
    have hfirst : (s.toBlock.car i).state ≠ .conflict →
      s.carHeadTaken.FirstConflict i src.toNat (s.carHeadTaken.bindingConflict i src.toNat) :=
      Block.bindingConflict_firstConflict (b := s.carHeadTaken) src.toNat
    generalize s.carHeadTaken.bindingConflict i src.toNat = c at hexec hc hknownConflict hfirst
    have hfin := c.finish_keeps
    have hstate : (c.finish.car i).state = .conflict := by
      rw [Block.state_finish_other, hc.state] <;> rw [hc.state] <;> decide
    have hpre := c.finish_commitments
    have hsettled := Block.finish_settled (b := c)
    have herrors := c.finish_keepErrors
    have hthen : ∀ b : Block, b.SamePass c → (∀ j, j ≠ i → c.car j = b.car j) → c.arbDue = true → c.evalDue = false →
      b.ThenPass i c.cport.tx c.finish := fun b h => h.thenPass
    generalize c.finish = t at hexec hfin hstate hpre hsettled herrors hthen
    have hforeign : src.toNat ∈ (t.car i).foreign := (hfin.known i).foreign ▸ hc.foreign
    rw [hc.commitments] at hpre
    refine ⟨_, hexec, hstate, (hfin.known i).bound.trans (hc.bound.trans hb), hforeign,
      List.any_eq_true.mpr ⟨i, mem_allCars i, by simpa using hforeign⟩, (hfin.known i).learned.trans hc.learned,
      hpre, fun j hj => ?_, hfin.active.trans hc.active, hfin.mgmt.trans hc.mgmt, hfin.plan.trans hc.plan,
      fun hcon hset => ?_, fun hcon => ?_⟩
    · have := hfin.known j
      rw [hc.others j hj] at this
      exact this
    · rw [hknownConflict hcon] at hsettled
      obtain ⟨hres, hg⟩ := hsettled hset
      refine ⟨hres.queue, hres.keeps.commitments, (congrArg Port.tx hres.cport).trans s.cport.tx_takeHead, congrArg Port.tx hg,
        fun j => ?_⟩
      have hm := hres.sameButMarks j
      by_cases hj : j = i
      · subst hj
        rw [Block.car_modCar_same] at hm
        exact hm.withForeign
      · rw [Block.car_modCar_other _ _ hj] at hm
        exact { hm with foreign := rfl }
    · have hf := hfirst hcon
      have hr := Block.accuse_refusesConflict (b := s.carHeadTaken) (i := i) src.toNat hb
      have hroomC : s.carHeadTaken.cport.roomOwn = s.cport.roomOwn := s.cport.roomOwn_takeHead
      have htxC : s.carHeadTaken.cport.tx = s.cport.tx := s.cport.tx_takeHead
      have hnotice : ∀ {l}, (s.carHeadTaken.accuse i src.toNat).gport = { s.gport with tx := s.gport.tx ++ l } →
          (s.carHeadTaken.accuse i src.toNat).gport.roomOwn = true → ∃ m, t.gport.tx = s.gport.tx ++ l ++
            ownItem (s.toBlock.ownFrame 0 .planNotice [s.plan.code, byteOf (carNo i), RState.conflict.code, 0]) :: m :=
        fun {l} hl hroom => by
          obtain ⟨m, hm⟩ := hf.notice hroom
          obtain ⟨m', hm'⟩ := hfin.gport.grows
          exact ⟨m ++ m', by rw [hm', hm, hl]; simp; rfl⟩
      refine ⟨fun hi => ?_, ⟨fun he hroom => ?_, fun hup hn => ?_⟩, fun e he => ⟨fun hroom => ?_, fun hroom => ?_, fun hset hq => ?_⟩,
        fun hset he hq => ?_⟩
      · have := hfin.queue.1 i hi
        rw [hf.queue] at this
        exact Block.entry?_eq_none.mp (s.carHeadTaken.entry?_withoutEntry i) this
      · have hsame := (hr.none he).2.1
        simpa using hnotice (l := []) (by rw [hsame]; simp; rfl) (by rw [hsame]; exact hroom)
      · obtain ⟨l, hl, -, hl'⟩ := hr.copy
        obtain ⟨m, hm⟩ := hnotice hl' (Port.roomOwn_behind hl' hl hup hn)
        exact ⟨l, m, hl, hm⟩
      · have htx := (hr.entry e he).2.1
        rw [hroomC, if_pos hroom, htxC, ← hf.cport] at htx
        exact hfin.cport.behind htx
      · refine herrors .c .noticeLost (hf.errors .c .noticeLost ((hr.entry e he).2.2 (hroomC.trans hroom)))
      · obtain ⟨harb, htx, -⟩ := hr.entry e he
        rw [hroomC, htxC, ← hf.cport] at htx
        have hp := hf.samePass
        have h := hthen (s.toBlock.withoutEntry i) { hp with up := hp.up.trans s.cport.up_takeHead } hf.others
          (hf.arb.trans harb) (hf.evalDue_false hset.2 hq)
        rw [htx] at h
        exact h
      · obtain ⟨hcp, -, harb⟩ := hr.none he
        obtain ⟨hres, -⟩ := hsettled ⟨(hf.arb.trans harb).trans hset.1, hf.evalDue_false hset.2 hq⟩
        refine ⟨(hres.queue.trans hf.queue).trans (Block.queue_withoutEntry_of_none he),
          hres.keeps.commitments.trans hc.commitments, ?_, fun j hj => ?_⟩
        · rw [hres.cport, hf.cport, hcp, htxC]
        · have hm := hres.sameButMarks j
          rw [hf.others j hj] at hm
          exact hm
  · rw [exec_carReport ht, Block.onCarReport_badSource hsrc]
    rfl
  · have hother : s.carHeadTaken.onCarReport { dst := dst, src := src, kind := 1, payload := car :: fields } =
        s.carHeadTaken.relayUnder .c { dst := dst, src := src, kind := 1, payload := car :: fields } s.carHeadTaken.otherCell := by
      rw [Block.onCarReport_eq h1 h2 rfl]
      rcases hcar with h | h | ⟨i, rfl, hf, hp⟩
      · rw [carIx?_eq_none (.inl h)]
      · rw [carIx?_eq_none (.inr h)]
      · rw [carIx?_carNo]
        exact if_pos ⟨hf, hp⟩
    rw [exec_carReport ht, hother, s.relayOther]
  · have hdisabled : s.carHeadTaken.onCarReport { dst := dst, src := src, kind := 1, payload := car :: fields } = s.carHeadTaken := by
      rw [Block.onCarReport_eq h1 h2 rfl, hcar, carIx?_carNo]
      refine (if_neg ?_).trans (if_pos hr)
      rintro ⟨hf, hp'⟩
      rcases hp with h | h
      · exact Bool.false_ne_true (hf.symm.trans h)
      · exact Bool.false_ne_true (hp'.symm.trans h)
    rw [exec_carReport ht, hdisabled]
    rfl

end

section
/-! What a report's stage makes of its car's record (R106 to R118), said of the record alone: a view of a block is the car's record
but for its marks, with the mark of an evaluation that is due. Each operation of the stage has its counterpart on views. -/

namespace Sys2Proof.Machine

/-! ### Views -/

/-- A car's record, with the mark of an evaluation that is due. -/
structure View where
  car : Car
  due : Bool

/-- The block shows this view of a car, and since `b` has kept what moves keep; outside SERVICE no other car has changed. -/
structure Block.Shows (b : Block) (i : CarIx) (v : View) (c : Block) : Prop where
  keeps  : b.KeepsBudget c
  others : b.plan ≠ .service → ∀ j, j ≠ i → c.car j = b.car j
  car    : v.car.SameButMarks (c.car i)
  due    : c.evalDue = v.due

/-- The view of a car as a block has it. -/
def Block.view (b : Block) (i : CarIx) : View := { car := b.car i, due := b.evalDue }

theorem Block.shows_view (b : Block) (i : CarIx) : b.Shows i (b.view i) b := ⟨.refl b, fun _ _ _ => rfl, .refl _, rfl⟩

theorem Block.Shows.conf {b c : Block} {i : CarIx} {v : View} (h : b.Shows i v c) : c.conf i = b.conf i := by
  rw [Block.conf, h.keeps.active]; rfl

theorem Block.Shows.commitment? {b c : Block} {i : CarIx} {v : View} (h : b.Shows i v c) :
    c.commitment? i = b.commitment? i := by
  rw [Block.commitment?, h.keeps.commitments]; rfl

/-! ### The operations -/

/-- A change of the record that makes nothing due. -/
def View.modify (v : View) (f : Car → Car) : View := { v with car := f v.car }

/-- The record with the door timer set. -/
def Car.withTimer (c : Car) (t : Timer) : Car := { c with doorTimer := t }

/-- A move (R106). -/
def View.move (p : Plan) (v : View) (dest : RState) (r : Reason := .none) : View where
  car := v.car.moved dest r
  due := v.due || (decide (v.car.state ≠ dest) && p.evaluates v.car.state dest)

/-- A parking without alarm (R117). -/
def View.park (p : Plan) (v : View) : View := v.move p (parkState v.car.order)

/-- A landing (R117). -/
def Block.viewLand (b : Block) (v : View) : View :=
  if v.car.learned.door = .opened then (v.move b.plan .landed).park b.plan
  else (v.modify fun c => c.withTimer (some b.active.plan.tDoor)).move b.plan .landed

/-- The car is stopped at the landing of an order (R112). -/
def Learned.stoppedAtOrder (l : Learned) (o : Option CarOrder) : Bool :=
  match orderLanding o with
  | none => false
  | some p => l.stoppedAt p

/-- The car of a view passes the arrival check (R112). -/
def Block.viewArrives (b : Block) (i : CarIx) (c : Car) : Bool :=
  (decide (b.plan = .recall) || decide (b.plan = .service)) && decide (c.state = .recallPending) &&
    (b.commitment? i).isNone && c.learned.stoppedAtOrder c.order

/-- The arrival check (R112). -/
def Block.viewArrival (b : Block) (i : CarIx) (v : View) : View := if b.viewArrives i v.car then b.viewLand v else v

/-- A RECALL order, with its arrival check (R111). -/
def Block.viewRecall (b : Block) (i : CarIx) (v : View) : View :=
  b.viewArrival i ((v.modify fun c => { c with order := some (.recall (b.conf i).recallLanding) }).move b.plan .recallPending)

/-- The placing of a car (R107). -/
def Block.viewPlace (b : Block) (i : CarIx) (v : View) : View :=
  if b.plan.emergency = false then v.move b.plan .inGroup
  else if v.car.learned.mode.group ≠ .automatic then v.move b.plan v.car.learned.mode.group.state
  else if (b.conf i).cls = 0 then v.move b.plan .excluded
  else if b.plan = .recall ∨ b.plan = .service then b.viewRecall i v
  else v.move b.plan .standing

/-- A counted attempt (R116). -/
def Block.viewCount (b : Block) (v : View) : View :=
  if v.car.attempts + 1 < b.active.plan.attemptLimit then
    (v.modify fun c => { c with attempts := v.car.attempts + 1 }).move b.plan .recallPending
  else (v.modify fun c => { c with attempts := v.car.attempts + 1 }).move b.plan .failed
    (if v.car.faultSeen then .fault else .attempts)

/-- A fault code during a run (R114). -/
def View.noteFault (v : View) : View :=
  if (v.car.state = .recalling ∨ v.car.state = .diverting) ∧ v.car.learned.fault ≠ 0 then
    v.modify fun c => { c with faultSeen := true }
  else v

/-- The end of a run by a report of STOPPED (R115). -/
def Block.viewEnd (b : Block) (i : CarIx) (k : Commitment) (v : View) : View :=
  if v.car.state.unfailing then v
  else if k.unauthorized then
    (if v.car.state = .firefighter ∨ b.plan = .normal then v else v.move b.plan .failed .unauthorized)
  else if v.car.state = .recalling ∨ v.car.state = .diverting then
    (if k.reached v.car.learned then b.viewLand v else b.viewCount v)
  else if v.car.state = .recallPending then b.viewArrival i v
  else v

/-- What the Budget Unit's stage hands on (R27, R118). -/
def Block.viewResult (b : Block) (i : CarIx) (v : View) : BudgetResult → View
  | .quiet => v
  | .ended k => b.viewEnd i k v
  | .unauthorized =>
    if v.car.state = .landed ∨ v.car.state.isParked = true then v.modify fun c => c.withTimer none else v

/-- A door reported open (R117). -/
def Block.viewDoor (b : Block) (v : View) : View :=
  if v.car.state = .landed ∧ v.car.learned.door = .opened then v.park b.plan else v

/-- The stage up to the evaluation it causes (R27). -/
def Block.viewStage (b : Block) (i : CarIx) (res : BudgetResult) (v : View) : View :=
  b.viewArrival i (b.viewDoor (b.viewResult i (if v.car.state.unplaced then b.viewPlace i v else v).noteFault res))

/-- The mode comparison (R109). -/
def Block.viewCompare (b : Block) (i : CarIx) (was : ModeGroup) (v : View) : View :=
  if b.plan.emergency = false then v
  else
    match v.car.state with
    | .standing | .recallPending | .landed | .parked | .parkedAway | .serving | .excluded =>
      if v.car.learned.mode.group = .automatic then v else v.move b.plan v.car.learned.mode.group.state
    | .firefighter =>
      if v.car.learned.mode.group = .firefighter then v
      else if v.car.learned.mode.group = .automatic then b.viewPlace i v else v.move b.plan .heldOut
    | .heldOut =>
      if v.car.learned.mode.group = .held then v
      else if v.car.learned.mode.group = .automatic then b.viewPlace i v else v.move b.plan .firefighter
    | .failed =>
      if v.car.learned.mode.group = .automatic ∨ v.car.learned.mode.group = was then v
      else (v.modify fun c => { c with attempts := 0 }).move b.plan v.car.learned.mode.group.state
    | _ => v

/-! ### The operations on a block show those on its views -/

section
variable {b c : Block} {i : CarIx} {v : View}

theorem Block.Shows.move (h : b.Shows i v c) (dest : RState) (r : Reason) (send : Bool) :
    b.Shows i (v.move b.plan dest r) (c.move i dest r send) where
  keeps := h.keeps.trans (c.move_keeps i dest r send)
  others hp j hj := (c.car_move_other dest r send hj).trans (h.others hp j hj)
  car := (h.car.moved dest r).trans (c.move_touches i dest r send).this
  due := by rw [c.evalDue_move, h.due, h.car.state, h.keeps.plan]; rfl

theorem Block.Shows.modify (h : b.Shows i v c) (f : Car → Car) (hf : ∀ x y : Car, x.SameButMarks y → (f x).SameButMarks (f y))
    (hk : ∀ x : Car, x.SameKnown (f x)) : b.Shows i (v.modify f) (c.modCar i f) where
  keeps := h.keeps.trans (c.modCar_keeps i f (hk _))
  others hp j hj := (c.car_modCar_other f hj).trans (h.others hp j hj)
  car := by rw [c.car_modCar_same]; exact hf _ _ h.car
  due := h.due

theorem Block.Shows.setDoorTimer (h : b.Shows i v c) (t : Timer) :
    b.Shows i (v.modify fun d => d.withTimer t) (c.modCar i fun d => { d with doorTimer := t }) :=
  h.modify (fun d => d.withTimer t) (fun _ _ k => { k with doorTimer := rfl }) fun _ => ⟨rfl, rfl, rfl, rfl⟩

theorem Block.Shows.setOrder (h : b.Shows i v c) (o : Option CarOrder) :
    b.Shows i (v.modify fun d => { d with order := o }) (c.setOrder i o) :=
  h.modify (fun d => { d with order := o }) (fun _ _ k => { k with order := rfl }) fun _ => ⟨rfl, rfl, rfl, rfl⟩

theorem Block.Shows.setAttempts (h : b.Shows i v c) (n : Nat) :
    b.Shows i (v.modify fun d => { d with attempts := n }) (c.modCar i fun d => { d with attempts := n }) :=
  h.modify (fun d => { d with attempts := n }) (fun _ _ k => { k with attempts := rfl }) fun _ => ⟨rfl, rfl, rfl, rfl⟩

theorem Block.Shows.seeFault (h : b.Shows i v c) :
    b.Shows i (v.modify fun d => { d with faultSeen := true }) (c.modCar i fun d => { d with faultSeen := true }) :=
  h.modify (fun d => { d with faultSeen := true }) (fun _ _ k => { k with faultSeen := rfl }) fun _ => ⟨rfl, rfl, rfl, rfl⟩

theorem Block.Shows.sendOrder (h : b.Shows i v c) : b.Shows i v (c.sendOrder i) where
  keeps := h.keeps.trans (c.sendOrder_keeps i)
  others hp j hj := ((c.sendOrder_touches i).others j hj).trans (h.others hp j hj)
  car := h.car.trans (c.sendOrder_touches i).this
  due := (c.marks_sendOrder i).2.trans h.due

theorem Block.Shows.park (h : b.Shows i v c) : b.Shows i (v.park b.plan) (c.park i false) := by
  unfold Block.park View.park
  rw [← h.car.order]
  exact h.move _ _ _

theorem Block.Shows.land (h : b.Shows i v c) : b.Shows i (b.viewLand v) (c.land i) := by
  unfold Block.land Block.viewLand
  rw [h.car.learned, h.keeps.active]
  split
  · exact (h.move _ _ _).park
  · exact (h.setDoorTimer _).move _ _ _

theorem Block.Shows.arrives (h : b.Shows i v c) : c.arrives i = b.viewArrives i v.car := by
  unfold Block.arrives Block.viewArrives
  rw [h.keeps.plan, h.commitment?, h.car.state, h.car.order, h.car.learned]
  rfl

theorem Block.Shows.arrivalCheck (h : b.Shows i v c) : b.Shows i (b.viewArrival i v) (c.arrivalCheck i) := by
  unfold Block.arrivalCheck Block.viewArrival
  rw [h.arrives]
  split
  · exact h.land
  · exact h

theorem Block.Shows.orderRecall (h : b.Shows i v c) : b.Shows i (b.viewRecall i v) (c.orderRecall i) := by
  unfold Block.orderRecall Block.viewRecall
  rw [h.conf]
  exact ((h.setOrder _).move _ _ _).arrivalCheck

theorem Block.Shows.place (h : b.Shows i v c) : b.Shows i (b.viewPlace i v) (c.place i) := by
  unfold Block.place Block.viewPlace
  rw [h.keeps.plan, h.car.learned, h.conf]
  repeat' split
  · exact h.move _ _ _
  · exact h.move _ _ _
  · exact h.move _ _ _
  · exact h.orderRecall
  · exact h.move _ _ _

theorem Block.Shows.countAttempt (h : b.Shows i v c) : b.Shows i (b.viewCount v) (c.countAttempt i) := by
  have hmod := h.setAttempts (v.car.attempts + 1)
  unfold Block.countAttempt Block.viewCount Block.fail
  dsimp only
  rw [h.keeps.active, h.car.attempts, h.car.faultSeen]
  split
  · exact hmod.move _ _ _
  · exact hmod.move _ _ _

theorem Block.Shows.noteFault (h : b.Shows i v c) : b.Shows i v.noteFault (c.noteFault i) := by
  unfold Block.noteFault View.noteFault
  rw [h.car.state, h.car.learned]
  split
  · exact h.seeFault
  · exact h

theorem Block.Shows.afterRelease (h : b.Shows i v c) : b.Shows i (b.viewArrival i v) (c.afterRelease i) := by
  unfold Block.afterRelease
  split
  · exact h.sendOrder.arrivalCheck
  · exact h.arrivalCheck

theorem Block.Shows.takeEnd (h : b.Shows i v c) (k : Commitment) :
    b.Shows i (b.viewEnd i k v) (c.takeEnd i k .stopped) := by
  unfold Block.takeEnd Block.viewEnd Block.fail
  dsimp only
  rw [h.car.state, h.keeps.plan, h.car.learned]
  repeat' split
  · exact h
  · exact h
  · exact h.move _ _ _
  · exact h.land
  · exact h.countAttempt
  · exact h.afterRelease
  · exact h

theorem Block.Shows.takeResult (h : b.Shows i v c) (res : BudgetResult) :
    b.Shows i (b.viewResult i v res) (c.takeResult i res) := by
  cases res with
  | quiet => exact h
  | ended k => exact h.takeEnd k
  | unauthorized =>
    unfold Block.takeResult Block.viewResult Block.noteMotion
    dsimp only
    rw [h.car.state]
    split
    · exact h.setDoorTimer none
    · exact h

theorem Block.Shows.parkIfOpen (h : b.Shows i v c) : b.Shows i (b.viewDoor v) (c.parkIfOpen i) := by
  unfold Block.parkIfOpen Block.viewDoor
  rw [h.car.state, h.car.learned]
  split
  · exact h.park
  · exact h

theorem Block.Shows.modeComparison (h : b.Shows i v c) (was : ModeGroup) :
    b.Shows i (b.viewCompare i was v) (c.modeComparison i was) := by
  unfold Block.modeComparison Block.viewCompare
  dsimp only
  rw [h.keeps.plan, h.car.state, h.car.learned]
  split
  · exact h
  · have houtside : b.Shows i (if v.car.learned.mode.group = .automatic then v else v.move b.plan v.car.learned.mode.group.state)
        (if v.car.learned.mode.group = .automatic then c else c.move i v.car.learned.mode.group.state) := by
      split
      · exact h
      · exact h.move _ _ _
    cases v.car.state with
    | standing | recallPending | landed | parked | parkedAway | serving | excluded => exact houtside
    | firefighter =>
      dsimp only
      repeat' split
      · exact h
      · exact h.place
      · exact h.move _ _ _
    | heldOut =>
      dsimp only
      repeat' split
      · exact h
      · exact h.place
      · exact h.move _ _ _
    | failed =>
      dsimp only
      split
      · exact h
      · exact (h.setAttempts 0).move _ _ _
    | _ => exact h

end

/-- The Restoration Controller's stage up to the evaluation it causes (R27). -/
def Block.stageBefore (b : Block) (i : CarIx) (res : BudgetResult) : Block :=
  (((((if (b.car i).state.unplaced then b.place i else b).noteFault i).takeResult i res).parkIfOpen i).arrivalCheck i)

theorem Block.restoreStage_eq (b : Block) (i : CarIx) (res : BudgetResult) (was : ModeGroup) :
    b.restoreStage i res was = ((b.stageBefore i res).takeEvaluation).modeComparison i was := rfl

theorem Block.stageBefore_shows (b : Block) (i : CarIx) (res : BudgetResult) :
    b.Shows i (b.viewStage i res (b.view i)) (b.stageBefore i res) := by
  have hplaced : b.Shows i (if (b.car i).state.unplaced then b.viewPlace i (b.view i) else b.view i)
      (if (b.car i).state.unplaced then b.place i else b) := by
    split
    · exact (b.shows_view i).place
    · exact b.shows_view i
  exact ((hplaced.noteFault.takeResult res).parkIfOpen).arrivalCheck

end Sys2Proof.Machine
end

section
/-! What the operations of a report's stage make of a view: landing and arriving, placing, and the evaluation. -/

namespace Sys2Proof.Machine

/-! ### Records -/

theorem Car.moved_of_ne {c : Car} {dest : RState} (r : Reason) (h : c.state ≠ dest) : c.moved dest r = c.enter dest r := if_neg h

@[simp] theorem Car.learned_moved (c : Car) (dest : RState) (r : Reason) : (c.moved dest r).learned = c.learned := by
  unfold Car.moved
  split
  · rfl
  · rfl

@[simp] theorem Car.faultSeen_moved (c : Car) (dest : RState) (r : Reason) : (c.moved dest r).faultSeen = c.faultSeen := by
  unfold Car.moved
  split
  · rfl
  · rfl

/-- What neither a move nor a landing changes of a record. -/
structure Car.SameCount (c d : Car) : Prop where
  learned   : d.learned = c.learned
  attempts  : d.attempts = c.attempts
  faultSeen : d.faultSeen = c.faultSeen
  doorAlarm : d.doorAlarm = c.doorAlarm

theorem Car.SameCount.refl (c : Car) : c.SameCount c := ⟨rfl, rfl, rfl, rfl⟩

theorem Car.SameCount.trans {c d e : Car} (h : c.SameCount d) (k : d.SameCount e) : c.SameCount e :=
  ⟨k.learned.trans h.learned, k.attempts.trans h.attempts, k.faultSeen.trans h.faultSeen, k.doorAlarm.trans h.doorAlarm⟩

theorem Car.moved_sameCount (c : Car) (dest : RState) (r : Reason) : c.SameCount (c.moved dest r) :=
  ⟨c.learned_moved dest r, c.attempts_moved dest r, c.faultSeen_moved dest r, c.doorAlarm_moved dest r⟩

@[simp] theorem View.car_move (p : Plan) (v : View) (dest : RState) (r : Reason) : (v.move p dest r).car = v.car.moved dest r := rfl

theorem Plan.evaluates_service {p : Plan} {old dest : RState} (h : p.evaluates old dest = true) : p = .service := by
  simpa using (Bool.and_eq_true_iff.mp h).1

/-- A move makes an evaluation due in SERVICE alone (R126). -/
theorem View.due_move_service {p : Plan} {v : View} {dest : RState} {r : Reason} (h : v.due = true → p = .service)
    (hd : (v.move p dest r).due = true) : p = .service := by
  rcases Bool.or_eq_true_iff.mp hd with hd | hd
  · exact h hd
  · exact Plan.evaluates_service (Bool.and_eq_true_iff.mp hd).2

/-- From a state that is not serving, only a parking makes an evaluation due (R126). -/
theorem View.due_move {p : Plan} {v : View} {dest : RState} (r : Reason) (hs : v.car.state ≠ .serving) (hd : v.car.state ≠ dest) :
    (v.move p dest r).due = (v.due || (decide (p = .service) && dest.isParked)) := by
  simp [View.move, Plan.evaluates, hs, hd]

/-! ### Landing and arriving (R112, R117) -/

/-- A car has come to a state by landing there, or has stayed in it: the door timer starts in LANDED, a parking makes an evaluation
due. -/
structure Block.Comes (b : Block) (v : View) (st : RState) (w : View) : Prop where
  state : w.car.state = st
  count : v.car.SameCount w.car
  order : w.car.order = v.car.order
  timer : st = .landed → w.car.doorTimer = some b.active.plan.tDoor
  due   : w.due = (v.due || (decide (b.plan = .service) && st.isParked))

/-- The states from which a car lands. -/
def RState.onItsWay : RState → Bool
  | .recallPending => true
  | .recalling => true
  | .diverting => true
  | _ => false

theorem RState.onItsWay_of_isParked {st : RState} (h : st.isParked = true) : st.onItsWay = false := by
  cases st with
  | parked | parkedAway => rfl
  | _ => cases h

theorem Block.viewLand_comes (b : Block) {v : View} (h : v.car.state.onItsWay = true) :
    b.Comes v (landedState v.car.order v.car.learned.door) (b.viewLand v) := by
  have hne : ∀ st : RState, st.onItsWay = false → v.car.state ≠ st := fun st hst he => by
    rw [he, hst] at h
    cases h
  have hpark : ∀ o, parkState o ≠ .landed ∧ (parkState o).clearsOrder = false ∧ (parkState o).isParked = true := fun o => by
    rcases o with _ | (_ | _ | _) <;> exact ⟨nofun, rfl, rfl⟩
  unfold Block.viewLand View.park
  by_cases hd : v.car.learned.door = .opened
  · obtain ⟨hp, hc, hk⟩ := hpark v.car.order
    have horder : (v.move b.plan .landed).car.order = v.car.order :=
      (v.car.moved_sameOrder _ rfl).order
    rw [if_pos hd, horder, hd, ← parkState_eq_landedState]
    have hland : (v.move b.plan .landed).car.state = .landed := v.car.state_moved _ _
    refine ⟨Car.state_moved .., (v.car.moved_sameCount _ _).trans (Car.moved_sameCount _ _ _), ?_, fun h => absurd h hp, ?_⟩
    · exact (Car.moved_sameOrder _ _ hc).order.trans horder
    · rw [View.due_move _ (by rw [hland]; decide) (by rw [hland]; exact hp.symm), View.due_move _ (hne _ rfl) (hne _ rfl)]
      simp [RState.isParked]
  · have hst : landedState v.car.order v.car.learned.door = .landed := if_neg hd
    rw [if_neg hd, hst]
    have hl' := Car.moved_of_ne (c := (v.modify fun c => c.withTimer (some b.active.plan.tDoor)).car) .none
      (hne .landed rfl)
    refine ⟨Car.state_moved .., ?_, ?_, fun _ => ?_, ?_⟩
    · rw [View.car_move, hl']; exact ⟨rfl, rfl, rfl, rfl⟩
    · rw [View.car_move, hl']; rfl
    · rw [View.car_move, hl']; rfl
    · exact View.due_move (v := v.modify fun c => c.withTimer (some b.active.plan.tDoor)) _ (hne _ rfl) (hne _ rfl)

theorem Block.viewArrives_of_ne {b : Block} {i : CarIx} {c : Car} (h : c.state ≠ .recallPending) : b.viewArrives i c = false := by
  simp [Block.viewArrives, h]

theorem Block.viewArrival_of_ne {b : Block} {i : CarIx} {v : View} (h : v.car.state ≠ .recallPending) : b.viewArrival i v = v :=
  if_neg (by rw [Block.viewArrives_of_ne h]; decide)

theorem Block.viewDoor_of_shut {b : Block} {v : View} (h : v.car.state = .landed → v.car.learned.door ≠ .opened) :
    b.viewDoor v = v := if_neg fun ⟨hs, hd⟩ => h hs hd

/-- A RECALL_PENDING car arrives exactly when it is stopped at the landing of its order in RECALL or SERVICE, where a stopped car
holds no commitment (R112). -/
theorem Block.viewArrives_pending {b : Block} {i : CarIx} {c : Car} (hs : c.state = .recallPending)
    (ha : c.learned.motion = .stopped → b.commitment? i = none) : b.viewArrives i c = true ↔
      (b.plan = .recall ∨ b.plan = .service) ∧ c.learned.stoppedFor c.order = true := by
  have hstop : c.learned.stoppedAtOrder c.order = c.learned.stoppedFor c.order := by
    unfold Learned.stoppedAtOrder Learned.stoppedFor Learned.stoppedAt orderLanding
    rcases c.order with _ | (p | p | _)
    · simp
    · simp [Bool.and_right_comm, Bool.and_assoc, eq_comm]
    · simp [Bool.and_right_comm, Bool.and_assoc, eq_comm]
    · simp
  unfold Block.viewArrives
  rw [hstop, hs]
  by_cases hm : c.learned.motion = .stopped
  · simp [ha hm]
  · simp [Learned.stoppedFor, hm]

/-- The arrival check of a RECALL_PENDING car (R112, R117). -/
theorem Block.viewArrival_comes {b : Block} {i : CarIx} {v : View} (hs : v.car.state = .recallPending)
    (ha : v.car.learned.motion = .stopped → b.commitment? i = none) :
    b.Comes v (b.arrivedState .recallPending v.car.order v.car.learned) (b.viewArrival i v) := by
  have hiff := Block.viewArrives_pending hs ha
  unfold Block.viewArrival Block.arrivedState
  by_cases h : b.viewArrives i v.car = true
  · rw [if_pos h]
    dsimp only
    rw [if_pos (hiff.mp h)]
    exact b.viewLand_comes (by rw [hs]; rfl)
  · rw [if_neg h]
    dsimp only
    rw [if_neg fun hc => h (hiff.mpr hc)]
    exact ⟨hs, .refl _, rfl, nofun, by simp [RState.isParked]⟩

/-- A car that has landed by its door, or is still RECALL_PENDING after its arrival check, has nothing left to do there. -/
theorem landedState_landed {o : Option CarOrder} {d : Door} (h : landedState o d = .landed) : d ≠ .opened := by
  rintro rfl
  rcases o with _ | (_ | _ | _) <;> cases h

theorem landedState_cases (o : Option CarOrder) (d : Door) :
    landedState o d = .landed ∨ (landedState o d).isParked = true := by
  cases d
  · exact .inl rfl
  · exact .inl rfl
  · rcases o with _ | (_ | _ | _) <;> exact .inr rfl

end Sys2Proof.Machine
end

section
/-! What a run's end, the door and the arrival check make of a view (R112, R115 to R118). -/

namespace Sys2Proof.Machine

/-- What the first two stages of an accepted report, learning and the Budget Unit's, hand to the Restoration Controller's (R27). -/
structure Block.Offered (b : Block) (i : CarIx) (l : Learned) (res : BudgetResult) (c : Block) : Prop where
  plan    : c.plan = b.plan
  record  : c.active.plan = b.active.plan
  cls     : (c.conf i).cls = (b.conf i).cls
  landing : (c.conf i).recallLanding = (b.conf i).recallLanding
  manual  : c.manual = b.manual
  car     : ∃ n, c.car i = { b.car i with bound := n, learned := l }
  others  : ∀ j, j ≠ i → c.car j = b.car j
  alone   : l.motion = .stopped → c.commitment? i = none
  ended   : ∀ k, b.endedBy i l = some k → ∃ k' : Commitment, res = .ended k' ∧ k'.unauthorized = k.unauthorized ∧
    k'.reached l = k.atTarget l
  other   : b.endedBy i l = none → res =
    if b.plan.emergency = true ∧ l.motion ≠ .stopped ∧ b.commitment? i = none then .unauthorized else .quiet

/-- The end of a commitment fails a car in this state (R68, R115). -/
def Block.endFails (b : Block) (i : CarIx) (st : RState) (l : Learned) : Prop :=
  (∃ k, b.endedBy i l = some k ∧ k.unauthorized = true) ∧ st ≠ .failed ∧ st ≠ .conflict ∧ st ≠ .firefighter ∧ b.plan ≠ .normal

/-- A report counts an attempt of a car in this state (R115, R116). -/
def Block.shortOf (b : Block) (i : CarIx) (st : RState) (l : Learned) : Bool :=
  (decide (st = .recalling) || decide (st = .diverting)) &&
    (match b.endedBy i l with
     | none => false
     | some c => !c.unauthorized && !c.atTarget l)

/-- The reason of a car in this state that a report leaves FAILED (R116, R119). -/
def Block.failReason (b : Block) (i : CarIx) (w : Car) (l : Learned) : Reason :=
  if w.state = .failed then w.reason
  else if b.shortOf i w.state l then (if w.faultSeen then .fault else .attempts)
  else .unauthorized

/-- What the end of a run, the door and the arrival check of a report make of a view (R112, R115 to R118). -/
structure Block.Runs (b : Block) (i : CarIx) (l : Learned) (w x : View) : Prop where
  learned  : x.car.learned = l
  state    : x.car.state = b.arrivedState (b.endedState i w.car.state l) w.car.order l
  order    : x.car.state.holdsRecall = true ∨ x.car.state.isParked = true → x.car.order = w.car.order
  attempts : x.car.attempts = if b.shortOf i w.car.state l then w.car.attempts + 1 else w.car.attempts
  reason   : x.car.state = .failed → x.car.reason = b.failReason i w.car l
  fault    : x.car.faultSeen = w.car.faultSeen
  alarm    : x.car.doorAlarm = w.car.doorAlarm
  landed   : x.car.state = .landed → x.car.doorTimer =
    if w.car.state ≠ .landed then some b.active.plan.tDoor
    else if b.plan.emergency = true ∧ l.motion ≠ .stopped ∧ b.commitment? i = none then none
    else w.car.doorTimer
  left     : w.car.state = .landed → x.car.state ≠ .landed → x.car.doorTimer = none
  due      : x.due = (w.due || (decide (w.car.state ≠ x.car.state) && b.plan.evaluates w.car.state x.car.state))

theorem Block.endedState_fails {b : Block} {i : CarIx} {st : RState} {l : Learned} (h : b.endFails i st l) :
    b.endedState i st l = .failed := by
  obtain ⟨⟨k, hk, hu⟩, h1, h2, h3, h4⟩ := h
  simp [Block.endedState, hk, hu, h1, h2, h3, h4]

theorem Block.endedState_kept {b : Block} {i : CarIx} {st : RState} {l : Learned} (h : ¬ b.endFails i st l)
    (h1 : st ≠ .recalling) (h2 : st ≠ .diverting) : b.endedState i st l = st := by
  unfold Block.endedState
  split
  · rfl
  · rename_i k hk
    split
    · rename_i hu
      split
      · rfl
      · rename_i hn
        refine absurd ⟨⟨k, hk, hu⟩, ?_⟩ h
        simpa only [not_or] using hn
    · exact if_neg fun hs => hs.elim h1 h2

/-! ### The run, the door and the arrival check -/

/-- The stage behind the placing and the fault code: run, door, arrival (R27). -/
def Block.viewRun (b : Block) (i : CarIx) (res : BudgetResult) (w : View) : View :=
  b.viewArrival i (b.viewDoor (b.viewResult i w res))

theorem Block.viewStage_eq (b : Block) (i : CarIx) (res : BudgetResult) (v : View) : b.viewStage i res v =
    b.viewRun i res (if v.car.state.unplaced then b.viewPlace i v else v).noteFault := rfl

section
variable {b c : Block} {i : CarIx} {l : Learned} {res : BudgetResult} {w : View}

/-- A view that is neither RECALL_PENDING nor LANDED with its door open is done. -/
theorem Block.viewArrival_viewDoor {v : View} (h1 : v.car.state ≠ .recallPending)
    (h2 : v.car.state = .landed → v.car.learned.door ≠ .opened) : c.viewArrival i (c.viewDoor v) = v := by
  rw [Block.viewDoor_of_shut h2, Block.viewArrival_of_ne h1]

/-- What the Budget Unit hands on leaves a view alone whose run does not end, but for the door timer of unauthorized motion
(R118). -/
theorem Block.Offered.viewResult_none (h : b.Offered i l res c) (hn : b.endedBy i l = none) : c.viewResult i w res =
    if (b.plan.emergency = true ∧ l.motion ≠ .stopped ∧ b.commitment? i = none) ∧
      (w.car.state = .landed ∨ w.car.state.isParked = true) then w.modify fun d => d.withTimer none else w := by
  rw [h.other hn]
  by_cases hu : b.plan.emergency = true ∧ l.motion ≠ .stopped ∧ b.commitment? i = none
  · rw [if_pos hu]
    by_cases hs : w.car.state = .landed ∨ w.car.state.isParked = true
    · rw [if_pos ⟨hu, hs⟩]
      exact if_pos hs
    · rw [if_neg fun k => hs k.2]
      exact if_neg hs
  · rw [if_neg hu, if_neg fun k => hu k.1]
    rfl

/-- An unauthorized run that ends fails its car (R68). -/
theorem Block.Offered.viewRun_fails (h : b.Offered i l res c) (hf : b.endFails i w.car.state l) :
    c.viewRun i res w = w.move b.plan .failed .unauthorized := by
  obtain ⟨⟨k, hk, hu⟩, h1, h2, h3, h4⟩ := hf
  obtain ⟨k', rfl, hu', -⟩ := h.ended k hk
  have hunf : w.car.state.unfailing = false := by
    cases hs : w.car.state with
    | failed => exact absurd hs h1
    | conflict => exact absurd hs h2
    | _ => rfl
  have hend : c.viewResult i w (.ended k') = w.move b.plan .failed .unauthorized := by
    unfold Block.viewResult Block.viewEnd
    dsimp only
    rw [hunf, hu', hu, h.plan, if_neg (by decide), if_pos rfl, if_neg (by simp [h3, h4])]
  unfold Block.viewRun
  rw [hend]
  exact Block.viewArrival_viewDoor (by simp) (by simp)

theorem Block.Offered.runs_fails (h : b.Offered i l res c) (hl : w.car.learned = l) (hf : b.endFails i w.car.state l) :
    b.Runs i l w (c.viewRun i res w) := by
  have hend := Block.endedState_fails hf
  rw [h.viewRun_fails hf]
  obtain ⟨⟨k, hk, hu⟩, h1, -⟩ := hf
  have hm := Car.moved_of_ne .unauthorized h1
  have hshort : b.shortOf i w.car.state l = false := by simp [Block.shortOf, hk, hu]
  exact
    { learned := by simp [hl]
      state := by rw [hend]; simp [Block.arrivedState]
      order := by simp [RState.holdsRecall, RState.isParked]
      attempts := by simp [hshort]
      reason := fun _ => by rw [View.car_move, hm, Block.failReason, hshort, if_neg h1]; rfl
      fault := by simp
      alarm := by simp
      landed := by simp
      left := fun _ _ => by rw [View.car_move, hm]; rfl
      due := by simp [View.move] }

/-- The end of a run that fails nothing leaves a view alone that has no run of the recall under way (R115). -/
theorem Block.Offered.viewResult_ended (h : b.Offered i l res c) {k : Commitment} (hk : b.endedBy i l = some k)
    (hf : ¬ b.endFails i w.car.state l) (hw : w.car.state.onItsWay = false) : c.viewResult i w res = w := by
  obtain ⟨k', rfl, hu, -⟩ := h.ended k hk
  have hne : ∀ st : RState, st.onItsWay = true → w.car.state ≠ st := fun st hst he => by
    rw [he, hst] at hw
    cases hw
  unfold Block.viewResult Block.viewEnd
  dsimp only
  split
  · rfl
  · rename_i hunf
    split
    · rename_i hu'
      refine if_pos ?_
      by_contra hn
      rw [not_or, h.plan] at hn
      exact hf ⟨⟨k, hk, hu ▸ hu'⟩, fun he => hunf (by rw [he]; rfl), fun he => hunf (by rw [he]; rfl), hn⟩
    · rw [if_neg fun he => he.elim (hne _ rfl) (hne _ rfl), if_neg (hne _ rfl)]

/-- A car that neither is on its way nor LANDED keeps its state (R115, R118). -/
theorem Block.Offered.runs_still (h : b.Offered i l res c) (hl : w.car.learned = l) (hf : ¬ b.endFails i w.car.state l)
    (hw : w.car.state.onItsWay = false) (hs : w.car.state ≠ .landed) : b.Runs i l w (c.viewRun i res w) := by
  have hne : ∀ st : RState, st.onItsWay = true → w.car.state ≠ st := fun st hst he => by
    rw [he, hst] at hw
    cases hw
  have hend := Block.endedState_kept hf (hne _ rfl) (hne _ rfl)
  have hshort : b.shortOf i w.car.state l = false := by simp [Block.shortOf, hne .recalling rfl, hne .diverting rfl]
  have harr : b.arrivedState w.car.state w.car.order l = w.car.state := by
    unfold Block.arrivedState
    split
    · rename_i he; exact absurd he (hne _ rfl)
    · rename_i he; exact absurd he hs
    · rfl
  have hview : ∃ t, c.viewRun i res w = w.modify fun d => d.withTimer t := by
    have hsame : w = w.modify fun d => d.withTimer w.car.doorTimer := rfl
    have hres : ∃ t, c.viewResult i w res = w.modify fun d => d.withTimer t := by
      cases hk : b.endedBy i l with
      | some k => exact ⟨_, (h.viewResult_ended hk hf hw).trans hsame⟩
      | none =>
        rw [h.viewResult_none hk]
        split
        · exact ⟨none, rfl⟩
        · exact ⟨_, hsame⟩
    obtain ⟨t, ht⟩ := hres
    exact ⟨t, by rw [Block.viewRun, ht]; exact Block.viewArrival_viewDoor (hne _ rfl) fun k => absurd k hs⟩
  obtain ⟨t, ht⟩ := hview
  rw [ht]
  exact
    { learned := hl
      state := by rw [hend, harr]; rfl
      order := fun _ => rfl
      attempts := by rw [hshort]; rfl
      reason := fun hfail => (if_pos hfail).symm
      fault := rfl
      alarm := rfl
      landed := fun k => absurd k hs
      left := fun k => absurd k hs
      due := by simp [View.modify, Car.withTimer] }

/-- A LANDED car parks by its door, and its door timer stops while it moves without a commitment (R117, R118). -/
theorem Block.Offered.runs_landed (h : b.Offered i l res c) (hl : w.car.learned = l) (hf : ¬ b.endFails i w.car.state l)
    (hs : w.car.state = .landed) : b.Runs i l w (c.viewRun i res w) := by
  have hend : b.endedState i w.car.state l = .landed := by
    rw [Block.endedState_kept hf (by rw [hs]; decide) (by rw [hs]; decide), hs]
  have hshort : b.shortOf i w.car.state l = false := by simp [Block.shortOf, hs]
  have hstray : ∃ t, c.viewResult i w res = w.modify (fun d => d.withTimer t) ∧
      t = if b.plan.emergency = true ∧ l.motion ≠ .stopped ∧ b.commitment? i = none then none else w.car.doorTimer := by
    cases hk : b.endedBy i l with
    | some k =>
      have hm : l.motion = .stopped := by
        by_contra hm
        simp [Block.endedBy, hm] at hk
      exact ⟨w.car.doorTimer, h.viewResult_ended hk hf (by rw [hs]; rfl), by rw [if_neg fun k => k.2.1 hm]⟩
    | none =>
      rw [h.viewResult_none hk]
      by_cases hu : b.plan.emergency = true ∧ l.motion ≠ .stopped ∧ b.commitment? i = none
      · rw [if_pos ⟨hu, .inl hs⟩, if_pos hu]
        exact ⟨none, rfl, rfl⟩
      · rw [if_neg fun k => hu k.1, if_neg hu]
        exact ⟨_, rfl, rfl⟩
  obtain ⟨t, ht, htimer⟩ := hstray
  unfold Block.viewRun
  rw [ht]
  by_cases hd : l.door = .opened
  · have hstate : landedState w.car.order l.door = parkState w.car.order := by rw [hd, parkState_eq_landedState]
    have hpark : parkState w.car.order ≠ .landed ∧ parkState w.car.order ≠ .recallPending ∧
        (parkState w.car.order).clearsOrder = false ∧ parkState w.car.order ≠ .failed ∧ parkState w.car.order ≠ .serving := by
      rcases w.car.order with _ | (_ | _ | _) <;> exact ⟨nofun, nofun, rfl, nofun, nofun⟩
    obtain ⟨h1, h2, h3, h4, -⟩ := hpark
    have hview : c.viewDoor (w.modify fun d => d.withTimer t) =
        (w.modify fun d => d.withTimer t).move b.plan (parkState w.car.order) := by
      rw [Block.viewDoor, if_pos ⟨hs, hl ▸ hd⟩, h.plan]
      rfl
    have hm : (w.modify fun d => d.withTimer t).car.moved (parkState w.car.order) .none =
        (w.modify fun d => d.withTimer t).car.enter (parkState w.car.order) .none :=
      Car.moved_of_ne _ fun k => h1 (k.symm.trans hs)
    rw [hview, Block.viewArrival_of_ne (by rw [View.car_move, Car.state_moved]; exact h2)]
    exact
      { learned := hl ▸ Car.learned_moved _ _ _
        state := by rw [hend, View.car_move, Car.state_moved, ← hstate]; rfl
        order := fun _ => (Car.moved_sameOrder _ _ h3).order
        attempts := by rw [hshort]; exact Car.attempts_moved _ _ _
        reason := fun k => absurd ((Car.state_moved _ _ _).symm.trans k) h4
        fault := Car.faultSeen_moved _ _ _
        alarm := Car.doorAlarm_moved _ _ _
        landed := fun k => absurd ((Car.state_moved _ _ _).symm.trans k) h1
        left := fun _ _ => by rw [View.car_move, hm]; exact if_neg h1
        due := by
          rw [View.car_move, Car.state_moved]
          rfl }
  · have hstate : landedState w.car.order l.door = .landed := if_neg hd
    rw [Block.viewArrival_viewDoor (v := w.modify fun d => d.withTimer t) (fun k => by cases hs.symm.trans k) fun _ k => hd (hl ▸ k)]
    exact
      { learned := hl
        state := by rw [hend]; exact hs.trans hstate.symm
        order := fun _ => rfl
        attempts := by rw [hshort]; rfl
        reason := fun k => by cases hs.symm.trans k
        fault := rfl
        alarm := rfl
        landed := fun _ => by rw [if_neg (not_not.mpr hs)]; exact htimer
        left := fun _ k => absurd hs k
        due := by simp [View.modify, Car.withTimer] }

/-- A view whose car has landed has nothing left to do there, nor has one whose arrival check has been made (R112, R117). -/
theorem Block.viewLand_settled {v : View} (hv : v.car.state.onItsWay = true) :
    c.viewArrival i (c.viewDoor (c.viewLand v)) = c.viewLand v := by
  have hy := c.viewLand_comes hv
  refine Block.viewArrival_viewDoor ?_ fun hs => ?_
  · rw [hy.state]
    rcases landedState_cases v.car.order v.car.learned.door with h | h
    · rw [h]; decide
    · intro k; rw [k] at h; cases h
  · rw [hy.count.learned]
    exact landedState_landed (hy.state.symm.trans hs)

theorem Block.viewArrival_settled {v : View} (hv : v.car.state = .recallPending) :
    c.viewArrival i (c.viewDoor (c.viewArrival i v)) = c.viewArrival i v := by
  by_cases h : c.viewArrives i v.car = true
  · have ha : c.viewArrival i v = c.viewLand v := if_pos h
    rw [ha]
    exact Block.viewLand_settled (by rw [hv]; rfl)
  · have ha : c.viewArrival i v = v := if_neg h
    rw [ha, Block.viewDoor_of_shut (fun k => by cases hv.symm.trans k), ha]

/-- Two views that differ in the state and the attempts alone. -/
structure View.SameRun (w v : View) : Prop where
  learned   : v.car.learned = w.car.learned
  order     : v.car.order = w.car.order
  faultSeen : v.car.faultSeen = w.car.faultSeen
  doorAlarm : v.car.doorAlarm = w.car.doorAlarm
  due       : v.due = w.due

theorem Block.arrivedState_congr {b c : Block} (hp : c.plan = b.plan) (st : RState) (o : Option CarOrder) (l : Learned) :
    c.arrivedState st o l = b.arrivedState st o l := by
  unfold Block.arrivedState
  rw [hp]

/-- A landing, or an arrival check, makes of a car on its way what the statement says of its run (R112, R115). -/
theorem Block.Offered.runs_comes (h : b.Offered i l res c) (hl : w.car.learned = l) (hw : w.car.state.onItsWay = true) {v y : View}
    {st : RState} (hv : w.SameRun v) (hy : c.Comes v st y) (hst : st = b.arrivedState (b.endedState i w.car.state l) w.car.order l)
    (hn : v.car.attempts = if b.shortOf i w.car.state l then w.car.attempts + 1 else w.car.attempts)
    (hcases : st = .recallPending ∨ st = .landed ∨ st.isParked = true) : b.Runs i l w y := by
  have hne : ∀ r : RState, r.onItsWay = false → w.car.state ≠ r := fun r hr he => by
    rw [he, hr] at hw
    cases hw
  exact
    { learned := (hy.count.learned.trans hv.learned).trans hl
      state := hy.state.trans hst
      order := fun _ => hy.order.trans hv.order
      attempts := hy.count.attempts.trans hn
      reason := fun k => by
        rw [hy.state] at k
        rcases hcases with hc | hc | hc <;> rw [k] at hc <;> cases hc
      fault := hy.count.faultSeen.trans hv.faultSeen
      alarm := hy.count.doorAlarm.trans hv.doorAlarm
      landed := fun k => by rw [if_pos (hne _ rfl), hy.timer (hy.state.symm.trans k), h.record]
      left := fun k => absurd k (hne _ rfl)
      due := by
        rw [hy.due, hv.due, hy.state, h.plan, Plan.evaluates]
        cases hp : st.isParked with
        | false => simp [hne .serving rfl]
        | true =>
          have hst' : w.car.state ≠ st := hne _ (RState.onItsWay_of_isParked hp)
          simp [hne .serving rfl, hst'] }

/-- The states a car arrives in (R112, R117). -/
theorem Block.arrivedState_pending_cases (b : Block) (o : Option CarOrder) (l : Learned) :
    b.arrivedState .recallPending o l = .recallPending ∨ b.arrivedState .recallPending o l = .landed ∨
      (b.arrivedState .recallPending o l).isParked = true := by
  unfold Block.arrivedState
  dsimp only
  split
  · exact .inr (landedState_cases o l.door)
  · exact .inl rfl

/-- A RECALL_PENDING car makes its arrival check, behind the end of its run if that ended (R115). -/
theorem Block.Offered.runs_pending (h : b.Offered i l res c) (hl : w.car.learned = l) (hf : ¬ b.endFails i w.car.state l)
    (hs : w.car.state = .recallPending) : b.Runs i l w (c.viewRun i res w) := by
  have hend : b.endedState i w.car.state l = .recallPending := by
    rw [Block.endedState_kept hf (by rw [hs]; decide) (by rw [hs]; decide), hs]
  have hres : c.viewResult i w res = w ∨ c.viewResult i w res = c.viewArrival i w := by
    cases hk : b.endedBy i l with
    | none =>
      rw [h.viewResult_none hk, if_neg fun k => by simp [hs, RState.isParked] at k]
      exact .inl rfl
    | some k =>
      obtain ⟨k', rfl, hu, -⟩ := h.ended k hk
      unfold Block.viewResult Block.viewEnd
      dsimp only
      rw [hs, if_neg (by decide)]
      split
      · rename_i hu'
        refine .inl (if_pos (.inr ?_))
        by_contra hn
        rw [h.plan] at hn
        exact hf ⟨⟨k, hk, hu ▸ hu'⟩, by rw [hs]; exact ⟨nofun, nofun, nofun, hn⟩⟩
      · exact .inr rfl
  have hview : c.viewRun i res w = c.viewArrival i w := by
    unfold Block.viewRun
    rcases hres with hres | hres
    · rw [hres, Block.viewDoor_of_shut fun k => by cases hs.symm.trans k]
    · rw [hres, Block.viewArrival_settled hs]
  have hy := Block.viewArrival_comes (b := c) hs fun hm => h.alone (hl ▸ hm)
  rw [hview]
  refine h.runs_comes hl (by rw [hs]; rfl) ⟨rfl, rfl, rfl, rfl, rfl⟩ hy ?_ (by simp [Block.shortOf, hs]) ?_
  · rw [hend, Block.arrivedState_congr h.plan, hl]
  · exact c.arrivedState_pending_cases _ _

/-- The view of a car whose attempts have been counted up (R116). -/
def View.counted (w : View) : View := w.modify fun d => { d with attempts := w.car.attempts + 1 }

/-- A car below the attempt limit is RECALL_PENDING again, and may have arrived where its order sends it (R112, R116). -/
theorem Block.Offered.runs_counted (h : b.Offered i l res c) (hl : w.car.learned = l)
    (hs : w.car.state = .recalling ∨ w.car.state = .diverting) (hend : b.endedState i w.car.state l = .recallPending)
    (hshort : b.shortOf i w.car.state l = true) :
    b.Runs i l w (c.viewArrival i (c.viewDoor (w.counted.move c.plan .recallPending))) := by
  have hne : ∀ r : RState, r ≠ .recalling → r ≠ .diverting → w.car.state ≠ r := fun r h1 h2 he =>
    hs.elim (fun k => h1 (he.symm.trans k)) fun k => h2 (he.symm.trans k)
  have hstate : (w.counted.move c.plan .recallPending).car.state = .recallPending := Car.state_moved _ _ _
  have hlearned : (w.counted.move c.plan .recallPending).car.learned = l := (Car.learned_moved _ _ _).trans hl
  have horder : (w.counted.move c.plan .recallPending).car.order = w.car.order := (Car.moved_sameOrder _ _ rfl).order
  have hy := Block.viewArrival_comes (b := c) (i := i) hstate fun hm => h.alone (hlearned ▸ hm)
  rw [Block.viewDoor_of_shut fun k => by cases hstate.symm.trans k]
  have hw : w.car.state.onItsWay = true := by rcases hs with hs | hs <;> rw [hs] <;> rfl
  refine h.runs_comes hl hw ⟨Car.learned_moved _ _ _, horder, Car.faultSeen_moved _ _ _, Car.doorAlarm_moved _ _ _, ?_⟩ hy ?_
    ((Car.attempts_moved _ _ _).trans (by rw [hshort]; rfl)) (c.arrivedState_pending_cases _ _)
  · rw [View.due_move (v := w.counted) _ (hne .serving nofun nofun) (hne .recallPending nofun nofun)]
    simp [RState.isParked, View.counted, View.modify]
  · rw [hend, Block.arrivedState_congr h.plan, horder, hlearned]

/-- At the attempt limit the car fails, by its fault code if one was seen (R116). -/
theorem Block.Offered.runs_failed (h : b.Offered i l res c) (hl : w.car.learned = l)
    (hs : w.car.state = .recalling ∨ w.car.state = .diverting) (hend : b.endedState i w.car.state l = .failed)
    (hshort : b.shortOf i w.car.state l = true) :
    b.Runs i l w (c.viewArrival i (c.viewDoor
      (w.counted.move c.plan .failed (if w.car.faultSeen then .fault else .attempts)))) := by
  have hne : ∀ r : RState, r ≠ .recalling → r ≠ .diverting → w.car.state ≠ r := fun r h1 h2 he =>
    hs.elim (fun k => h1 (he.symm.trans k)) fun k => h2 (he.symm.trans k)
  generalize hr : (if w.car.faultSeen then Reason.fault else Reason.attempts) = r
  have hm : w.counted.car.moved .failed r = w.counted.car.enter .failed r := Car.moved_of_ne r (hne .failed nofun nofun)
  rw [Block.viewArrival_viewDoor (by simp) (by simp)]
  exact
    { learned := (Car.learned_moved _ _ _).trans hl
      state := by rw [hend]; exact Car.state_moved _ _ _
      order := by simp [RState.holdsRecall, RState.isParked]
      attempts := (Car.attempts_moved _ _ _).trans (by rw [hshort]; rfl)
      reason := fun _ => by
        rw [View.car_move, hm, Block.failReason, if_neg (hne .failed nofun nofun), hshort, hr]
        rfl
      fault := Car.faultSeen_moved _ _ _
      alarm := Car.doorAlarm_moved _ _ _
      landed := by simp
      left := fun k => absurd k (hne _ nofun nofun)
      due := by
        rw [View.car_move, Car.state_moved, h.plan]
        rfl }

/-- A recall or divert run under way goes on, ends at its target, or falls short of it (R115, R116). -/
theorem Block.Offered.runs_underWay (h : b.Offered i l res c) (hl : w.car.learned = l) (ha : w.car.attempts = (b.car i).attempts)
    (hf : ¬ b.endFails i w.car.state l) (hs : w.car.state = .recalling ∨ w.car.state = .diverting) :
    b.Runs i l w (c.viewRun i res w) := by
  have hw : w.car.state.onItsWay = true := by rcases hs with hs | hs <;> rw [hs] <;> rfl
  have hne : ∀ r : RState, r ≠ .recalling → r ≠ .diverting → w.car.state ≠ r := fun r h1 h2 he =>
    hs.elim (fun k => h1 (he.symm.trans k)) fun k => h2 (he.symm.trans k)
  have hunf : w.car.state.unfailing = false := by rcases hs with hs | hs <;> rw [hs] <;> rfl
  have harr : b.arrivedState w.car.state w.car.order l = w.car.state := by rcases hs with hs | hs <;> rw [hs] <;> rfl
  have hgoes : c.viewResult i w res = w → b.endedState i w.car.state l = w.car.state → b.shortOf i w.car.state l = false →
      b.Runs i l w (c.viewRun i res w) := fun hres hend hshort => by
    unfold Block.viewRun
    rw [hres, Block.viewArrival_viewDoor (hne _ nofun nofun) fun k => absurd k (hne _ nofun nofun)]
    exact
      { learned := hl
        state := by rw [hend, harr]
        order := fun _ => rfl
        attempts := by rw [hshort]; rfl
        reason := fun k => absurd k (hne _ nofun nofun)
        fault := rfl
        alarm := rfl
        landed := fun k => absurd k (hne _ nofun nofun)
        left := fun k => absurd k (hne _ nofun nofun)
        due := by simp }
  cases hk : b.endedBy i l with
  | none =>
    refine hgoes ?_ (by rw [Block.endedState, hk]) (by simp [Block.shortOf, hk])
    rw [h.viewResult_none hk, if_neg fun k => ?_]
    rcases hs with hs | hs <;> simp [hs, RState.isParked] at k
  | some k =>
    obtain ⟨k', hres, hu, hreach⟩ := h.ended k hk
    by_cases hun : k.unauthorized = true
    · have hnormal : b.plan = .normal := by
        by_contra hn
        exact hf ⟨⟨k, hk, hun⟩, hne _ nofun nofun, hne _ nofun nofun, hne _ nofun nofun, hn⟩
      refine hgoes ?_ (by simp [Block.endedState, hk, hun, hnormal]) (by simp [Block.shortOf, hk, hun])
      rw [hres, Block.viewResult, Block.viewEnd, hunf, if_neg (by decide), hu, if_pos hun, if_pos (.inr (h.plan.trans hnormal))]
    · have hview : c.viewResult i w res = if k.atTarget l then c.viewLand w else c.viewCount w := by
        rw [hres, Block.viewResult, Block.viewEnd, hunf, if_neg (by decide), hu, if_neg hun, if_pos hs, hl, hreach]
      have hend : b.endedState i w.car.state l = if k.atTarget l then .landed
          else if w.car.attempts + 1 < b.active.plan.attemptLimit then .recallPending else .failed := by
        rw [Block.endedState, hk, ha]
        dsimp only
        rw [if_neg hun, if_pos hs]
      have hshort : b.shortOf i w.car.state l = !k.atTarget l := by
        rcases hs with hs | hs <;> simp [Block.shortOf, hk, hs, hun]
      unfold Block.viewRun
      rw [hview]
      by_cases hat : k.atTarget l = true
      · rw [if_pos hat] at hend ⊢
        rw [Block.viewLand_settled hw]
        refine h.runs_comes hl hw ⟨rfl, rfl, rfl, rfl, rfl⟩ (c.viewLand_comes hw) ?_ (by simp [hshort, hat])
          (.inr (landedState_cases _ _))
        rw [hend, hl]
        rfl
      · rw [if_neg hat] at hend ⊢
        have hat' : k.atTarget l = false := by simpa using hat
        rw [hat', Bool.not_false] at hshort
        unfold Block.viewCount
        rw [h.record]
        by_cases hlim : w.car.attempts + 1 < b.active.plan.attemptLimit
        · rw [if_pos hlim] at hend ⊢
          exact h.runs_counted hl hs hend hshort
        · rw [if_neg hlim] at hend ⊢
          exact h.runs_failed hl hs hend hshort

/-- What the stage's run, door and arrival make of any view of the car (R112, R115 to R118). -/
theorem Block.Offered.viewRun_runs (h : b.Offered i l res c) (hl : w.car.learned = l) (ha : w.car.attempts = (b.car i).attempts) :
    b.Runs i l w (c.viewRun i res w) := by
  by_cases hf : b.endFails i w.car.state l
  · exact h.runs_fails hl hf
  · cases hs : w.car.state with
    | recalling => exact h.runs_underWay hl ha hf (.inl hs)
    | diverting => exact h.runs_underWay hl ha hf (.inr hs)
    | recallPending => exact h.runs_pending hl hf hs
    | landed => exact h.runs_landed hl hf hs
    | _ => exact h.runs_still hl hf (by rw [hs]; rfl) (by rw [hs]; decide)

end

end Sys2Proof.Machine
end

section
/-! What placing makes of a view (R107, R111), and what the stage of a report makes of its car before the evaluation (R27). -/

namespace Sys2Proof.Machine

/-- A car has been placed (R107), and with a RECALL order its arrival check has been made (R111, R112). -/
structure Block.Places (b : Block) (i : CarIx) (l : Learned) (w x : View) : Prop where
  state : x.car.state = b.arrivedState (b.placedState i l.mode) (some (.recall (b.conf i).recallLanding)) l
  order : x.car.state.holdsRecall = true ∨ x.car.state.isParked = true → b.placedState i l.mode = .recallPending ∧
    x.car.order = some (.recall (b.conf i).recallLanding)
  count : w.car.SameCount x.car
  timer : x.car.state = .landed → x.car.doorTimer = some b.active.plan.tDoor
  due   : x.due = (w.due || (decide (b.plan = .service) && x.car.state.isParked))

theorem Block.placedState_of_not_emergency {b : Block} (he : b.plan.emergency = false) (i : CarIx) (m : CarMode) :
    b.placedState i m = .inGroup := if_pos he

theorem Block.placedState_of_outside {b : Block} {m : CarMode} (he : b.plan.emergency = true) (hm : m.group ≠ .automatic) (i : CarIx) :
    b.placedState i m = m.group.state := by
  unfold Block.placedState
  rw [if_neg (by rw [he]; decide)]
  cases m with
  | automatic => exact absurd rfl hm
  | _ => rfl

theorem Block.placedState_of_automatic {b : Block} {m : CarMode} (he : b.plan.emergency = true) (hm : m.group = .automatic)
    (i : CarIx) : b.placedState i m = if (b.conf i).cls = 0 then .excluded
      else if b.plan = .recall ∨ b.plan = .service then .recallPending else .standing := by
  unfold Block.placedState
  rw [if_neg (by rw [he]; decide)]
  cases m with
  | automatic => rfl
  | _ => cases hm

/-- A car is placed in one of six states. -/
def RState.placing : RState → Bool
  | .inGroup | .firefighter | .heldOut | .excluded | .recallPending | .standing => true
  | _ => false

theorem Block.placedState_placing (b : Block) (i : CarIx) (m : CarMode) : (b.placedState i m).placing = true := by
  cases he : b.plan.emergency with
  | false => rw [Block.placedState_of_not_emergency he]; rfl
  | true =>
    by_cases hm : m.group = .automatic
    · rw [Block.placedState_of_automatic he hm]
      split
      · rfl
      · split <;> rfl
    · rw [Block.placedState_of_outside he hm]
      cases m with
      | firefighter => rfl
      | _ => rfl

/-- The branches of a placing, by the state it places a car in (R107). -/
theorem Block.placing_eq (b : Block) (i : CarIx) (m : CarMode) {α : Type} (f : RState → α) (g : α) :
    (if b.plan.emergency = false then f .inGroup
      else if m.group ≠ .automatic then f m.group.state
      else if (b.conf i).cls = 0 then f .excluded
      else if b.plan = .recall ∨ b.plan = .service then g
      else f .standing) = if b.placedState i m = .recallPending then g else f (b.placedState i m) := by
  cases he : b.plan.emergency with
  | false =>
    rw [Block.placedState_of_not_emergency he]
    rfl
  | true =>
    rw [if_neg (by decide)]
    by_cases hm : m.group = .automatic
    · rw [if_neg (not_not.mpr hm), Block.placedState_of_automatic he hm]
      by_cases hc : (b.conf i).cls = 0
      · rw [if_pos hc, if_pos hc, if_neg (by decide)]
      · rw [if_neg hc, if_neg hc]
        by_cases hp : b.plan = .recall ∨ b.plan = .service
        · rw [if_pos hp, if_pos hp, if_pos rfl]
        · rw [if_neg hp, if_neg hp, if_neg (by decide)]
    · rw [if_pos hm, Block.placedState_of_outside he hm, if_neg]
      cases m <;> decide

section
variable {b c : Block} {i : CarIx} {l : Learned} {res : BudgetResult} {w : View}

/-- A placing is a move, or a RECALL order (R107). -/
theorem Block.Offered.viewPlace_eq (h : b.Offered i l res c) (hl : w.car.learned = l) : c.viewPlace i w =
    if b.placedState i l.mode = .recallPending then c.viewRecall i w else w.move b.plan (b.placedState i l.mode) := by
  unfold Block.viewPlace
  rw [h.plan, h.cls, hl]
  exact b.placing_eq i l.mode (fun st => w.move b.plan st) (c.viewRecall i w)

/-- The RECALL order of a placing with its arrival check (R111). -/
theorem Block.Offered.viewRecall_places (h : b.Offered i l res c) (hl : w.car.learned = l) (hs : w.car.state ≠ .serving)
    (hp : b.placedState i l.mode = .recallPending) (hw : w.car.state ≠ .recallPending) : b.Places i l w (c.viewRecall i w) := by
  have hstate : ∀ v : View, (v.move c.plan .recallPending).car.state = .recallPending := fun v => Car.state_moved _ _ _
  unfold Block.viewRecall
  rw [h.landing]
  generalize hv : (w.modify fun d => { d with order := some (.recall (b.conf i).recallLanding) }) = v
  have hvs : v.car.state = w.car.state := by rw [← hv]; rfl
  have hvl : (v.move c.plan .recallPending).car.learned = l := (Car.learned_moved _ _ _).trans (by rw [← hv]; exact hl)
  have hvo : (v.move c.plan .recallPending).car.order = some (.recall (b.conf i).recallLanding) :=
    (Car.moved_sameOrder _ _ rfl).order.trans (by rw [← hv]; rfl)
  have hcount : w.car.SameCount v.car := by rw [← hv]; exact ⟨rfl, rfl, rfl, rfl⟩
  have hdue : (v.move c.plan .recallPending).due = w.due := by
    rw [View.due_move _ (by rw [hvs]; exact hs) (by rw [hvs]; exact hw), ← hv]
    simp [RState.isParked, View.modify]
  have hy := Block.viewArrival_comes (b := c) (i := i) (hstate v) fun hm => h.alone (hvl ▸ hm)
  rw [hvo, hvl, Block.arrivedState_congr h.plan] at hy
  exact
    { state := by rw [hp]; exact hy.state
      order := fun _ => ⟨hp, hy.order.trans hvo⟩
      count := (hcount.trans (Car.moved_sameCount _ _ _)).trans hy.count
      timer := fun k => by rw [hy.timer (hy.state.symm.trans k), h.record]
      due := by rw [hy.due, hdue, hy.state, h.plan] }

/-- The states from which a car is placed: not yet placed, or outside the group. -/
def RState.outside : RState → Bool
  | .vacant | .unheard | .firefighter | .heldOut => true
  | _ => false

theorem Block.Offered.viewPlace_places (h : b.Offered i l res c) (hl : w.car.learned = l) (hw : w.car.state.outside = true)
    (hn : w.car.state ≠ b.placedState i l.mode) : b.Places i l w (c.viewPlace i w) := by
  have hne : ∀ r : RState, r.outside = false → w.car.state ≠ r := fun r hr he => by
    rw [he, hr] at hw
    cases hw
  rw [h.viewPlace_eq hl]
  by_cases hp : b.placedState i l.mode = .recallPending
  · rw [if_pos hp]
    exact h.viewRecall_places hl (hne _ rfl) hp (hne _ rfl)
  · rw [if_neg hp]
    have hplace := b.placedState_placing i l.mode
    have hstate : (w.move b.plan (b.placedState i l.mode)).car.state = b.placedState i l.mode := Car.state_moved _ _ _
    have hdue := View.due_move (p := b.plan) (v := w) .none (hne .serving rfl) hn
    generalize hst : b.placedState i l.mode = st at hp hplace hstate hdue
    have hplain : b.arrivedState st (some (.recall (b.conf i).recallLanding)) l = st ∧ st.holdsRecall = false ∧
        st.isParked = false ∧ st ≠ .landed := by
      cases st with
      | recallPending => exact absurd rfl hp
      | inGroup | firefighter | heldOut | excluded | standing => exact ⟨rfl, rfl, rfl, nofun⟩
      | _ => cases hplace
    obtain ⟨harr, hholds, hparked, hland⟩ := hplain
    exact
      { state := by rw [hst, harr]; exact hstate
        order := fun k => by rw [hstate, hholds, hparked] at k; simp at k
        count := Car.moved_sameCount _ _ _
        timer := fun k => absurd (hstate.symm.trans k) hland
        due := by rw [hdue, hstate] }

/-! ### The stage before the evaluation -/

/-- What the stage of an accepted report makes of its car, up to the evaluation it causes (R27). -/
structure Block.Staged (b : Block) (i : CarIx) (l : Learned) (x : View) : Prop where
  learned  : x.car.learned = l
  state    : x.car.state = b.stagedState i l
  order    : x.car.state.holdsRecall = true ∨ x.car.state.isParked = true → x.car.order = b.reportedOrder i l
  attempts : x.car.attempts = if b.fallsShort i l then (b.car i).attempts + 1 else (b.car i).attempts
  reason   : x.car.state = .failed → x.car.reason =
    if (b.car i).state = .failed then (b.car i).reason
    else if b.fallsShort i l then (if (b.car i).faultSeen = true ∨ l.fault ≠ 0 then .fault else .attempts)
    else .unauthorized
  fault    : x.car.faultSeen = ((b.car i).faultSeen ||
    decide (((b.car i).state = .recalling ∨ (b.car i).state = .diverting) ∧ l.fault ≠ 0))
  alarm    : x.car.doorAlarm = (b.car i).doorAlarm
  landed   : x.car.state = .landed → x.car.doorTimer =
    if (b.car i).state ≠ .landed then some b.active.plan.tDoor
    else if b.plan.emergency = true ∧ l.motion ≠ .stopped ∧ b.commitment? i = none then none
    else (b.car i).doorTimer
  left     : (b.car i).state = .landed → x.car.state ≠ .landed → x.car.doorTimer = none
  cause    : x.due = true → b.plan = .service ∧ x.car.state ≠ .serving ∧ x.car.state ≠ (b.car i).state
  parks    : b.plan = .service → x.car.state.isParked = true → x.car.state ≠ (b.car i).state → x.due = true

theorem RState.firstHeard_eq_unplaced (st : RState) : st.firstHeard = st.unplaced := by cases st <;> rfl

/-- Only a first report, or one of a car outside the group, orders anew (R107, R109). -/
theorem Block.reportedOrder_kept {b : Block} {i : CarIx} {l : Learned} (h : (b.car i).state.outside = false) :
    b.reportedOrder i l = (b.car i).order := by
  unfold Block.reportedOrder Block.ordersAnew
  cases hs : (b.car i).state with
  | vacant | unheard | firefighter | heldOut => rw [hs] at h; cases h
  | _ => simp

theorem Block.reportedOrder_first {b : Block} {i : CarIx} {l : Learned} (h : (b.car i).state.firstHeard = true)
    (hp : b.placedState i l.mode = .recallPending) : b.reportedOrder i l = some (.recall (b.conf i).recallLanding) := by
  unfold Block.reportedOrder Block.ordersAnew
  cases hs : (b.car i).state with
  | vacant | unheard => simp [hp]
  | _ => rw [hs] at h; cases h

/-- A car that has landed is LANDED or parked. -/
theorem landedState_settled (o : Option CarOrder) (d : Door) : (landedState o d).onItsWay = false ∧
    landedState o d ≠ .failed ∧ landedState o d ≠ .conflict ∧ landedState o d ≠ .firefighter := by
  cases d
  · exact ⟨rfl, nofun, nofun, nofun⟩
  · exact ⟨rfl, nofun, nofun, nofun⟩
  · rcases o with _ | (_ | _ | _) <;> exact ⟨rfl, nofun, nofun, nofun⟩

theorem Block.arrivedState_landedState (b : Block) (o : Option CarOrder) (l : Learned) :
    b.arrivedState (landedState o l.door) o l = landedState o l.door := by
  unfold Block.arrivedState
  split
  · rename_i he
    have := (landedState_settled o l.door).1
    rw [he] at this
    cases this
  · rename_i he; exact he ▸ he
  · rfl

theorem Block.arrivedState_of_ne {b : Block} {st : RState} (h1 : st ≠ .recallPending) (h2 : st ≠ .landed) (o : Option CarOrder)
    (l : Learned) : b.arrivedState st o l = st := by
  unfold Block.arrivedState
  split
  · exact absurd rfl h1
  · exact absurd rfl h2
  · rfl

/-- An arrival check leaves a car RECALL_PENDING or lands it (R112). -/
theorem Block.arrivedState_pending (b : Block) (o : Option CarOrder) (l : Learned) :
    b.arrivedState .recallPending o l = .recallPending ∨ b.arrivedState .recallPending o l = landedState o l.door := by
  unfold Block.arrivedState
  dsimp only
  split
  · exact .inr rfl
  · exact .inl rfl

/-- The end of a run and the arrival check make the same of a placed car before and after the arrival check of its placing (R111,
R115). -/
theorem Block.arrivedState_endedState {b : Block} {i : CarIx} {st : RState} {o : Option CarOrder} {l : Learned}
    (h : st.placing = true) : b.arrivedState (b.endedState i (b.arrivedState st o l) l) o l =
      b.arrivedState (b.endedState i st l) o l := by
  by_cases hp : st = .recallPending
  · subst hp
    rcases b.arrivedState_pending o l with hc | hc
    · rw [hc]
    · obtain ⟨hway, h1, h2, h3⟩ := landedState_settled o l.door
      have hne : ∀ r : RState, r.onItsWay = true → landedState o l.door ≠ r := fun r hr he => by
        rw [he, hr] at hway
        cases hway
      rw [hc]
      by_cases hf : b.endFails i .recallPending l
      · have hf' : b.endFails i (landedState o l.door) l := by
          obtain ⟨hk, -, -, -, hn⟩ := hf
          exact ⟨hk, h1, h2, h3, hn⟩
        rw [Block.endedState_fails hf, Block.endedState_fails hf']
      · have hf' : ¬ b.endFails i (landedState o l.door) l := fun ⟨hk, _, _, _, hn⟩ => hf ⟨hk, nofun, nofun, nofun, hn⟩
        rw [Block.endedState_kept hf' (hne _ rfl) (hne _ rfl), Block.endedState_kept hf nofun nofun, hc,
          b.arrivedState_landedState]
  · have hl : st ≠ .landed := by rintro rfl; cases h
    rw [Block.arrivedState_of_ne hp hl]

/-- The car of a view has learned the report, and its fault code has been kept (R27, R114). -/
structure Block.Noted (b : Block) (i : CarIx) (l : Learned) (w : View) : Prop where
  learned  : w.car.learned = l
  state    : w.car.state = (b.car i).state
  order    : w.car.order = (b.car i).order
  attempts : w.car.attempts = (b.car i).attempts
  reason   : w.car.reason = (b.car i).reason
  timer    : w.car.doorTimer = (b.car i).doorTimer
  alarm    : w.car.doorAlarm = (b.car i).doorAlarm
  fault    : w.car.faultSeen = ((b.car i).faultSeen ||
    decide (((b.car i).state = .recalling ∨ (b.car i).state = .diverting) ∧ l.fault ≠ 0))
  due      : w.due = false

theorem Block.Offered.view_state (h : b.Offered i l res c) : (c.view i).car.state = (b.car i).state := by
  obtain ⟨n, hn⟩ := h.car
  exact (congrArg Car.state hn).trans rfl

theorem Block.Offered.view_noted (h : b.Offered i l res c) (hd : c.evalDue = false) : ∃ w, (c.view i).noteFault = w ∧ b.Noted i l w := by
  obtain ⟨n, hn⟩ := h.car
  refine ⟨_, rfl, ?_⟩
  unfold View.noteFault Block.view
  rw [hn, hd]
  by_cases hf : ((b.car i).state = .recalling ∨ (b.car i).state = .diverting) ∧ l.fault ≠ 0
  · rw [if_pos hf]
    exact ⟨rfl, rfl, rfl, rfl, rfl, rfl, rfl, by rw [decide_eq_true hf, Bool.or_true]; rfl, rfl⟩
  · rw [if_neg hf]
    exact ⟨rfl, rfl, rfl, rfl, rfl, rfl, rfl, by rw [decide_eq_false hf, Bool.or_false], rfl⟩

/-- The reason of a car that a report leaves FAILED (R116, R119). -/
theorem Block.Noted.failReason (hw : b.Noted i l w) : b.failReason i w.car l =
    if (b.car i).state = .failed then (b.car i).reason
    else if b.fallsShort i l then (if (b.car i).faultSeen = true ∨ l.fault ≠ 0 then .fault else .attempts)
    else .unauthorized := by
  have hshort : b.shortOf i (b.car i).state l = b.fallsShort i l := rfl
  rw [Block.failReason, hw.state, hw.reason, hw.fault, hshort]
  by_cases hf : b.fallsShort i l = true
  · have hs : (b.car i).state = .recalling ∨ (b.car i).state = .diverting := by
      simpa using (Bool.and_eq_true_iff.mp hf).1
    simp [hs]
  · rw [if_neg hf, if_neg hf]

/-- A car outside the group stays there, or fails (R68, R115). -/
theorem Block.endedState_outside (hs : (b.car i).state.firstHeard = false) (ho : (b.car i).state.outside = true) :
    (b.endedState i (b.car i).state l ≠ .recallPending ∧ b.endedState i (b.car i).state l ≠ .landed) ∧
      (b.endedState i (b.car i).state l).holdsRecall = false ∧ (b.endedState i (b.car i).state l).isParked = false := by
  by_cases hf : b.endFails i (b.car i).state l
  · rw [Block.endedState_fails hf]
    exact ⟨⟨nofun, nofun⟩, rfl, rfl⟩
  · rw [Block.endedState_kept hf (fun he => by rw [he] at ho; cases ho) fun he => by rw [he] at ho; cases ho]
    cases hst : (b.car i).state with
    | firefighter | heldOut => exact ⟨⟨nofun, nofun⟩, rfl, rfl⟩
    | vacant | unheard => rw [hst] at hs; cases hs
    | _ => rw [hst] at ho; cases ho

/-- The stage of a car that was placed before (R27). -/
theorem Block.Offered.staged_known (h : b.Offered i l res c) (hd : c.evalDue = false) (hs : (b.car i).state.firstHeard = false) :
    b.Staged i l (c.viewStage i res (c.view i)) := by
  obtain ⟨w, hw, hcar⟩ := h.view_noted hd
  have hun : (c.view i).car.state.unplaced = false := by
    rw [← RState.firstHeard_eq_unplaced, h.view_state]
    exact hs
  rw [Block.viewStage_eq, hun, if_neg (by decide), hw]
  have hr := h.viewRun_runs hcar.learned hcar.attempts
  have hstate := hr.state
  rw [hcar.state, hcar.order] at hstate
  have hdue := hr.due
  rw [hcar.due, hcar.state, Bool.false_or] at hdue
  obtain ⟨hstaged, horder⟩ : b.stagedState i l = b.arrivedState (b.endedState i (b.car i).state l) (b.car i).order l ∧
      ((b.stagedState i l).holdsRecall = true ∨ (b.stagedState i l).isParked = true → b.reportedOrder i l = (b.car i).order) := by
    have hst : b.stagedState i l = b.arrivedState (b.endedState i (b.car i).state l) (b.reportedOrder i l) l := by
      unfold Block.stagedState
      rw [hs]
      rfl
    by_cases hout : (b.car i).state.outside = true
    · obtain ⟨hend, h1, h2⟩ := Block.endedState_outside (i := i) (b := b) (l := l) hs hout
      rw [hst, Block.arrivedState_of_ne hend.1 hend.2, Block.arrivedState_of_ne hend.1 hend.2]
      exact ⟨rfl, fun k => by rw [h1, h2] at k; simp at k⟩
    · have hk := Block.reportedOrder_kept (l := l) (by simpa using hout)
      rw [hst, hk]
      exact ⟨rfl, fun _ => rfl⟩
  exact
    { learned := hr.learned
      state := hstate.trans hstaged.symm
      order := fun k => by
        rw [hr.order k, hcar.order, horder (by rw [hstaged, ← hstate]; exact k)]
      attempts := by rw [hr.attempts, hcar.state, hcar.attempts]; rfl
      reason := fun k => (hr.reason k).trans hcar.failReason
      fault := hr.fault.trans hcar.fault
      alarm := hr.alarm.trans hcar.alarm
      landed := fun k => by rw [hr.landed k, hcar.state, hcar.timer]
      left := fun k => hr.left (hcar.state.trans k)
      cause := fun k => by
        rw [hdue] at k
        simp only [Plan.evaluates, Bool.and_eq_true, Bool.or_eq_true, decide_eq_true_eq] at k
        obtain ⟨hne, hp, hk⟩ := k
        refine ⟨hp, ?_, hne.symm⟩
        rcases hk with hk | hk
        · exact fun he => hne (hk.trans he.symm)
        · intro he; rw [he] at hk; cases hk
      parks := fun hp hk hne => by
        rw [hdue]
        simp [Plan.evaluates, hp, hk, hne.symm] }

theorem RState.outside_of_firstHeard {st : RState} (h : st.firstHeard = true) : st.outside = true := by
  cases st with
  | vacant | unheard => rfl
  | _ => cases h

theorem Block.Offered.view_count (h : b.Offered i l res c) : (c.view i).car.learned = l ∧
    (c.view i).car.attempts = (b.car i).attempts ∧ (c.view i).car.faultSeen = (b.car i).faultSeen ∧
    (c.view i).car.doorAlarm = (b.car i).doorAlarm := by
  obtain ⟨n, hn⟩ := h.car
  unfold Block.view
  rw [hn]
  exact ⟨rfl, rfl, rfl, rfl⟩

/-- The states a placed car can come to in the stage of its first report: placed, landed, or failed (R107, R112, R115). -/
def RState.comesOfPlacing : RState → Bool
  | .landed | .parked | .parkedAway => true
  | st => st.placing

theorem RState.comesOfPlacing_of_firstHeard {st : RState} (h : st.firstHeard = true) : st.comesOfPlacing = false := by
  cases st with
  | vacant | unheard => rfl
  | _ => cases h

theorem Block.arrivedState_placed {st : RState} {o : Option CarOrder} (h : st.placing = true) :
    (b.arrivedState st o l).comesOfPlacing = true := by
  by_cases hp : st = .recallPending
  · subst hp
    rcases b.arrivedState_pending_cases o l with k | k | k
    · rw [k]; rfl
    · rw [k]; rfl
    · generalize b.arrivedState .recallPending o l = x at k
      cases x with
      | parked | parkedAway => rfl
      | _ => cases k
  · rw [Block.arrivedState_of_ne hp fun he => by rw [he] at h; cases h]
    cases st with
    | inGroup | firefighter | heldOut | excluded | recallPending | standing => rfl
    | _ => cases h

/-- Only a stopped car lands in its placing (R112). -/
theorem Block.stopped_of_placed_landed {st : RState} {o : Option CarOrder} (h : st.placing = true)
    (hs : b.arrivedState st o l = .landed) : l.motion = .stopped := by
  by_cases hp : st = .recallPending
  · subst hp
    unfold Block.arrivedState at hs
    dsimp only at hs
    split at hs
    · rename_i hc
      simpa using (Bool.and_eq_true_iff.mp (Bool.and_eq_true_iff.mp hc.2).1).2
    · cases hs
  · have hl : st ≠ .landed := by rintro rfl; cases h
    rw [Block.arrivedState_of_ne hp hl] at hs
    exact absurd hs hl

/-- The state and the order that the first report of a car brings it to, before the evaluation (R107, R112, R115). -/
theorem Block.stagedState_first {v x y : View} (hs : (b.car i).state.firstHeard = true) (hp : b.Places i l v y) (hr : b.Runs i l y x) :
    x.car.state = b.stagedState i l ∧
      (x.car.state.holdsRecall = true ∨ x.car.state.isParked = true → x.car.order = b.reportedOrder i l) ∧
      (x.car.state.comesOfPlacing = true ∨ x.car.state = .failed) := by
  have hplacing := b.placedState_placing i l.mode
  have hst : b.stagedState i l = b.arrivedState (b.endedState i (b.placedState i l.mode) l) (b.reportedOrder i l) l := by
    unfold Block.stagedState
    rw [hs]
    rfl
  have hrun := hr.state
  by_cases hrp : b.placedState i l.mode = .recallPending
  · have hy : y.car.state.holdsRecall = true ∨ y.car.state.isParked = true := by
      rw [hp.state, hrp]
      rcases b.arrivedState_pending_cases (some (.recall (b.conf i).recallLanding)) l with k | k | k
      · rw [k]; exact .inl rfl
      · rw [k]; exact .inl rfl
      · exact .inr k
    have horder := (hp.order hy).2
    have hfirst := Block.reportedOrder_first hs hrp
    rw [horder, hp.state, Block.arrivedState_endedState hplacing] at hrun
    rw [hst, hfirst, hrun]
    refine ⟨rfl, fun k => ?_, ?_⟩
    · rw [hr.order (hrun ▸ k), horder]
    · by_cases hf : b.endFails i (b.placedState i l.mode) l
      · rw [Block.endedState_fails hf]
        exact .inr rfl
      · rw [Block.endedState_kept hf (by rw [hrp]; decide) (by rw [hrp]; decide)]
        exact .inl (Block.arrivedState_placed hplacing)
  · have hland : b.placedState i l.mode ≠ .landed := fun he => by rw [he] at hplacing; cases hplacing
    have hend : b.endedState i (b.placedState i l.mode) l = .failed ∨
        b.endedState i (b.placedState i l.mode) l = b.placedState i l.mode := by
      by_cases hf : b.endFails i (b.placedState i l.mode) l
      · exact .inl (Block.endedState_fails hf)
      · exact .inr (Block.endedState_kept hf (fun he => by rw [he] at hplacing; cases hplacing)
          fun he => by rw [he] at hplacing; cases hplacing)
    rw [hp.state, Block.arrivedState_of_ne hrp hland] at hrun
    rw [hst, hrun]
    rcases hend with hend | hend
    · rw [hend]
      exact ⟨rfl, fun k => k.elim nofun nofun, .inr rfl⟩
    · rw [hend, Block.arrivedState_of_ne hrp hland, Block.arrivedState_of_ne hrp hland]
      refine ⟨rfl, fun k => ?_, .inl ?_⟩
      · generalize b.placedState i l.mode = st at hrp hplacing k
        cases st with
        | recallPending => exact absurd rfl hrp
        | inGroup | firefighter | heldOut | excluded | standing => exact k.elim nofun nofun
        | _ => cases hplacing
      · generalize b.placedState i l.mode = st at hplacing
        cases st with
        | inGroup | firefighter | heldOut | excluded | recallPending | standing => rfl
        | _ => cases hplacing

/-- The stage of a car first heard (R107). -/
theorem Block.Offered.staged_first (h : b.Offered i l res c) (hd : c.evalDue = false) (hs : (b.car i).state.firstHeard = true) :
    b.Staged i l (c.viewStage i res (c.view i)) := by
  obtain ⟨hl, ha, hfault, halarm⟩ := h.view_count
  have hun : (c.view i).car.state.unplaced = true := by
    rw [← RState.firstHeard_eq_unplaced, h.view_state]
    exact hs
  have hne : ∀ r : RState, r.firstHeard = false → (b.car i).state ≠ r := fun r hr he => by
    rw [he, hr] at hs
    cases hs
  have hplacing := b.placedState_placing i l.mode
  have hold : ∀ r : RState, r.placing = true → (b.car i).state ≠ r := fun r hr he => by
    rw [← he] at hr
    cases hst : (b.car i).state with
    | vacant | unheard => rw [hst] at hr; cases hr
    | _ => rw [hst] at hs; cases hs
  have hp := h.viewPlace_places hl (by rw [h.view_state]; exact RState.outside_of_firstHeard hs)
    (by rw [h.view_state]; exact hold _ hplacing)
  rw [Block.viewStage_eq, hun, if_pos rfl]
  generalize c.viewPlace i (c.view i) = y at hp
  have hplaced := Block.arrivedState_placed (b := b) (o := some (.recall (b.conf i).recallLanding)) (l := l) hplacing
  rw [← hp.state] at hplaced
  have hyne : ∀ r : RState, r.comesOfPlacing = false → y.car.state ≠ r := fun r hr he => by
    rw [he, hr] at hplaced
    cases hplaced
  have hnote : y.noteFault = y := if_neg fun k => k.1.elim (hyne _ rfl) (hyne _ rfl)
  rw [hnote]
  have hr := h.viewRun_runs (hp.count.learned.trans hl) (hp.count.attempts.trans ha)
  have hshort : b.shortOf i y.car.state l = false := by
    simp [Block.shortOf, hyne .recalling rfl, hyne .diverting rfl]
  have hfalls : b.fallsShort i l = false := by
    simp [Block.fallsShort, hne .recalling rfl, hne .diverting rfl]
  have hydue : y.due = (decide (b.plan = .service) && y.car.state.isParked) := by
    rw [hp.due, show (c.view i).due = false from hd, Bool.false_or]
  obtain ⟨hstate, horder, hcomes⟩ := Block.stagedState_first hs hp hr
  exact
    { learned := hr.learned
      state := hstate
      order := horder
      attempts := by rw [hr.attempts, hshort, hfalls, hp.count.attempts, ha]
      reason := fun k => by
        rw [hr.reason k, Block.failReason, hshort, hfalls, if_neg (hyne _ rfl), if_neg (hne _ rfl)]
        rfl
      fault := by
        rw [hr.fault, hp.count.faultSeen, hfault]
        simp [hne .recalling rfl, hne .diverting rfl]
      alarm := hr.alarm.trans (hp.count.doorAlarm.trans halarm)
      landed := fun k => by
        rw [hr.landed k, if_pos (hne .landed rfl)]
        by_cases hy : y.car.state = .landed
        · have hstop := Block.stopped_of_placed_landed hplacing (hp.state.symm.trans hy)
          rw [if_neg (not_not.mpr hy), if_neg fun k => k.2.1 hstop, hp.timer hy]
        · rw [if_pos hy]
      left := fun k => absurd k (hne _ rfl)
      cause := fun k => by
        refine ⟨?_, fun he => ?_, fun he => ?_⟩
        · rw [hr.due, hydue] at k
          rcases Bool.or_eq_true_iff.mp k with k | k
          · simpa using (Bool.and_eq_true_iff.mp k).1
          · exact Plan.evaluates_service (Bool.and_eq_true_iff.mp k).2
        · rw [he] at hcomes
          exact hcomes.elim nofun nofun
        · rw [he] at hcomes
          exact hcomes.elim (fun k => by rw [RState.comesOfPlacing_of_firstHeard hs] at k; cases k) (hne _ rfl)
      parks := fun hplan hpark _ => by
        rw [hr.due, hydue]
        by_cases hy : y.car.state = (c.viewRun i res y).car.state
        · simp [hplan, hy, hpark]
        · simp [Plan.evaluates, hplan, hpark, hy] }

/-- The stage of an accepted report, up to the evaluation it causes (R27). -/
theorem Block.Offered.staged (h : b.Offered i l res c) (hd : c.evalDue = false) :
    b.Staged i l (c.viewStage i res (c.view i)) := by
  cases hs : (b.car i).state.firstHeard with
  | false => exact h.staged_known hd hs
  | true => exact h.staged_first hd hs

end

end Sys2Proof.Machine
end

section
/-! The evaluation that a report's stage causes, its mode comparison, and the end of the step (R109, R126). -/

namespace Sys2Proof.Machine

/-! ### The evaluation (R126, R129) -/

/-- The record of a parked car that has been selected (R129). -/
def Car.served (c : Car) : Car := ({ c with selected := true, order := some .serve } : Car).moved .serving .none

/-- A view behind an evaluation, with the choice it makes of its car. -/
def View.evaluated (sel : Bool) (v : View) : View :=
  if v.due then { car := if v.car.state.isParked && sel then v.car.served else v.car, due := false } else v

@[simp] theorem View.due_evaluated (sel : Bool) (v : View) : (v.evaluated sel).due = false := by
  unfold View.evaluated
  split
  · rfl
  · simpa using ‹¬ v.due = true›

theorem Block.selectCar_served (b : Block) (i : CarIx) : (b.car i).served.SameButMarks ((b.selectCar i).car i) := by
  have h := (Block.move_touches (b.modCar i fun c => { c with selected := true, order := some .serve }) i .serving .none true).this
  rw [Block.car_modCar_same] at h
  exact h

theorem Block.evaluateCar_parked {b : Block} {i : CarIx} {set : List CarIx} (hs : (b.car i).state.isParked = true)
    (hc : set.contains i = true) : Block.evaluateCar set b i = b.selectCar i := by
  unfold Block.evaluateCar
  rw [if_pos hs, if_pos hc]

/-- An evaluation selects a parked car that is chosen, and leaves one that is not (R129). -/
theorem Block.evaluate_parked {b : Block} {i : CarIx} (hp : b.plan = .service) (hs : (b.car i).state.isParked = true) :
    if b.chosen i then (b.car i).served.SameButMarks (b.evaluate.car i) ∧ (b.evaluate.car i).slot = .closed
    else b.evaluate.car i = b.car i := by
  have hcar := Block.evaluate_car hp i
  rw [Block.EvaluatedCar, if_pos hs] at hcar
  obtain ⟨c, -, hc, hr⟩ := (evaluateCar_carWise b.serviceSet).car_allCars b i
  have he : b.evaluate.car i = (Block.evaluateCar b.serviceSet c i).car i := by
    unfold Block.evaluate
    rw [if_pos hp]
    generalize allCars.foldl (Block.evaluateCar b.serviceSet) b = d at hr ⊢
    exact hr
  split
  · rename_i hch
    rw [if_pos hch] at hcar
    refine ⟨?_, hcar.slot⟩
    have hcs : (c.car i).state.isParked = true := by rw [hc]; exact hs
    have hsel := c.selectCar_served i
    rw [← Block.evaluateCar_parked (set := b.serviceSet) hcs ((b.contains_serviceSet i).trans hch), hc] at hsel
    rw [he]
    exact hsel
  · rename_i hch
    rw [if_neg hch] at hcar
    exact hcar

theorem Block.chosen_manual {b : Block} {m : List CarIx} (h : b.manual = some m) (i : CarIx) : b.chosen i = m.contains i := by
  unfold Block.chosen
  rw [h]

/-- The evaluation that a stage causes treats its car by whether it is chosen (R126, R129). -/
theorem Block.Shows.takeEvaluation {b c : Block} {i : CarIx} {v : View} (h : b.Shows i v c)
    (hs : v.due = true → b.plan = .service ∧ v.car.state ≠ .serving) :
    ∃ sel, (∀ m, b.manual = some m → sel = m.contains i) ∧ b.Shows i (v.evaluated sel) c.takeEvaluation ∧
      (v.due = true → v.car.state.isParked = true → sel = true → (c.takeEvaluation.car i).slot = .closed) := by
  refine ⟨c.chosen i, fun m hm => Block.chosen_manual (h.keeps.manual.trans hm) i, ?_⟩
  have hkeeps := h.keeps.trans c.takeEvaluation_keeps
  cases hd : v.due with
  | false =>
    have he : c.takeEvaluation = c := if_neg (by rw [h.due, hd]; decide)
    have hv : v.evaluated (c.chosen i) = v := if_neg (by rw [hd]; decide)
    rw [he, hv]
    exact ⟨h, nofun⟩
  | true =>
    obtain ⟨hp, hne⟩ := hs hd
    have hpc : c.plan = .service := h.keeps.plan.trans hp
    have he : c.takeEvaluation = c.evaluate := if_pos (h.due.trans hd)
    rw [he] at hkeeps ⊢
    have hview : v.evaluated (c.chosen i) =
        { car := if v.car.state.isParked && c.chosen i then v.car.served else v.car, due := false } := if_pos hd
    have hothers : b.plan ≠ .service → ∀ j, j ≠ i → c.evaluate.car j = b.car j := fun hn => absurd hp hn
    rw [hview]
    cases hpark : v.car.state.isParked with
    | false =>
      have hsame := Block.takeEvaluation_other (b := c) (i := i) (by rw [h.car.state]; exact hpark) (by rw [h.car.state]; exact hne)
      rw [he] at hsame
      exact ⟨⟨hkeeps, hothers, by rw [hsame]; exact h.car, c.evalDue_evaluate⟩, nofun⟩
    | true =>
      have hcar := Block.evaluate_parked hpc (i := i) (by rw [h.car.state]; exact hpark)
      cases hch : c.chosen i with
      | true =>
        rw [hch, if_pos rfl] at hcar
        have hserved : v.car.served.SameButMarks (c.car i).served :=
          Car.SameButMarks.moved (c := { v.car with selected := true, order := some .serve })
            (d := { c.car i with selected := true, order := some .serve }) { h.car with selected := rfl, order := rfl } _ _
        exact ⟨⟨hkeeps, hothers, hserved.trans hcar.1, c.evalDue_evaluate⟩, fun _ _ _ => hcar.2⟩
      | false =>
        rw [hch, if_neg (by decide)] at hcar
        exact ⟨⟨hkeeps, hothers, by rw [hcar]; exact h.car, c.evalDue_evaluate⟩, fun _ _ => nofun⟩

end Sys2Proof.Machine
end

section
/-! What the mode comparison makes of the stage's view (R109), and the record that a report leaves its car before grants. -/

namespace Sys2Proof.Machine

/-- The record that a report brings its car to, but for a selection and a grant in its step (R106 to R118). -/
structure Block.Reported (b : Block) (i : CarIx) (l : Learned) (w : Car) : Prop where
  state    : w.state = b.reportedState i l
  order    : w.state.holdsRecall = true ∨ w.state.isParked = true → w.order = b.reportedOrder i l
  attempts : w.attempts =
    if b.stagedState i l = .failed ∧ b.reportedState i l ≠ .failed then 0
    else if b.fallsShort i l then (b.car i).attempts + 1
    else (b.car i).attempts
  reason   : w.state = .failed → w.reason =
    if (b.car i).state = .failed then (b.car i).reason
    else if b.fallsShort i l then (if (b.car i).faultSeen = true ∨ l.fault ≠ 0 then .fault else .attempts)
    else .unauthorized
  fault    : w.faultSeen = ((b.car i).faultSeen ||
    decide (((b.car i).state = .recalling ∨ (b.car i).state = .diverting) ∧ l.fault ≠ 0))
  alarm    : w.doorAlarm = (b.car i).doorAlarm
  landed   : w.state = .landed → w.doorTimer =
    if (b.car i).state ≠ .landed then some b.active.plan.tDoor
    else if b.plan.emergency = true ∧ l.motion ≠ .stopped ∧ b.commitment? i = none then none
    else (b.car i).doorTimer
  left     : (b.car i).state = .landed → w.state ≠ .landed → w.doorTimer = none

/-- A car with its record after a report: selected, where the report has parked it in SERVICE, or not (R126, R129). -/
structure Block.Selects (b : Block) (i : CarIx) (l : Learned) (sel : Bool) (u : Car) : Prop where
  record : ∃ w, b.Reported i l w ∧ u = if sel then w.served else w
  parked : sel = true → b.plan = .service ∧ (b.reportedState i l).isParked = true ∧ b.reportedState i l ≠ (b.car i).state
  manual : ∀ m, b.manual = some m → b.plan = .service → (b.reportedState i l).isParked = true →
    b.reportedState i l ≠ (b.car i).state → sel = m.contains i

section
variable {b c : Block} {i : CarIx} {l : Learned} {res : BudgetResult} {v : View} {sel : Bool}

theorem Block.Staged.reported (h : b.Staged i l v) (hs : b.reportedState i l = b.stagedState i l) : b.Reported i l v.car where
  state := h.state.trans hs.symm
  order := h.order
  attempts := h.attempts.trans (if_neg fun k => k.2 (hs.trans k.1)).symm
  reason := h.reason
  fault := h.fault
  alarm := h.alarm
  landed := h.landed
  left := h.left

/-- The record of a car behind the evaluation of its stage. -/
theorem Block.Staged.evaluated_count (h : b.Staged i l v) : v.car.SameCount (v.evaluated sel).car ∧
    ((v.evaluated sel).car.state = b.stagedState i l ∨
      ((v.evaluated sel).car.state = .serving ∧ (b.stagedState i l).isParked = true)) := by
  unfold View.evaluated
  cases hd : v.due && (v.car.state.isParked && sel) with
  | false =>
    have hcar : (if v.due then ({ car := if v.car.state.isParked && sel then v.car.served else v.car, due := false } : View)
        else v).car = v.car := by
      split
      · rename_i hdue
        rw [hdue, Bool.true_and] at hd
        rw [hd]
        rfl
      · rfl
    rw [hcar]
    exact ⟨.refl _, .inl h.state⟩
  | true =>
    obtain ⟨hdue, hsel⟩ := Bool.and_eq_true_iff.mp hd
    rw [if_pos hdue, hsel]
    refine ⟨⟨Car.learned_moved _ _ _, Car.attempts_moved _ _ _, Car.faultSeen_moved _ _ _, Car.doorAlarm_moved _ _ _⟩,
      .inr ⟨Car.state_moved _ _ _, ?_⟩⟩
    rw [← h.state]
    exact (Bool.and_eq_true_iff.mp hsel).1

/-- A comparison that changes no state leaves the car as the evaluation of its stage has it (R109, R126). -/
theorem Block.Staged.selects (h : b.Staged i l v) (hs : b.reportedState i l = b.stagedState i l)
    (hm : ∀ m, b.manual = some m → sel = m.contains i) :
    b.Selects i l (v.due && (v.car.state.isParked && sel)) (v.evaluated sel).car where
  record := by
    refine ⟨v.car, h.reported hs, ?_⟩
    unfold View.evaluated
    cases v.due
    · rfl
    · rfl
  parked hk := by
    obtain ⟨hdue, hsel⟩ := Bool.and_eq_true_iff.mp hk
    obtain ⟨hp, -, hne⟩ := h.cause hdue
    rw [hs, ← h.state]
    exact ⟨hp, (Bool.and_eq_true_iff.mp hsel).1, hne⟩
  manual m hman hp hpark hne := by
    rw [hs, ← h.state] at hpark hne
    rw [h.parks hp hpark hne, hpark, Bool.true_and, Bool.true_and]
    exact hm m hman

/-- A car that the comparison moves out of the group (R109). -/
theorem Block.Staged.reported_outside (h : b.Staged i l v) {d : Car} {dest : RState} (hdest : dest = .firefighter ∨ dest = .heldOut)
    (hr : b.reportedState i l = dest) (hne : d.state ≠ dest) (hfault : d.faultSeen = v.car.faultSeen)
    (halarm : d.doorAlarm = v.car.doorAlarm)
    (hn : d.attempts = if b.stagedState i l = .failed then 0 else v.car.attempts) : b.Reported i l (d.moved dest .none) := by
  have hplain : dest.holdsRecall = false ∧ dest.isParked = false ∧ dest ≠ .failed ∧ dest ≠ .landed := by
    rcases hdest with rfl | rfl <;> exact ⟨rfl, rfl, nofun, nofun⟩
  obtain ⟨h1, h2, h3, h4⟩ := hplain
  exact
    { state := (Car.state_moved _ _ _).trans hr.symm
      order := fun k => by rw [Car.state_moved, h1, h2] at k; simp at k
      attempts := by
        rw [Car.attempts_moved, hn, h.attempts, hr]
        simp [h3]
      reason := fun k => absurd ((Car.state_moved _ _ _).symm.trans k) h3
      fault := (Car.faultSeen_moved _ _ _).trans (hfault.trans h.fault)
      alarm := (Car.doorAlarm_moved _ _ _).trans (halarm.trans h.alarm)
      landed := fun k => absurd ((Car.state_moved _ _ _).symm.trans k) h4
      left := fun _ _ => by rw [Car.moved_of_ne _ hne]; exact if_neg h4 }

/-! ### The state before the comparison -/

/-- The states that a report's run, door and arrival check do not bring a car to (R112, R115, R117). -/
def RState.untouched : RState → Bool
  | .recallPending | .landed | .parked | .parkedAway | .failed => false
  | _ => true

/-- A car in such a state before the comparison has been in it, or been placed in it, before (R107, R115). -/
theorem Block.stagedState_untouched {r : RState} (hr : r.untouched = true) (h : b.stagedState i l = r) :
    (if (b.car i).state.firstHeard then b.placedState i l.mode else (b.car i).state) = r ∧ b.endedState i r l = r := by
  have hne : ∀ x : RState, x.untouched = false → x ≠ r := fun x hx he => by
    rw [he, hr] at hx
    cases hx
  have hland : ∀ o d, landedState o d ≠ r := fun o d => hne _ <| by
    cases d
    · rfl
    · rfl
    · rcases o with _ | (_ | _ | _) <;> rfl
  unfold Block.stagedState at h
  dsimp only at h
  generalize (if (b.car i).state.firstHeard then b.placedState i l.mode else (b.car i).state) = st at h
  have hend : b.endedState i st l = r := by
    unfold Block.arrivedState at h
    split at h
    · split at h
      · exact absurd h (hland _ _)
      · exact absurd h (hne _ rfl)
    · exact absurd h (hland _ _)
    · exact h
  have hst : st = r := by
    by_cases hf : b.endFails i st l
    · rw [Block.endedState_fails hf] at hend
      exact absurd hend (hne _ rfl)
    · unfold Block.endedState at hend
      split at hend
      · exact hend
      · split at hend
        · split at hend
          · exact hend
          · exact absurd hend (hne _ rfl)
        · split at hend
          · split at hend
            · exact absurd hend (hne _ rfl)
            · split at hend
              · exact absurd hend (hne _ rfl)
              · exact absurd hend (hne _ rfl)
          · exact hend
  exact ⟨hst, hst ▸ hend⟩

/-- A car that is SERVING before the comparison was SERVING. -/
theorem Block.stagedState_serving (h : b.stagedState i l = .serving) : (b.car i).state = .serving := by
  have hst := (Block.stagedState_untouched rfl h).1
  split at hst
  · have := b.placedState_placing i l.mode
    rw [hst] at this
    cases this
  · exact hst

/-- A car that is outside the group before the comparison and reports AUTOMATIC was outside the group, and no end of a run has moved
it (R107, R115). -/
theorem Block.stagedState_outside {r : RState} (hr : r = .firefighter ∨ r = .heldOut) (hm : l.mode.group = .automatic)
    (h : b.stagedState i l = r) : (b.car i).state = r ∧ b.endedState i r l = r := by
  obtain ⟨hst, hend⟩ := Block.stagedState_untouched (by rcases hr with rfl | rfl <;> rfl) h
  refine ⟨?_, hend⟩
  split at hst
  · cases he : b.plan.emergency with
    | false =>
      rw [Block.placedState_of_not_emergency he] at hst
      rcases hr with rfl | rfl <;> cases hst
    | true =>
      rw [Block.placedState_of_automatic he hm] at hst
      exfalso
      split at hst
      · rcases hr with rfl | rfl <;> cases hst
      · split at hst <;> rcases hr with rfl | rfl <;> cases hst
  · exact hst

/-! ### The comparison (R109) -/

/-- The states in which a mode outside the group AUTOMATIC takes a car out of the group (R109). -/
def RState.grouped : RState → Bool
  | .standing | .recallPending | .landed | .parked | .parkedAway | .serving | .excluded => true
  | _ => false

/-- The states that the comparison never leaves (R109). -/
def RState.notCompared : RState → Bool
  | .vacant | .unheard | .inGroup | .recalling | .diverting | .conflict => true
  | _ => false

theorem Block.comparedState_normal (he : b.plan.emergency = false) (st : RState) : b.comparedState i st l = st := if_pos he

theorem Block.comparedState_notCompared {st : RState} (hs : st.notCompared = true) : b.comparedState i st l = st := by
  unfold Block.comparedState
  split
  · rfl
  · cases st with
    | vacant | unheard | inGroup | recalling | diverting | conflict => rfl
    | _ => cases hs

theorem Block.comparedState_grouped {st : RState} (he : b.plan.emergency = true) (hs : st.grouped = true) :
    b.comparedState i st l = if l.mode.group = .automatic then st else l.mode.group.state := by
  unfold Block.comparedState
  rw [if_neg (by rw [he]; decide), ← CarMode.takes_eq]
  cases st with
  | standing | recallPending | landed | parked | parkedAway | serving | excluded => rfl
  | _ => cases hs

theorem Block.comparedState_outside {st : RState} (he : b.plan.emergency = true) (hs : st = .firefighter ∨ st = .heldOut) :
    b.comparedState i st l = if l.mode.group = .automatic then
      b.arrivedState (b.placedState i l.mode) (some (.recall (b.conf i).recallLanding)) l else l.mode.group.state := by
  have htakes := l.mode.takes_eq st
  unfold Block.comparedState
  rw [if_neg (by rw [he]; decide)]
  cases hm : l.mode with
  | automatic => rcases hs with rfl | rfl <;> rfl
  | _ =>
    rw [hm] at htakes
    rcases hs with rfl | rfl <;> exact htakes

theorem Block.comparedState_failed (he : b.plan.emergency = true) : b.comparedState i .failed l =
    if l.mode.group = .automatic ∨ l.mode.group = (b.car i).learned.mode.group then .failed else l.mode.group.state := by
  unfold Block.comparedState
  rw [if_neg (by rw [he]; decide)]
  dsimp only
  cases l.mode <;> cases (b.car i).learned.mode <;> rfl

theorem ModeGroup.state_of_ne {g : ModeGroup} : g.state = .firefighter ∨ g.state = .heldOut := by
  cases g with
  | firefighter => exact .inl rfl
  | _ => exact .inr rfl

theorem View.evaluated_unparked {x : View} (h : x.car.state.isParked = false) : (x.evaluated sel).car = x.car := by
  unfold View.evaluated
  rw [h]
  split
  · rfl
  · rfl

/-- A record outside the group is not selected (R127). -/
theorem Block.Reported.selects_moved {w : Car} (h : b.Reported i l w) (hp : w.state.isParked = false) : b.Selects i l false w where
  record := ⟨w, h, rfl⟩
  parked := nofun
  manual m _ _ hk := by rw [← h.state, hp] at hk; cases hk

/-- A car placed by the comparison, in SERVICE with its parking's evaluation (R107, R109, R126). -/
theorem Block.Staged.selects_placed (h : b.Staged i l v) (he : b.plan.emergency = true)
    (hs : b.stagedState i l = .firefighter ∨ b.stagedState i l = .heldOut) (hm : l.mode.group = .automatic) {e y : View}
    (hcount : v.car.SameCount e.car) (hdue : e.due = false) (hp : b.Places i l e y)
    (hman : ∀ m, b.manual = some m → sel = m.contains i) :
    b.Selects i l (y.due && (y.car.state.isParked && sel)) (y.evaluated sel).car := by
  obtain ⟨hold, hkept⟩ := Block.stagedState_outside hs hm rfl
  have hrep : y.car.state = b.reportedState i l := by
    rw [hp.state, Block.reportedState, Block.comparedState_outside he hs, if_pos hm]
  have hne : ∀ r : RState, r ≠ .firefighter → r ≠ .heldOut → (b.car i).state ≠ r := fun r h1 h2 k => by
    rw [← hold, k] at hs
    exact hs.elim h1 h2
  have hyne : y.car.state ≠ .failed := fun k => by
    have hc := Block.arrivedState_placed (b := b) (o := some (.recall (b.conf i).recallLanding)) (l := l)
      (b.placedState_placing i l.mode)
    rw [← hp.state, k] at hc
    cases hc
  have hydue : y.due = (decide (b.plan = .service) && y.car.state.isParked) := by rw [hp.due, hdue, Bool.false_or]
  have hreported : b.Reported i l y.car :=
    { state := hrep
      order := fun k => by
        obtain ⟨hplaced, horder⟩ := hp.order k
        rw [horder, Block.reportedOrder, if_pos]
        rw [← hold] at hs hkept
        unfold Block.ordersAnew
        rcases hs with hs | hs
        · rw [hs]; simp [hplaced]
        · rw [hs] at hkept ⊢; simp [hplaced, hkept]
      attempts := hp.count.attempts.trans (hcount.attempts.trans (h.attempts.trans
        (if_neg fun k => by rw [k.1] at hs; exact hs.elim nofun nofun).symm))
      reason := fun k => absurd k hyne
      fault := hp.count.faultSeen.trans (hcount.faultSeen.trans h.fault)
      alarm := hp.count.doorAlarm.trans (hcount.doorAlarm.trans h.alarm)
      landed := fun k => by rw [hp.timer k, if_pos (hne .landed nofun nofun)]
      left := fun k => absurd k (hne _ nofun nofun) }
  refine ⟨⟨y.car, hreported, ?_⟩, fun k => ?_, fun m hmm hplan hpark _ => ?_⟩
  · unfold View.evaluated
    cases y.due
    · rfl
    · rfl
  · rw [hydue] at k
    simp only [Bool.and_eq_true, decide_eq_true_eq] at k
    obtain ⟨⟨hplan, hpark⟩, -⟩ := k
    rw [← hrep]
    refine ⟨hplan, hpark, fun k => ?_⟩
    rw [k] at hpark
    rcases (RState.isParked_iff _).mp hpark with k | k
    · exact hne .parked nofun nofun k
    · exact hne .parkedAway nofun nofun k
  · rw [← hrep] at hpark
    rw [hydue, hpark, hplan, ← hman m hmm]
    simp

theorem Block.viewCompare_normal {was : ModeGroup} (he : c.plan.emergency = false) : c.viewCompare i was v = v := if_pos he

theorem Block.viewCompare_notCompared {was : ModeGroup} (hs : v.car.state.notCompared = true) : c.viewCompare i was v = v := by
  unfold Block.viewCompare
  split
  · rfl
  · cases hv : v.car.state with
    | vacant | unheard | inGroup | recalling | diverting | conflict => rfl
    | _ => rw [hv] at hs; cases hs

theorem Block.viewCompare_grouped {was : ModeGroup} (he : c.plan.emergency = true) (hs : v.car.state.grouped = true) :
    c.viewCompare i was v = if v.car.learned.mode.group = .automatic then v else v.move c.plan v.car.learned.mode.group.state := by
  unfold Block.viewCompare
  rw [if_neg (by rw [he]; decide)]
  cases hv : v.car.state with
  | standing | recallPending | landed | parked | parkedAway | serving | excluded => rfl
  | _ => rw [hv] at hs; cases hs

theorem Block.viewCompare_outside {was : ModeGroup} (he : c.plan.emergency = true)
    (hs : v.car.state = .firefighter ∨ v.car.state = .heldOut) : c.viewCompare i was v =
      if v.car.learned.mode.group = .automatic then c.viewPlace i v
      else if v.car.state = v.car.learned.mode.group.state then v else v.move c.plan v.car.learned.mode.group.state := by
  unfold Block.viewCompare
  rw [if_neg (by rw [he]; decide)]
  rcases hs with hs | hs
  · rw [hs]
    cases v.car.learned.mode.group <;> rfl
  · rw [hs]
    cases v.car.learned.mode.group <;> rfl

theorem Block.viewCompare_failed {was : ModeGroup} (he : c.plan.emergency = true) (hs : v.car.state = .failed) :
    c.viewCompare i was v = if v.car.learned.mode.group = .automatic ∨ v.car.learned.mode.group = was then v
      else (v.modify fun d => { d with attempts := 0 }).move c.plan v.car.learned.mode.group.state := by
  unfold Block.viewCompare
  rw [if_neg (by rw [he]; decide), hs]

/-- A view of the car behind the mode comparison: the evaluation that may be due leaves it with its record after the report, selected
or not, and if one is due the plan is SERVICE and the car not SERVING (R109, R126). -/
structure Block.Compared (b : Block) (i : CarIx) (l : Learned) (sel : Bool) (f : View) : Prop where
  selects : ∃ s, b.Selects i l s (f.evaluated sel).car
  due     : f.due = true → b.plan = .service ∧ f.car.state ≠ .serving

variable {sel' : Bool}

theorem Block.Staged.compared_kept (hv : b.Staged i l v) (hsel : ∀ m, b.manual = some m → sel = m.contains i)
    (hr : b.reportedState i l = b.stagedState i l) : b.Compared i l sel' (v.evaluated sel) := by
  have hdue := v.due_evaluated sel
  have hsame : (v.evaluated sel).evaluated sel' = v.evaluated sel := if_neg (by rw [hdue]; decide)
  exact ⟨⟨_, by rw [hsame]; exact hv.selects hr hsel⟩, fun k => by rw [hdue] at k; cases k⟩

theorem Block.Staged.compared_moved (hv : b.Staged i l v) {d : View} (hd : d.due = false) {dest : RState}
    (hdest : dest = .firefighter ∨ dest = .heldOut) (hr : b.reportedState i l = dest) (hne : d.car.state ≠ dest)
    (hfault : d.car.faultSeen = v.car.faultSeen) (halarm : d.car.doorAlarm = v.car.doorAlarm)
    (hn : d.car.attempts = if b.stagedState i l = .failed then 0 else v.car.attempts) :
    b.Compared i l sel' (d.move b.plan dest) := by
  have hw := hv.reported_outside hdest hr hne hfault halarm hn
  have hstate : (d.move b.plan dest).car.state = dest := Car.state_moved _ _ _
  have hpark : (d.move b.plan dest).car.state.isParked = false := by
    rw [hstate]
    rcases hdest with rfl | rfl <;> rfl
  refine ⟨⟨false, ?_⟩, fun k => ⟨View.due_move_service (fun h => by rw [hd] at h; cases h) k, ?_⟩⟩
  · rw [View.evaluated_unparked hpark]
    exact hw.selects_moved hpark
  · rw [hstate]
    rcases hdest with rfl | rfl <;> decide

/-- The state a view has behind the evaluation of its stage, unless that has selected it. -/
theorem Block.Staged.evaluated_state (hv : b.Staged i l v) (h : (v.evaluated sel).car.state ≠ .serving) :
    (v.evaluated sel).car.state = b.stagedState i l :=
  (hv.evaluated_count (sel := sel)).2.resolve_right fun k => h k.1

theorem Block.Staged.compared_grouped (hv : b.Staged i l v) (hsel : ∀ m, b.manual = some m → sel = m.contains i)
    (he : b.plan.emergency = true) (hs : (v.evaluated sel).car.state.grouped = true) : b.Compared i l sel'
      (if l.mode.group = .automatic then v.evaluated sel else (v.evaluated sel).move b.plan l.mode.group.state) := by
  obtain ⟨hcount, hstate⟩ := hv.evaluated_count (sel := sel)
  have hstg : (b.stagedState i l).grouped = true := by
    rcases hstate with h | ⟨-, h⟩
    · rwa [← h]
    · rcases (RState.isParked_iff _).mp h with h | h <;> rw [h] <;> rfl
  have hrep : b.reportedState i l = _ := Block.comparedState_grouped he hstg
  by_cases ha : l.mode.group = .automatic
  · rw [if_pos ha] at hrep ⊢
    exact hv.compared_kept hsel hrep
  · rw [if_neg ha] at hrep ⊢
    have hout := l.mode.group.state_of_ne
    refine hv.compared_moved (v.due_evaluated sel) hout hrep (fun k => ?_) hcount.faultSeen hcount.doorAlarm
      (hcount.attempts.trans (if_neg fun k => ?_).symm)
    · rw [k] at hs
      rcases hout with ho | ho <;> rw [ho] at hs <;> cases hs
    · rw [k] at hstg
      cases hstg

theorem Block.Offered.compared_outside (h : b.Offered i l res c) (hv : b.Staged i l v)
    (hsel : ∀ m, b.manual = some m → sel = m.contains i) (hsel' : ∀ m, b.manual = some m → sel' = m.contains i)
    (he : b.plan.emergency = true) (hs : (v.evaluated sel).car.state = .firefighter ∨ (v.evaluated sel).car.state = .heldOut) :
    b.Compared i l sel' (if l.mode.group = .automatic then c.viewPlace i (v.evaluated sel)
      else if (v.evaluated sel).car.state = l.mode.group.state then v.evaluated sel
      else (v.evaluated sel).move b.plan l.mode.group.state) := by
  obtain ⟨hcount, -⟩ := hv.evaluated_count (sel := sel)
  have hst := hv.evaluated_state (sel := sel) fun k => by rw [k] at hs; exact hs.elim nofun nofun
  have hs' := hs
  rw [hst] at hs'
  have hrep : b.reportedState i l = _ := Block.comparedState_outside he hs'
  by_cases ha : l.mode.group = .automatic
  · rw [if_pos ha] at hrep ⊢
    have hplaced : (v.evaluated sel).car.state ≠ b.placedState i l.mode := by
      rw [Block.placedState_of_automatic he ha]
      repeat' split
      all_goals
        intro k
        rw [k] at hs
        exact hs.elim nofun nofun
    have hp := h.viewPlace_places (w := v.evaluated sel) (hcount.learned.trans hv.learned)
      (by rcases hs with hs | hs <;> rw [hs] <;> rfl) hplaced
    refine ⟨⟨_, hv.selects_placed he hs' ha hcount (v.due_evaluated sel) hp hsel'⟩, fun k => ?_⟩
    rw [hp.due, v.due_evaluated, Bool.false_or, Bool.and_eq_true, decide_eq_true_eq] at k
    exact ⟨k.1, fun hk => by rw [hk] at k; cases k.2⟩
  · rw [if_neg ha] at hrep ⊢
    by_cases hg : (v.evaluated sel).car.state = l.mode.group.state
    · rw [if_pos hg]
      exact hv.compared_kept hsel (hrep.trans (hg.symm.trans hst))
    · rw [if_neg hg]
      exact hv.compared_moved (v.due_evaluated sel) l.mode.group.state_of_ne hrep hg hcount.faultSeen hcount.doorAlarm
        (hcount.attempts.trans (if_neg fun k => by rw [k] at hs'; exact hs'.elim nofun nofun).symm)

theorem Block.Staged.compared_failed (hv : b.Staged i l v) (hsel : ∀ m, b.manual = some m → sel = m.contains i)
    (he : b.plan.emergency = true) (hs : (v.evaluated sel).car.state = .failed) : b.Compared i l sel'
      (if l.mode.group = .automatic ∨ l.mode.group = (b.car i).learned.mode.group then v.evaluated sel
      else ((v.evaluated sel).modify fun d => { d with attempts := 0 }).move b.plan l.mode.group.state) := by
  obtain ⟨hcount, -⟩ := hv.evaluated_count (sel := sel)
  have hst : b.stagedState i l = .failed := (hv.evaluated_state (sel := sel) (by rw [hs]; decide)).symm.trans hs
  have hrep : b.reportedState i l = _ := (congrArg (fun r => b.comparedState i r l) hst).trans (Block.comparedState_failed he)
  by_cases hk : l.mode.group = .automatic ∨ l.mode.group = (b.car i).learned.mode.group
  · rw [if_pos hk] at hrep ⊢
    exact hv.compared_kept hsel (hrep.trans hst.symm)
  · rw [if_neg hk] at hrep ⊢
    have hout := l.mode.group.state_of_ne
    refine hv.compared_moved (d := (v.evaluated sel).modify fun d => { d with attempts := 0 }) (v.due_evaluated sel) hout hrep
      (fun k => ?_) hcount.faultSeen hcount.doorAlarm (if_pos hst).symm
    have hfail : l.mode.group.state = .failed := k.symm.trans hs
    rw [hfail] at hout
    exact hout.elim nofun nofun

/-- What the mode comparison makes of the view behind the stage's evaluation (R109). -/
theorem Block.Offered.compared (h : b.Offered i l res c) (hv : b.Staged i l v)
    (hsel : ∀ m, b.manual = some m → sel = m.contains i) (hsel' : ∀ m, b.manual = some m → sel' = m.contains i) :
    b.Compared i l sel' (c.viewCompare i (b.car i).learned.mode.group (v.evaluated sel)) := by
  have hl : (v.evaluated sel).car.learned = l := (hv.evaluated_count (sel := sel)).1.learned.trans hv.learned
  cases he : b.plan.emergency with
  | false =>
    rw [Block.viewCompare_normal (h.plan ▸ he)]
    exact hv.compared_kept hsel (Block.comparedState_normal he _)
  | true =>
    have hec : c.plan.emergency = true := h.plan ▸ he
    cases hs : (v.evaluated sel).car.state with
    | standing | recallPending | landed | parked | parkedAway | serving | excluded =>
      have hg : (v.evaluated sel).car.state.grouped = true := by rw [hs]; rfl
      rw [Block.viewCompare_grouped hec hg, hl, h.plan]
      exact hv.compared_grouped hsel he hg
    | firefighter =>
      rw [Block.viewCompare_outside hec (.inl hs), hl, h.plan]
      exact h.compared_outside hv hsel hsel' he (.inl hs)
    | heldOut =>
      rw [Block.viewCompare_outside hec (.inr hs), hl, h.plan]
      exact h.compared_outside hv hsel hsel' he (.inr hs)
    | failed =>
      rw [Block.viewCompare_failed hec hs, hl, h.plan]
      exact hv.compared_failed hsel he hs
    | vacant | unheard | inGroup | recalling | diverting | conflict =>
      have hst := hv.evaluated_state (sel := sel) (by rw [hs]; decide)
      rw [Block.viewCompare_notCompared (by rw [hs]; rfl)]
      exact hv.compared_kept hsel (Block.comparedState_notCompared (by rw [← hst, hs]; rfl))

end

end Sys2Proof.Machine
end

section
/-! The end of a report's step: what its pass leaves of the car, and what the whole step makes of its restoration record (R27). -/

namespace Sys2Proof.Machine

/-! ### A pass (R85, R114) -/

/-- What a pass leaves of a car beyond what `Car.GrantOnly` says: the alarm, a stopped door timer, and reason and timer of a car
that is not RECALL_PENDING. -/
structure Car.Passed (c c' : Car) : Prop where
  grant   : c.GrantOnly c'
  alarm   : c'.doorAlarm = c.doorAlarm
  stopped : c.doorTimer = none → c'.doorTimer = none
  kept    : c.state ≠ .recallPending → c'.reason = c.reason ∧ c'.doorTimer = c.doorTimer

theorem Car.Passed.refl (c : Car) : c.Passed c := ⟨.refl c, rfl, id, fun _ => ⟨rfl, rfl⟩⟩

theorem Block.takeGrant_passed (b : Block) (i : CarIx) (k : RunKind) (j : CarIx) : (b.car j).Passed ((b.takeGrant i k).car j) := by
  have hg := b.takeGrant_grantOnly i k j
  by_cases hj : j = i
  · subst hj
    have hmod := b.car_modCar_same j fun c => { c with faultSeen := false }
    unfold Block.takeGrant at hg ⊢
    dsimp only at hg ⊢
    split at hg
    · rename_i hk
      rw [if_pos hk]
      split at hg
      · rename_i hs
        rw [if_pos hs]
        have ht := (Block.move_touches (b.modCar j fun c => { c with faultSeen := false }) j (grantState k) .none false).this
        rw [hmod] at ht
        have hne : ({ b.car j with faultSeen := false } : Car).state ≠ grantState k := by
          rw [show ({ b.car j with faultSeen := false } : Car).state = (b.car j).state from rfl, hs]
          cases k <;> decide
        have hland : grantState k ≠ .landed := by cases k <;> decide
        rw [Car.moved_of_ne _ hne] at ht
        exact ⟨hg, ht.doorAlarm, fun _ => ht.doorTimer.trans (if_neg hland), fun k => absurd hs k⟩
      · rename_i hs
        rw [if_neg hs, hmod] at *
        exact ⟨hg, rfl, id, fun _ => ⟨rfl, rfl⟩⟩
    · rename_i hk
      rw [if_neg hk]
      exact .refl _
  · rw [Block.takeGrant_others _ _ _ hj]
    exact .refl _

theorem Block.takeTrigger_passed (b : Block) (i : CarIx) : (b.car i).Passed (b.takeTrigger.car i) := by
  rcases b.takeTrigger_cases with ⟨x, hx⟩ | ⟨e, noted, -, hx⟩
  · rw [hx]; exact .refl _
  · obtain ⟨c, hc, hcar, -⟩ := b.grantEntry_eq e noted
    rw [hx, hc, ← hcar i]
    exact c.takeGrant_passed e.car e.kind i

/-- A change of marks behind a pass, with the slot as the order-resend timers leave it. -/
theorem Car.Passed.resends {c d e : Car} (h : c.Passed d) (hm : d.SameButMarks e) (hg : d.GrantOnly e) : c.Passed e where
  grant := h.grant.trans hg
  alarm := hm.doorAlarm.trans h.alarm
  stopped k := hm.doorTimer.trans (h.stopped k)
  kept k := ⟨hm.reason.trans (h.kept k).1, hm.doorTimer.trans (h.kept k).2⟩

theorem Block.finish_passed (b : Block) (i : CarIx) : (b.takeEvaluation.car i).Passed (b.finish.car i) :=
  (b.takeEvaluation.takeTrigger_passed i).resends ((Block.resendAll _).sameButMarks i) ((Block.resendAll _).grantOnly i)

/-- A car without an entry is left by the pass. -/
theorem Block.finish_unqueued_marks {b : Block} {i : CarIx} (h : b.entry? i = none) :
    (b.takeEvaluation.car i).SameButMarks (b.finish.car i) := by
  have ht := Block.takeTrigger_unqueued (b := b.takeEvaluation) fun hi =>
    Block.entry?_eq_none.mp h (b.takeEvaluation_keeps.queue.1 i hi)
  have hm := (Block.resendAll b.takeEvaluation.takeTrigger).sameButMarks i
  rw [ht] at hm
  exact hm

/-- A car that is not made SERVING by the comparison is SERVING behind it only if it is left alone (R109). -/
theorem Block.viewPlace_not_serving (b : Block) (i : CarIx) (v : View) : (b.viewPlace i v).car.state ≠ .serving := by
  have hm : ∀ (w : View) (dest : RState), dest ≠ .serving → (w.move b.plan dest).car.state ≠ .serving := fun w dest h => by
    rw [View.car_move, Car.state_moved]
    exact h
  unfold Block.viewPlace Block.viewRecall Block.viewArrival
  repeat' split
  · exact hm _ _ nofun
  · refine hm _ _ ?_
    cases v.car.learned.mode.group <;> exact nofun
  · exact hm _ _ nofun
  · rename_i h
    rw [(b.viewLand_comes (by rw [View.car_move, Car.state_moved]; rfl)).state]
    intro hk
    rcases landedState_cases
      ((v.modify fun c => { c with order := some (.recall (b.conf i).recallLanding) }).move b.plan .recallPending).car.order
      ((v.modify fun c => { c with order := some (.recall (b.conf i).recallLanding) }).move b.plan .recallPending).car.learned.door
      with hc | hc
    · rw [hc] at hk; cases hk
    · rw [hk] at hc; cases hc
  · exact hm _ _ nofun
  · exact hm _ _ nofun

theorem Block.modeComparison_serving {b : Block} {i : CarIx} {was : ModeGroup}
    (h : ((b.modeComparison i was).car i).state = .serving) : b.modeComparison i was = b := by
  have hm : ∀ (d : Block) (g : ModeGroup), ((d.move i g.state).car i).state ≠ .serving := fun d g => by
    rw [Block.state_move]
    cases g <;> exact nofun
  have hp : ((b.place i).car i).state ≠ .serving := by
    rw [((b.shows_view i).place).car.state]
    exact b.viewPlace_not_serving i _
  unfold Block.modeComparison at h ⊢
  dsimp only at h ⊢
  split at h
  · rename_i he
    exact if_pos he
  · rename_i he
    rw [if_neg he]
    cases hs : (b.car i).state with
    | standing | recallPending | landed | parked | parkedAway | serving | excluded =>
      rw [hs] at h
      dsimp only at h ⊢
      split at h
      · rename_i ha; exact if_pos ha
      · exact absurd h (hm _ _)
    | firefighter =>
      rw [hs] at h
      dsimp only at h ⊢
      split at h
      · rename_i ha; exact if_pos ha
      · split at h
        · exact absurd h hp
        · exact absurd h (hm b .held)
    | heldOut =>
      rw [hs] at h
      dsimp only at h ⊢
      split at h
      · rename_i ha; exact if_pos ha
      · split at h
        · exact absurd h hp
        · exact absurd h (hm b .firefighter)
    | failed =>
      rw [hs] at h
      dsimp only at h ⊢
      split at h
      · rename_i ha; exact if_pos ha
      · exact absurd h (hm _ _)
    | _ => rfl

end Sys2Proof.Machine
end

section
/-! What a report's step makes of its car's restoration record (R106 to R118). -/

namespace Sys2Proof.Machine

/-- A sending leaves a view. -/
theorem Block.Shows.sends {b c d : Block} {i : CarIx} {v : View} (h : b.Shows i v c) (k : c.OnlySends d) : b.Shows i v d where
  keeps := h.keeps.trans k.toKeepsBudget
  others hp j hj := (k.car_eq j).trans (h.others hp j hj)
  car := by rw [k.car_eq]; exact h.car
  due := k.evalDue.trans h.due

section
variable {b c : Block} {i : CarIx} {l : Learned} {res : BudgetResult}

/-- The block of a report's step before it ends: behind the Restoration Controller's stage and the Relay Unit's (R27). -/
def Block.reportStage (c : Block) (i : CarIx) (res : BudgetResult) (was : ModeGroup) (f : Frame) : Block :=
  (c.restoreStage i res was).relayReport i f

/-- How a report's step leaves its car and the others before the pass (R27, R126): the car with its record after the report, selected
or not; a car newly SERVING with its slot closed. -/
structure Block.Judged (b : Block) (i : CarIx) (l : Learned) (c : Block) (d : Block) : Prop where
  keeps  : c.KeepsBudget d
  record : ∃ s u, b.Selects i l s u ∧ u.SameButMarks (d.takeEvaluation.car i)
  slot   : (b.car i).state ≠ .serving → (d.takeEvaluation.car i).state = .serving → (d.takeEvaluation.car i).slot = .closed
  others : b.plan ≠ .service → ∀ j, j ≠ i → d.takeEvaluation.car j = b.car j

/-- A car that an evaluation finds in another state than SERVING is SERVING behind it only if it was parked and is chosen (R129). -/
theorem View.evaluated_serving {v : View} {sel : Bool} (h : (v.evaluated sel).car.state = .serving) (hs : v.car.state ≠ .serving) :
    v.due = true ∧ v.car.state.isParked = true ∧ sel = true := by
  unfold View.evaluated at h
  cases hd : v.due with
  | false =>
    rw [if_neg (by rw [hd]; decide)] at h
    exact absurd h hs
  | true =>
    rw [if_pos hd] at h
    cases hp : v.car.state.isParked && sel with
    | false =>
      rw [hp] at h
      exact absurd h hs
    | true => exact ⟨rfl, Bool.and_eq_true_iff.mp hp⟩

/-- The stage's own evaluation and its comparison (R27, R109): the view behind the comparison, and the slot of a car newly SERVING. -/
theorem Block.Offered.stage_shows (h : b.Offered i l res c) (hd : c.evalDue = false) : ∃ g : View,
    c.Shows i g (c.restoreStage i res (b.car i).learned.mode.group) ∧
      (∀ sel, (∀ m, b.manual = some m → sel = m.contains i) → b.Compared i l sel g) ∧
      ((b.car i).state ≠ .serving → g.car.state = .serving →
        ((c.restoreStage i res (b.car i).learned.mode.group).car i).slot = .closed) := by
  have hstaged := h.staged hd
  have hshow := c.stageBefore_shows i res
  generalize c.viewStage i res (c.view i) = v at hstaged hshow
  obtain ⟨sel, hman, hshow1, hslot⟩ := hshow.takeEvaluation fun k =>
    ⟨h.plan.trans (hstaged.cause k).1, (hstaged.cause k).2.1⟩
  rw [c.restoreStage_eq]
  generalize (c.stageBefore i res).takeEvaluation = d at hshow1 hslot
  have hshow2 := hshow1.modeComparison (b.car i).learned.mode.group
  refine ⟨_, hshow2, fun sel' hm' => h.compared hstaged (fun m hm => hman m (h.manual.trans hm)) hm', fun hold hserv => ?_⟩
  have hback := Block.modeComparison_serving (hshow2.car.state.trans hserv)
  rw [hback] at hshow2 ⊢
  have hv : v.car.state ≠ .serving := fun k => hold (Block.stagedState_serving (hstaged.state.symm.trans k))
  obtain ⟨h1, h2, h3⟩ := View.evaluated_serving (hshow1.car.state.symm.trans (hshow2.car.state.trans hserv)) hv
  exact hslot h1 h2 h3

theorem Block.Offered.judged (h : b.Offered i l res c) (hd : c.evalDue = false) (f : Frame) :
    b.Judged i l c (c.reportStage i res (b.car i).learned.mode.group f) := by
  obtain ⟨g, hshow, hcompared, hslot⟩ := h.stage_shows hd
  have hrelay := (c.restoreStage i res (b.car i).learned.mode.group).relayReport_only i f
  rw [Block.reportStage]
  generalize c.restoreStage i res (b.car i).learned.mode.group = d at hshow hslot hrelay
  generalize d.relayReport i f = e at hrelay
  have hshow3 := hshow.sends hrelay
  have hdue := (hcompared (b.chosen i) fun m hm => Block.chosen_manual hm i).due
  obtain ⟨sel, hman, hshow4, hslot4⟩ := hshow3.takeEvaluation fun k => ⟨h.plan.trans (hdue k).1, (hdue k).2⟩
  obtain ⟨s, hs⟩ := (hcompared sel fun m hm => hman m (h.manual.trans hm)).selects
  refine ⟨hshow3.keeps, ⟨s, _, hs, hshow4.car⟩, fun hold hserv => ?_, fun hp j hj => ?_⟩
  · have hgs := hshow4.car.state.symm.trans hserv
    by_cases hg : g.car.state = .serving
    · have hquiet : e.takeEvaluation = e := if_neg fun k => (hdue (hshow3.due.symm.trans k)).2 hg
      rw [hquiet, hrelay.car_eq]
      exact hslot hold hg
    · obtain ⟨h1, h2, h3⟩ := View.evaluated_serving hgs hg
      exact hslot4 h1 h2 h3
  · exact (hshow4.others (by rw [h.plan]; exact hp) j hj).trans (h.others j hj)

/-- What a selected record is (R129). -/
theorem Car.served_eq {w : Car} (h : w.state.isParked = true) :
    w.served = ({ w with selected := true, order := some .serve } : Car).enter .serving .none :=
  Car.moved_of_ne _ fun k => by rw [show w.state = .serving from k] at h; cases h

theorem Block.comparedState_serving {st : RState} (h : b.comparedState i st l = .serving) : st = .serving := by
  cases he : b.plan.emergency with
  | false => rwa [Block.comparedState_normal he] at h
  | true =>
    have hgroup : l.mode.group.state ≠ .serving := by rcases l.mode.group.state_of_ne with k | k <;> rw [k] <;> decide
    have hgrouped : st.grouped = true → st = .serving := fun hg => by
      rw [Block.comparedState_grouped he hg] at h
      split at h
      · exact h
      · exact absurd h hgroup
    have houtside : st = .firefighter ∨ st = .heldOut → st = .serving := fun ho => by
      rw [Block.comparedState_outside he ho] at h
      split at h
      · have hc := Block.arrivedState_placed (b := b) (o := some (.recall (b.conf i).recallLanding)) (l := l)
          (b.placedState_placing i l.mode)
        rw [h] at hc
        cases hc
      · exact absurd h hgroup
    cases st with
    | standing | recallPending | landed | parked | parkedAway | serving | excluded => exact hgrouped rfl
    | firefighter => exact houtside (.inl rfl)
    | heldOut => exact houtside (.inr rfl)
    | failed =>
      rw [Block.comparedState_failed he] at h
      split at h
      · cases h
      · exact absurd h hgroup
    | vacant | unheard | inGroup | recalling | diverting | conflict => rwa [Block.comparedState_notCompared rfl] at h

/-- A report alone makes no car SERVING (R127). -/
theorem Block.reportedState_serving (h : b.reportedState i l = .serving) : (b.car i).state = .serving :=
  Block.stagedState_serving (Block.comparedState_serving h)

/-- The frames that a report's step sends first for its car (R100, R106). -/
structure Block.Tells (b : Block) (i : CarIx) (src : Byte) (l : Learned) (t : Block) : Prop where
  notice   : (b.car i).state.firstHeard = true → (b.car i).learned.silent = false → b.gport.roomOwn = true →
    ∃ m, t.gport.tx = b.gport.tx ++
      ownItem (b.ownFrame 0 .planNotice [b.plan.code, byteOf (carNo i), (b.placedState i l.mode).code, 0]) :: m
  ordered  : b.ordersAnew i l = true → b.entry? i = none → b.cport.roomOwn = true → ∃ m, t.cport.tx = b.cport.tx ++
    ownItem (b.ownFrame src .carOrder [byteOf (carNo i), 1, byteOf (b.conf i).recallLanding]) :: m
  resent   : ∀ p, (b.car i).order = some (.recall p) ∨ (b.car i).order = some (.divert p) → b.fallsShort i l = true →
    (b.car i).attempts + 1 < b.active.plan.attemptLimit → b.entry? i = none → b.cport.roomOwn = true →
    ∃ m, t.cport.tx = b.cport.tx ++
      ownItem (b.ownFrame src .carOrder [byteOf (carNo i), orderKindCode (b.car i).order, byteOf p]) :: m

/-- A car's record after its report, selected or not, and the pass behind it, as `Block.Restored` says. -/
theorem Block.Offered.restored (h : b.Offered i l res c) (hd : c.evalDue = false)
    (hentry : b.entry? i = none → c.entry? i = none) {src : Byte} (f : Frame)
    (htells : b.Tells i src l (c.reportStage i res (b.car i).learned.mode.group f).finish) :
    b.Restored i src l (c.reportStage i res (b.car i).learned.mode.group f).finish := by
  have hj := h.judged hd f
  generalize c.reportStage i res (b.car i).learned.mode.group f = d at hj htells
  obtain ⟨hkeeps, ⟨s, u, hs, hu⟩, hslot, hothers⟩ := hj
  obtain ⟨⟨w, hw, huw⟩, hparked, hmanual⟩ := hs
  have hpass := d.finish_passed i
  have hcars := fun j => (d.finish_passed j).grant.state
  have hplan : d.finish.plan = b.plan := d.finish_keeps.plan.trans (hkeeps.plan.trans h.plan)
  have hqueue : b.entry? i = none → (d.takeEvaluation.car i).SameButMarks (d.finish.car i) := fun hn => by
    refine Block.finish_unqueued_marks (Block.entry?_eq_none.mpr fun hi => ?_)
    exact Block.entry?_eq_none.mp (hentry hn) (hkeeps.queue.1 i hi)
  generalize d.finish = t at htells hpass hcars hplan hqueue
  generalize d.takeEvaluation = e at hu hslot hothers hpass hcars hqueue
  obtain ⟨hnotice, hordered, hresent⟩ := htells
  have hcount : w.SameCount u := by
    rw [huw]
    split
    · exact ⟨Car.learned_moved _ _ _, Car.attempts_moved _ _ _, Car.faultSeen_moved _ _ _, Car.doorAlarm_moved _ _ _⟩
    · exact .refl w
  have hattempts := hpass.grant.same.attempts.trans (hu.attempts.trans (hcount.attempts.trans hw.attempts))
  have halarm := hpass.alarm.trans (hu.doorAlarm.trans (hcount.doorAlarm.trans hw.alarm))
  have hfault := fun hn => (hqueue hn).faultSeen.trans (hu.faultSeen.trans (hcount.faultSeen.trans hw.fault))
  have hothers' : b.plan ≠ .service → ∀ j, j ≠ i → heldOrGranted (b.car j).state (t.car j).state := fun hp j hj =>
    hothers hp j hj ▸ hcars j
  cases s with
  | true =>
    obtain ⟨hp, hpark, hne⟩ := hparked rfl
    have heq : u = ({ w with selected := true, order := some .serve } : Car).enter .serving .none :=
      huw.trans (Car.served_eq (hw.state ▸ hpark))
    have hes : (e.car i).state = .serving := hu.state.trans (by rw [heq]; rfl)
    have hts := hpass.grant.serving hes
    have hno : ∀ r : RState, r ≠ .serving → (t.car i).state ≠ r := fun r hr k => hr (k.symm.trans hts)
    exact
      { plan := hplan
        state := .inr ⟨hp, hpark, hne, hts⟩
        manual := fun m hm _ _ _ => ⟨fun _ => by simpa using (hmanual m hm hp hpark hne).symm, fun _ => hts⟩
        serves := fun _ hold => ⟨(hpass.grant.selected hes).trans (hu.selected.trans (by rw [heq]; rfl)),
          hpass.grant.same.order.trans (hu.order.trans (by rw [heq]; rfl)), hpass.grant.slot hes (hslot hold hes)⟩
        order := fun k => by rw [hts] at k; exact k.elim nofun nofun
        attempts := hattempts
        reason := fun k => absurd k (hno _ nofun)
        fault := hfault
        alarm := halarm
        landed := fun k => absurd k (hno _ nofun)
        left := fun _ _ => hpass.stopped (hu.doorTimer.trans (by rw [heq]; rfl))
        notice := hnotice
        ordered := hordered
        resent := hresent
        others := hothers' }
  | false =>
    have heq : u = w := huw
    rw [heq] at hu
    have hstate : heldOrGranted (b.reportedState i l) (t.car i).state := by
      rw [← hw.state, ← hu.state]
      exact hpass.grant.state
    have hkept : ∀ r : RState, r ≠ .recalling → r ≠ .diverting → (t.car i).state = r → w.state = r := fun r h1 h2 k => by
      rw [hw.state]
      rcases hstate with hg | ⟨-, hg⟩
      · exact hg.symm.trans k
      · rw [k] at hg
        exact absurd hg (not_or.mpr ⟨h1, h2⟩)
    have hpending : ∀ r : RState, r ≠ .recallPending → w.state = r → (e.car i).state ≠ .recallPending := fun r hr k hk =>
      hr (k.symm.trans (hu.state.symm.trans hk))
    exact
      { plan := hplan
        state := .inl hstate
        manual := fun m hm hp hpark hne => by
          have hi := hmanual m hm hp hpark hne
          refine ⟨fun k => ?_, fun k => by simp [k] at hi⟩
          have := hkept .serving nofun nofun k
          rw [← hw.state, this] at hpark
          cases hpark
        serves := fun k hold => absurd (Block.reportedState_serving (hw.state.symm.trans (hkept .serving nofun nofun k))) hold
        order := fun k => by
          refine hpass.grant.same.order.trans (hu.order.trans (hw.order ?_))
          rcases hstate with hg | ⟨hg, -⟩
          · rw [hw.state, ← hg]; exact k
          · rw [hw.state, hg]; exact .inl rfl
        attempts := hattempts
        reason := fun k => by
          have hwf := hkept .failed nofun nofun k
          rw [(hpass.kept (hpending .failed nofun hwf)).1, hu.reason]
          exact hw.reason hwf
        fault := hfault
        alarm := halarm
        landed := fun k => by
          have hwl := hkept .landed nofun nofun k
          rw [(hpass.kept (hpending .landed nofun hwl)).2, hu.doorTimer]
          exact hw.landed hwl
        left := fun k hn => by
          refine hpass.stopped (hu.doorTimer.trans (hw.left k fun hwl => hn ?_))
          exact (hpass.grant.keepsState (hpending .landed nofun hwl)).trans (hu.state.trans hwl)
        notice := hnotice
        ordered := hordered
        resent := hresent
        others := hothers' }

end

end Sys2Proof.Machine
end

section
/-! The first two stages of an accepted report: what is learned, and what the Budget Unit makes of it (R27, R30, R58 to R69). -/

namespace Sys2Proof.Machine

/-! ### Learning (R30, R37) -/

/-- The learned part of a car that has been heard (R26, R30). -/
def Block.heardPart (b : Block) (i : CarIx) (fields : List Byte) : Learned :=
  { (b.car i).learned.learn fields with heard := true, silent := false, reportTimer := some b.active.plan.tSilent }

/-- The block of an accepted report once it is learned and a cleared SILENT has had its effects (R27, R37). -/
def Block.reportHeard (b : Block) (i : CarIx) (node : Nat) (fields : List Byte) : Block :=
  if (b.car i).learned.silent then (b.learnReport i node fields).clearSilent i else b.learnReport i node fields

theorem Block.acceptReport_eq (b : Block) (i : CarIx) (node : Nat) (fields : List Byte) (f : Frame) :
    b.acceptReport i node fields f = (((b.reportHeard i node fields).budgetStage i).1.reportStage i
      ((b.reportHeard i node fields).budgetStage i).2 (b.car i).learned.mode.group f).finish := rfl

/-- What learning a report leaves (R27, R30, R37). -/
structure Block.Hears (b : Block) (i : CarIx) (node : Nat) (l : Learned) (h : Block) : Prop where
  car         : h.car i = { b.car i with bound := some node, learned := l }
  others      : ∀ j, j ≠ i → h.car j = b.car j
  active      : h.active = if b.fallback then
    { b.active with cars := b.active.cars.set i.val { b.conf i with present := true } i.isLt } else b.active
  commitments : h.commitments = b.commitments.map (heardAgain i (b.car i).learned.silent)
  queue       : h.queue = b.queue
  plan        : h.plan = b.plan
  fallback    : h.fallback = b.fallback
  settleTimer : h.settleTimer = b.settleTimer
  manual      : h.manual = b.manual
  evalDue     : h.evalDue = b.evalDue
  cport       : h.cport = b.cport
  gport       : (b.car i).learned.silent = false → h.gport = b.gport
  rest        : h.xfer = b.xfer ∧ h.gen = b.gen ∧ h.derate = b.derate ∧ h.aEff = b.aEff ∧ h.mgmt = b.mgmt ∧
    h.pendingTable = b.pendingTable

theorem heardAgain_not_silent (i : CarIx) (c : Commitment) : heardAgain i false c = c := if_neg fun h => nomatch h.2

theorem Block.makePresent_eq (b : Block) (i : CarIx) : b.makePresent i = { b with active := if b.fallback then
    { b.active with cars := b.active.cars.set i.val { b.conf i with present := true } i.isLt } else b.active } := by
  unfold Block.makePresent
  split
  · rfl
  · rfl

/-- The record of a car that has been heard (R27). -/
def Car.hearing (c : Car) (node : Nat) (l : Learned) : Car := { c with bound := some node, learned := l }

theorem Block.learnReport_eq (b : Block) (i : CarIx) (node : Nat) (fields : List Byte) : b.learnReport i node fields =
    (b.makePresent i).modCar i fun c => c.hearing node
      { c.learned.learn fields with heard := true, silent := false, reportTimer := some b.active.plan.tSilent } := rfl

theorem Block.car_makePresent (b : Block) (i j : CarIx) : (b.makePresent i).car j = b.car j := by
  rw [b.makePresent_eq]; rfl

theorem Block.car_learnReport (b : Block) (i j : CarIx) (node : Nat) (fields : List Byte) :
    (b.learnReport i node fields).car j = if j = i then (b.car i).hearing node (b.heardPart i fields) else b.car j := by
  rw [b.learnReport_eq, Block.car_modCar, b.car_makePresent, b.car_makePresent]
  rfl

theorem Block.reportHeard_hears (b : Block) (i : CarIx) (node : Nat) (fields : List Byte) :
    b.Hears i node (b.heardPart i fields) (b.reportHeard i node fields) := by
  have hcar := fun j => b.car_learnReport i j node fields
  have hrest : ∃ v, b.learnReport i node fields = { b with
      active := if b.fallback then
        { b.active with cars := b.active.cars.set i.val { b.conf i with present := true } i.isLt } else b.active
      cars := v } := by
    rw [b.learnReport_eq, b.makePresent_eq]
    exact ⟨_, rfl⟩
  obtain ⟨v, hv⟩ := hrest
  unfold Block.reportHeard
  cases hs : (b.car i).learned.silent with
  | false =>
    rw [if_neg (by decide)]
    refine
      { car := (hcar i).trans (if_pos rfl), others := fun j hj => (hcar j).trans (if_neg hj), active := by rw [hv]
        commitments := ?_, queue := by rw [hv], plan := by rw [hv], fallback := by rw [hv], settleTimer := by rw [hv]
        manual := by rw [hv], evalDue := by rw [hv], cport := by rw [hv], gport := fun _ => by rw [hv]
        rest := by rw [hv]; exact ⟨rfl, rfl, rfl, rfl, rfl, rfl⟩ }
    rw [hv, hs]
    exact (List.map_id'' (heardAgain_not_silent i) _).symm
  | true =>
    rw [if_pos rfl]
    have ho := (b.learnReport i node fields).carNotice_only i .heard
    have hp := Block.cport_carNotice (b.learnReport i node fields) i .heard
    have hclear : (b.learnReport i node fields).clearSilent i =
      (((b.learnReport i node fields).carNotice i .heard).unholdSilent i).trigger := rfl
    rw [hclear]
    generalize (b.learnReport i node fields).carNotice i .heard = d at ho hp
    have hcar' : ∀ j, (d.unholdSilent i).trigger.car j = (b.learnReport i node fields).car j := ho.car_eq
    generalize b.learnReport i node fields = e at hcar hv ho hp hcar'
    refine
      { car := (hcar' i).trans ((hcar i).trans (if_pos rfl)), others := fun j hj => (hcar' j).trans ((hcar j).trans (if_neg hj))
        active := ho.active.trans (by rw [hv]), commitments := ?_, queue := ho.sameQueue.trans (by rw [hv])
        plan := ho.plan.trans (by rw [hv]), fallback := ho.fallback.trans (by rw [hv])
        settleTimer := ho.settleTimer.trans (by rw [hv]), manual := ho.manual.trans (by rw [hv])
        evalDue := ho.evalDue.trans (by rw [hv]), cport := hp.trans (by rw [hv]), gport := fun k => by rw [hs] at k; cases k
        rest := ⟨ho.xfer.trans (by rw [hv]), ho.gen.trans (by rw [hv]), ho.derate.trans (by rw [hv]), ho.aEff.trans (by rw [hv]),
          ho.mgmt.trans (by rw [hv]), ho.pendingTable.trans (by rw [hv])⟩ }
    have hmap : ((d.unholdSilent i).trigger).commitments =
        d.commitments.map fun c => if c.car = i then { c with silentHold := false, releaseTimer := none } else c := rfl
    rw [hmap, ho.commitments, hv, hs]
    exact List.map_congr_left fun c _ => by simp [heardAgain]

/-! ### The Budget Unit's stage (R58 to R69) -/

theorem Block.commitment?_heardAgain {b h : Block} {i : CarIx} {silent : Bool}
    (hc : h.commitments = b.commitments.map (heardAgain i silent)) :
    h.commitment? i = (b.commitment? i).map (heardAgain i silent) := by
  have hcar : ∀ c, (heardAgain i silent c).car = c.car := fun c => by unfold heardAgain; split <;> rfl
  rw [Block.commitment?, hc, List.find?_map, Block.commitment?]
  simp only [Function.comp_def, hcar]

theorem Block.commitment?_withoutCommitment (b : Block) (i : CarIx) : (b.withoutCommitment i).commitment? i = none := by
  simp [Block.commitment?, Block.withoutCommitment]

theorem Block.commitment?_congr {b c : Block} (h : c.commitments = b.commitments) (i : CarIx) :
    c.commitment? i = b.commitment? i := by
  rw [Block.commitment?, h, Block.commitment?]

section
variable {b : Block} {i : CarIx} {k : Commitment}

theorem Block.budgetStage_ended (hk : b.commitment? i = some k) (hm : (b.car i).learned.motion = .stopped) :
    b.budgetStage i = (b.endByReport i k, .ended k) := by
  unfold Block.budgetStage
  rw [hk]
  exact if_pos hm

theorem Block.budgetStage_advanced (hk : b.commitment? i = some k) (hm : (b.car i).learned.motion ≠ .stopped) :
    b.budgetStage i = (b.advance i k (b.car i).learned.motion, .quiet) := by
  unfold Block.budgetStage
  rw [hk]
  exact if_neg hm

theorem Block.budgetStage_strays (hk : b.commitment? i = none) (hm : (b.car i).learned.motion ≠ .stopped)
    (hp : b.plan.emergency = true) : b.budgetStage i = (b.adopt i true, .unauthorized) := by
  unfold Block.budgetStage
  rw [hk]
  exact (if_neg hm).trans (if_pos hp)

theorem Block.budgetStage_adopts (hk : b.commitment? i = none) (hm : (b.car i).learned.motion ≠ .stopped)
    (hp : b.plan = .adopt) : b.budgetStage i = (b.adopt i false, .quiet) := by
  unfold Block.budgetStage
  rw [hk]
  exact (if_neg hm).trans ((if_neg (by rw [hp]; decide)).trans (if_pos hp))

theorem Block.budgetStage_idle (hk : b.commitment? i = none) (hm : (b.car i).learned.motion = .stopped ∨ b.plan = .normal) :
    b.budgetStage i = (b, .quiet) := by
  unfold Block.budgetStage
  rw [hk]
  dsimp only
  rcases hm with hm | hm
  · exact if_pos hm
  · split
    · rfl
    · rw [if_neg (by rw [hm]; decide), if_neg (by rw [hm]; decide)]

theorem Plan.emergency_cases (p : Plan) : p.emergency = true ∨ p = .adopt ∨ p = .normal := by
  cases p with
  | adopt => exact .inr (.inl rfl)
  | normal => exact .inr (.inr rfl)
  | _ => exact .inl rfl

end

/-- What the Budget Unit's stage leaves: the list, the settle timer, the triggers' marks and the car's entry aside. -/
structure Block.Budgets (b : Block) (i : CarIx) (c : Block) : Prop where
  plan     : c.plan = b.plan
  active   : c.active = b.active
  fallback : c.fallback = b.fallback
  cars     : ∀ j, c.car j = b.car j
  manual   : c.manual = b.manual
  evalDue  : c.evalDue = b.evalDue
  cport    : c.cport = b.cport
  gport    : c.gport = b.gport
  entry    : b.entry? i = none → c.entry? i = none

theorem Block.Budgets.refl (b : Block) (i : CarIx) : b.Budgets i b := ⟨rfl, rfl, rfl, fun _ => rfl, rfl, rfl, rfl, rfl, id⟩

theorem Block.endByReport_budgets (b : Block) (i : CarIx) (k : Commitment) : b.Budgets i (b.endByReport i k) := by
  unfold Block.endByReport
  split
  · exact ⟨rfl, rfl, rfl, fun _ => rfl, rfl, rfl, rfl, rfl, id⟩
  · exact ⟨rfl, rfl, rfl, fun _ => rfl, rfl, rfl, rfl, rfl, id⟩

theorem Block.advance_budgets (b : Block) (i : CarIx) (k : Commitment) (m : Motion) : b.Budgets i (b.advance i k m) := by
  unfold Block.advance
  split
  · exact ⟨rfl, rfl, rfl, fun _ => rfl, rfl, rfl, rfl, rfl, id⟩
  · split
    · exact ⟨rfl, rfl, rfl, fun _ => rfl, rfl, rfl, rfl, rfl, id⟩
    · exact .refl b i
  · exact .refl b i

theorem Block.adopt_budgets (b : Block) (i : CarIx) (u : Bool) : b.Budgets i (b.adopt i u) := by
  unfold Block.adopt
  dsimp only
  split
  · exact ⟨rfl, rfl, rfl, fun _ => rfl, rfl, rfl, rfl, rfl, fun _ => b.entry?_withoutEntry i⟩
  · exact ⟨rfl, rfl, rfl, fun _ => rfl, rfl, rfl, rfl, rfl, id⟩

theorem Block.budgetStage_budgets (b : Block) (i : CarIx) : b.Budgets i (b.budgetStage i).1 := by
  cases hk : b.commitment? i with
  | some k =>
    by_cases hm : (b.car i).learned.motion = .stopped
    · rw [Block.budgetStage_ended hk hm]
      exact b.endByReport_budgets i k
    · rw [Block.budgetStage_advanced hk hm]
      exact b.advance_budgets i k _
  | none =>
    by_cases hm : (b.car i).learned.motion = .stopped
    · rw [Block.budgetStage_idle hk (.inl hm)]
      exact .refl b i
    · rcases b.plan.emergency_cases with hp | hp | hp
      · rw [Block.budgetStage_strays hk hm hp]
        exact b.adopt_budgets i true
      · rw [Block.budgetStage_adopts hk hm hp]
        exact b.adopt_budgets i false
      · rw [Block.budgetStage_idle hk (.inr hp)]
        exact .refl b i

/-- A car that stops holds no commitment (R58, R59, R61). -/
theorem Block.budgetStage_alone {b : Block} {i : CarIx} (hm : (b.car i).learned.motion = .stopped) :
    (b.budgetStage i).1.commitment? i = none := by
  cases hk : b.commitment? i with
  | none => rw [Block.budgetStage_idle hk (.inl hm)]; exact hk
  | some k =>
    rw [Block.budgetStage_ended hk hm]
    refine (Block.commitment?_congr (b := b.withoutCommitment i) ?_ i).trans (b.commitment?_withoutCommitment i)
    unfold Block.endByReport
    split
    · rfl
    · rfl

/-- What an accepted report's first two stages offer to the third (R27). -/
theorem Block.Hears.offered {b h : Block} {i : CarIx} {node : Nat} {l : Learned} (hh : b.Hears i node l h) :
    b.Offered i l (h.budgetStage i).2 (h.budgetStage i).1 := by
  have hb := h.budgetStage_budgets i
  have hactive := hb.active.trans hh.active
  have hlearned : (h.car i).learned = l := by rw [hh.car]
  have hcomm := Block.commitment?_heardAgain hh.commitments
  have hconf : ((h.budgetStage i).1.conf i).cls = (b.conf i).cls ∧
      ((h.budgetStage i).1.conf i).recallLanding = (b.conf i).recallLanding := by
    unfold Block.conf
    rw [hactive]
    split
    · have hset : (b.active.cars.set i.val { b.active.cars.get i with present := true } i.isLt).get i =
          { b.active.cars.get i with present := true } := by simp [Vector.get_eq_getElem]
      exact ⟨(congrArg CarConf.cls hset).trans rfl, (congrArg CarConf.recallLanding hset).trans rfl⟩
    · exact ⟨rfl, rfl⟩
  exact
    { plan := hb.plan.trans hh.plan
      record := by
        rw [hactive]
        split
        · rfl
        · rfl
      cls := hconf.1
      landing := hconf.2
      manual := hb.manual.trans hh.manual
      car := ⟨_, (hb.cars i).trans hh.car⟩
      others := fun j hj => (hb.cars j).trans (hh.others j hj)
      alone := fun hm => Block.budgetStage_alone (hlearned ▸ hm)
      ended := fun k hk => by
        unfold Block.endedBy at hk
        split at hk
        · rename_i hm
          rw [hk] at hcomm
          refine ⟨heardAgain i (b.car i).learned.silent k, by rw [Block.budgetStage_ended hcomm (hlearned ▸ hm)], ?_⟩
          unfold heardAgain
          split
          · exact ⟨rfl, rfl⟩
          · exact ⟨rfl, rfl⟩
        · cases hk
      other := fun hk => by
        by_cases hm : l.motion = .stopped
        · rw [Block.endedBy, if_pos hm] at hk
          rw [hk] at hcomm
          rw [Block.budgetStage_idle hcomm (.inl (hlearned ▸ hm)), if_neg fun k => k.2.1 hm]
        · cases hc : b.commitment? i with
          | some k =>
            rw [hc] at hcomm
            rw [Block.budgetStage_advanced hcomm (hlearned ▸ hm), if_neg fun k => by cases k.2.2]
          | none =>
            rw [hc] at hcomm
            rcases h.plan.emergency_cases with hp | hp | hp
            · rw [Block.budgetStage_strays hcomm (hlearned ▸ hm) hp, if_pos ⟨hh.plan ▸ hp, hm, rfl⟩]
            · rw [Block.budgetStage_adopts hcomm (hlearned ▸ hm) hp, if_neg fun k => by rw [← hh.plan, hp] at k; cases k.1]
            · rw [Block.budgetStage_idle hcomm (.inr hp), if_neg fun k => by rw [← hh.plan, hp] at k; cases k.1] }

end Sys2Proof.Machine
end

section
/-! The frames that a report's step sends first for its car: the notice of its placing, its RECALL order, its order sent again (R100,
R106, R116). -/

namespace Sys2Proof.Machine

/-! ### What a placing sends -/

theorem Block.place_eq (b : Block) (i : CarIx) : b.place i =
    if b.placedState i (b.car i).learned.mode = .recallPending then b.orderRecall i
    else b.move i (b.placedState i (b.car i).learned.mode) := by
  unfold Block.place
  exact b.placing_eq i (b.car i).learned.mode (fun st => b.move i st) (b.orderRecall i)

/-- The stage behind the placing (R27). -/
def Block.stageRest (b : Block) (i : CarIx) (res : BudgetResult) : Block :=
  (((b.noteFault i).takeResult i res).parkIfOpen i).arrivalCheck i

theorem Block.stageBefore_eq (b : Block) (i : CarIx) (res : BudgetResult) :
    b.stageBefore i res = (if (b.car i).state.unplaced then b.place i else b).stageRest i res := rfl

theorem Block.stageRest_keeps (b : Block) (i : CarIx) (res : BudgetResult) : b.KeepsBudget (b.stageRest i res) :=
  (((b.shows_view i).noteFault.takeResult res).parkIfOpen).arrivalCheck.keeps

/-- From the evaluation of its stage on, a report's step keeps what is known, and the ports only send. -/
theorem Block.reportEnd_keeps (b : Block) (i : CarIx) (was : ModeGroup) (f : Frame) :
    b.KeepsPlan ((b.takeEvaluation.modeComparison i was).relayReport i f).finish :=
  ((b.takeEvaluation_keeps.trans (Block.modeComparison_keeps _ i was)).trans
    (Block.relayReport_only _ i f).toKeepsBudget).toKeepsPlan.trans (Block.finish_keeps _)

/-- The notice of a placing names the state the car is placed in (R106, R107). -/
theorem Block.gport_place {b : Block} {i : CarIx} (hs : (b.car i).state.firstHeard = true) (hr : b.gport.roomOwn = true) :
    ∃ m, (b.place i).gport.tx = b.gport.tx ++ ownItem (b.ownFrame 0 .planNotice
      [b.plan.code, byteOf (carNo i), (b.placedState i (b.car i).learned.mode).code, 0]) :: m := by
  have hplacing := b.placedState_placing i (b.car i).learned.mode
  have hne : ∀ r : RState, r.placing = true → (b.car i).state ≠ r := fun r hr he => by
    rw [he] at hs
    cases r with
    | vacant | unheard => cases hr
    | _ => cases hs
  have hreason : ∀ (c : Car) (r : RState), r.placing = true → (moveReason c r .none).code = 0 := fun c r hr => by
    cases r with
    | inGroup | firefighter | heldOut | excluded | recallPending | standing => simp [moveReason, RState.isParked]; rfl
    | _ => cases hr
  rw [b.place_eq]
  by_cases hp : b.placedState i (b.car i).learned.mode = .recallPending
  · rw [if_pos hp, hp]
    unfold Block.orderRecall
    have hset : ((b.setOrder i (some (.recall (b.conf i).recallLanding))).car i).state = (b.car i).state :=
      (congrArg Car.state (b.car_modCar_same i fun c => { c with order := some (.recall (b.conf i).recallLanding) })).trans rfl
    obtain ⟨m, hm⟩ := Block.gport_move (b := b.setOrder i (some (.recall (b.conf i).recallLanding))) (i := i)
      (dest := .recallPending) .none true (by rw [hset]; exact hne _ rfl) hr
    rw [hreason _ _ rfl] at hm
    obtain ⟨m', hm'⟩ := (Block.arrivalCheck_keeps ((b.setOrder i (some (.recall (b.conf i).recallLanding))).move i .recallPending
      .none true) i).gport.grows
    exact ⟨m ++ m', by rw [hm', hm]; simp; rfl⟩
  · rw [if_neg hp]
    have h := Block.gport_move (b := b) (i := i) .none false (hne _ hplacing) hr
    rwa [hreason _ _ hplacing] at h

/-- The RECALL order of a placing goes to the car's bound node (R100, R111). -/
theorem Block.cport_orderRecall {b : Block} {i : CarIx} {n : Nat} (hb : (b.car i).bound = some n) (hq : b.entry? i = none)
    (hr : b.cport.roomOwn = true) : ∃ m, (b.orderRecall i).cport.tx = b.cport.tx ++
      ownItem (b.ownFrame (byteOf n) .carOrder [byteOf (carNo i), 1, byteOf (b.conf i).recallLanding]) :: m := by
  unfold Block.orderRecall
  have hcar := b.car_modCar_same i fun c => { c with order := some (.recall (b.conf i).recallLanding) }
  have hitem : (b.setOrder i (some (.recall (b.conf i).recallLanding))).orderItem i =
      ownItem (b.ownFrame (byteOf n) .carOrder [byteOf (carNo i), 1, byteOf (b.conf i).recallLanding]) := by
    unfold Block.orderItem Block.busNode Block.setOrder
    rw [hcar]
    dsimp only
    rw [hb]
    rfl
  have hp := Block.move_places (b := b.setOrder i (some (.recall (b.conf i).recallLanding))) (i := i) (dest := .recallPending)
    .none hq (by decide) rfl
  rw [show ((b.setOrder i (some (.recall (b.conf i).recallLanding))).car i).order = some (.recall (b.conf i).recallLanding) from
    congrArg Car.order hcar, Option.isSome_some, if_pos rfl, hitem] at hp
  obtain ⟨hu, hn⟩ := b.cport.roomOwn_iff.mp hr
  exact (Block.arrivalCheck_keeps _ i).cport.behind (hp.tx hu hn)

/-! ### The frames of the stage -/

section
variable {b c : Block} {i : CarIx} {l : Learned} {res : BudgetResult} {node : Nat}

/-- The stage leaves a block alone whose car stays outside the group (R115, R118). -/
theorem Block.Offered.stageBefore_outside (h : b.Offered i l res c) (hs : (b.car i).state = .firefighter ∨ (b.car i).state = .heldOut)
    (hend : (b.car i).state = .heldOut → b.endedState i .heldOut l = .heldOut) : c.stageBefore i res = c := by
  obtain ⟨n, hn⟩ := h.car
  have hstate : (c.car i).state = (b.car i).state := by rw [hn]
  have hne : ∀ r : RState, r ≠ .firefighter → r ≠ .heldOut → (c.car i).state ≠ r := fun r h1 h2 k => by
    rw [← hstate, k] at hs
    exact hs.elim h1 h2
  have hun : (c.car i).state.unplaced = false := by
    rw [hstate]
    rcases hs with hs | hs <;> rw [hs] <;> rfl
  have hunf : (c.car i).state.unfailing = false := by
    rw [hstate]
    rcases hs with hs | hs <;> rw [hs] <;> rfl
  have hnote : c.noteFault i = c := if_neg fun k => k.1.elim (hne .recalling nofun nofun) (hne .diverting nofun nofun)
  have hres : c.takeResult i res = c := by
    cases hk : b.endedBy i l with
    | none =>
      rw [h.other hk]
      split
      · refine if_neg fun k => ?_
        rcases k with k | k
        · exact hne .landed nofun nofun k
        · rcases (RState.isParked_iff _).mp k with k | k
          · exact hne .parked nofun nofun k
          · exact hne .parkedAway nofun nofun k
      · rfl
    | some k =>
      obtain ⟨k', rfl, hu, -⟩ := h.ended k hk
      unfold Block.takeResult Block.takeEnd
      dsimp only
      rw [hunf, if_neg (by decide)]
      split
      · rename_i hu'
        refine if_pos ?_
        rw [hstate, h.plan]
        rcases hs with hs | hs
        · exact .inl hs
        · right
          by_contra hn
          have hfail : b.endFails i .heldOut l := ⟨⟨k, hk, hu ▸ hu'⟩, nofun, nofun, nofun, hn⟩
          have := hend hs
          rw [Block.endedState_fails hfail] at this
          cases this
      · rw [if_neg fun k => k.elim (hne .recalling nofun nofun) (hne .diverting nofun nofun),
          if_neg (hne .recallPending nofun nofun)]
  have hdoor : c.parkIfOpen i = c := if_neg fun k => hne .landed nofun nofun k.1
  rw [Block.stageBefore_eq, hun, if_neg (by decide), Block.stageRest, hnote, hres, hdoor,
    Block.arrivalCheck_of_not_pending (hne .recallPending nofun nofun)]

/-- The stage of a run that fell short counts the attempt (R116). -/
theorem Block.Offered.stageBefore_short (h : b.Offered i l res c) (hf : b.fallsShort i l = true) :
    c.stageBefore i res = (((c.noteFault i).countAttempt i).parkIfOpen i).arrivalCheck i := by
  obtain ⟨n, hn⟩ := h.car
  have hs : (b.car i).state = .recalling ∨ (b.car i).state = .diverting := by
    simpa using (Bool.and_eq_true_iff.mp hf).1
  have hnoted : ((c.noteFault i).car i).state = (b.car i).state ∧ ((c.noteFault i).car i).learned = l := by
    have hshow := (c.shows_view i).noteFault
    have hview : (c.view i).noteFault.car.state = (c.car i).state ∧ (c.view i).noteFault.car.learned = (c.car i).learned := by
      unfold View.noteFault
      split
      · exact ⟨rfl, rfl⟩
      · exact ⟨rfl, rfl⟩
    rw [hshow.car.state, hshow.car.learned, hview.1, hview.2, hn]
    exact ⟨rfl, rfl⟩
  obtain ⟨hstate, hlearned⟩ := hnoted
  have hun : (c.car i).state.unplaced = false := by
    rw [hn]
    show (b.car i).state.unplaced = false
    rcases hs with hs | hs <;> rw [hs] <;> rfl
  have hunf : (b.car i).state.unfailing = false := by rcases hs with hs | hs <;> rw [hs] <;> rfl
  cases hk : b.endedBy i l with
  | none =>
    unfold Block.fallsShort at hf
    rw [hk, Bool.and_false] at hf
    cases hf
  | some k =>
    obtain ⟨k', rfl, hu, hr⟩ := h.ended k hk
    have hshort : k.unauthorized = false ∧ k.atTarget l = false := by
      unfold Block.fallsShort at hf
      rw [hk] at hf
      simpa using (Bool.and_eq_true_iff.mp hf).2
    have hend : (c.noteFault i).takeResult i (.ended k') = (c.noteFault i).countAttempt i := by
      unfold Block.takeResult Block.takeEnd
      dsimp only
      rw [hstate, hlearned, hunf, hu, hr, hshort.1, hshort.2, if_neg (by decide), if_neg (by decide), if_pos hs, if_neg (by decide)]
    rw [Block.stageBefore_eq, hun, if_neg (by decide), Block.stageRest, hend]

end

end Sys2Proof.Machine
end

section
/-! The frames that the whole step of a report sends first for its car (R27, R100, R106, R116). -/

namespace Sys2Proof.Machine

/-- Only a car of automatic mode is placed with a RECALL order (R107). -/
theorem Block.automatic_of_placed_pending {b : Block} {i : CarIx} {m : CarMode} (h : b.placedState i m = .recallPending) :
    b.plan.emergency = true ∧ m.group = .automatic := by
  have he : b.plan.emergency = true := by
    by_contra he
    rw [Block.placedState_of_not_emergency (by simpa using he)] at h
    cases h
  refine ⟨he, ?_⟩
  by_contra hm
  rw [Block.placedState_of_outside he hm] at h
  cases m <;> cases h

theorem Block.entry?_noteFault (b : Block) (i : CarIx) : (b.noteFault i).entry? i = b.entry? i := by
  unfold Block.noteFault
  split
  · rfl
  · rfl

theorem Block.noteFault_order (b : Block) (i : CarIx) : (b.noteFault i).cport = b.cport ∧ (b.noteFault i).active = b.active ∧
    ((b.noteFault i).car i).order = (b.car i).order ∧ ((b.noteFault i).car i).attempts = (b.car i).attempts ∧
    ((b.noteFault i).car i).bound = (b.car i).bound := by
  unfold Block.noteFault
  split
  · have hcar := b.car_modCar_same i fun c => { c with faultSeen := true }
    exact ⟨rfl, rfl, (congrArg Car.order hcar).trans rfl, (congrArg Car.attempts hcar).trans rfl, (congrArg Car.bound hcar).trans rfl⟩
  · exact ⟨rfl, rfl, rfl, rfl, rfl⟩

theorem Block.orderItem_eq {b : Block} {i : CarIx} {n : Nat} {p : Nat} (hb : (b.car i).bound = some n)
    (ho : (b.car i).order = some (.recall p) ∨ (b.car i).order = some (.divert p)) :
    b.orderItem i = ownItem (b.ownFrame (byteOf n) .carOrder [byteOf (carNo i), orderKindCode (b.car i).order, byteOf p]) := by
  unfold Block.orderItem Block.busNode
  rw [hb]
  rcases ho with ho | ho
  · rw [ho]
  · rw [ho]

section
variable {b c : Block} {i : CarIx} {l : Learned} {res : BudgetResult} {node : Nat}

theorem Block.Offered.ownFrame (h : b.Offered i l res c) (dst : Byte) (k : FrameKind) (p : List Byte) :
    c.ownFrame dst k p = b.ownFrame dst k p := by
  unfold Block.ownFrame Block.own
  rw [h.record]

theorem Block.Offered.placedState (h : b.Offered i l res c) (m : CarMode) : c.placedState i m = b.placedState i m := by
  unfold Block.placedState
  rw [h.plan, h.cls]

theorem Block.Offered.learned (h : b.Offered i l res c) : (c.car i).learned = l := by
  obtain ⟨n, hn⟩ := h.car
  rw [hn]

theorem Block.Offered.state (h : b.Offered i l res c) : (c.car i).state = (b.car i).state := by
  obtain ⟨n, hn⟩ := h.car
  rw [hn]

/-- The stage of a car first heard begins with its placing (R107). -/
theorem Block.Offered.stageBefore_first (h : b.Offered i l res c) (hs : (b.car i).state.firstHeard = true) :
    c.stageBefore i res = (c.place i).stageRest i res := by
  rw [Block.stageBefore_eq, if_pos]
  rw [h.state, ← RState.firstHeard_eq_unplaced]
  exact hs

/-- A car outside the group that is automatic again is placed by the mode comparison (R109). -/
theorem Block.modeComparison_places {was : ModeGroup} (he : c.plan.emergency = true)
    (hs : (c.car i).state = .firefighter ∨ (c.car i).state = .heldOut) (hm : (c.car i).learned.mode.group = .automatic) :
    c.modeComparison i was = c.place i := by
  unfold Block.modeComparison
  dsimp only
  rw [if_neg (by rw [he]; decide), hm]
  rcases hs with hs | hs
  · rw [hs]; rfl
  · rw [hs]; rfl

/-- From the placing of a car first heard on, its step keeps what is known, and the ports only send. -/
theorem Block.Offered.first_keeps (h : b.Offered i l res c) (hs : (b.car i).state.firstHeard = true) (was : ModeGroup) (f : Frame) :
    (c.place i).KeepsPlan (c.reportStage i res was f).finish := by
  have hend := ((c.place i).stageRest i res).reportEnd_keeps i was f
  have hstage : c.reportStage i res was f =
      (((c.stageBefore i res).takeEvaluation).modeComparison i was).relayReport i f := rfl
  rw [hstage, h.stageBefore_first hs]
  exact ((c.place i).stageRest_keeps i res).toKeepsPlan.trans hend

/-- Frames queued behind a port's queue stay first behind it while the port only sends. -/
theorem Port.Sends.stays {p q r : Port} {x : TxItem} {m : List TxItem} (h : q.Sends r) (hq : q.tx = p.tx ++ x :: m) :
    ∃ m, r.tx = p.tx ++ x :: m := by
  obtain ⟨m', hm'⟩ := h.grows
  exact ⟨m ++ m', by rw [hm', hq, List.append_assoc, List.cons_append]⟩

theorem Block.Offered.tells_notice (h : b.Offered i l res c) (hs : (b.car i).state.firstHeard = true) (hg : c.gport = b.gport)
    (hr : b.gport.roomOwn = true) (was : ModeGroup) (f : Frame) :
    ∃ m, (c.reportStage i res was f).finish.gport.tx = b.gport.tx ++
      ownItem (b.ownFrame 0 .planNotice [b.plan.code, byteOf (carNo i), (b.placedState i l.mode).code, 0]) :: m := by
  obtain ⟨m, hm⟩ := Block.gport_place (b := c) (i := i) (by rw [h.state]; exact hs) (by rw [hg]; exact hr)
  rw [h.ownFrame, h.plan, h.learned, h.placedState, hg] at hm
  exact (h.first_keeps hs was f).gport.stays hm

/-- The RECALL order of a placing, in the words of the statement. -/
theorem Block.Offered.place_orders (h : b.Offered i l res c) (hp : b.placedState i l.mode = .recallPending)
    (hb : (c.car i).bound = some node) (hq : c.entry? i = none) (hc : c.cport = b.cport) (hr : b.cport.roomOwn = true) :
    ∃ m, (c.place i).cport.tx = b.cport.tx ++
      ownItem (b.ownFrame (byteOf node) .carOrder [byteOf (carNo i), 1, byteOf (b.conf i).recallLanding]) :: m := by
  obtain ⟨m, hm⟩ := Block.cport_orderRecall hb hq (by rw [hc]; exact hr)
  rw [h.landing, h.ownFrame, hc] at hm
  refine ⟨m, ?_⟩
  rw [Block.place_eq, h.learned, h.placedState, if_pos hp]
  exact hm

theorem Block.Offered.tells_ordered (h : b.Offered i l res c) (hd : c.evalDue = false) (ho : b.ordersAnew i l = true)
    (hb : (c.car i).bound = some node) (hq : c.entry? i = none) (hc : c.cport = b.cport) (hr : b.cport.roomOwn = true)
    (was : ModeGroup) (f : Frame) : ∃ m, (c.reportStage i res was f).finish.cport.tx = b.cport.tx ++
      ownItem (b.ownFrame (byteOf node) .carOrder [byteOf (carNo i), 1, byteOf (b.conf i).recallLanding]) :: m := by
  obtain ⟨hp, hcase⟩ := Bool.and_eq_true_iff.mp ho
  replace hp := of_decide_eq_true hp
  obtain ⟨m, hm⟩ := h.place_orders hp hb hq hc hr
  obtain ⟨he, hauto⟩ := Block.automatic_of_placed_pending hp
  have houtside : (b.car i).state = .firefighter ∨ (b.car i).state = .heldOut →
      ((b.car i).state = .heldOut → b.endedState i .heldOut l = .heldOut) →
      (c.place i).KeepsPlan (c.reportStage i res was f).finish := fun hs hend => by
    have hstage : c.restoreStage i res was = c.place i := by
      have hquiet : c.takeEvaluation = c := if_neg (by rw [hd]; decide)
      rw [Block.restoreStage_eq, h.stageBefore_outside hs hend, hquiet,
        Block.modeComparison_places (by rw [h.plan]; exact he) (by rw [h.state]; exact hs) (by rw [h.learned]; exact hauto)]
    rw [Block.reportStage, hstage]
    exact (Block.relayReport_only _ i f).toKeepsPlan.trans (Block.finish_keeps _)
  have hkeeps : (c.place i).KeepsPlan (c.reportStage i res was f).finish := by
    cases hs : (b.car i).state with
    | vacant | unheard => exact h.first_keeps (by rw [hs]; rfl) was f
    | firefighter => exact houtside (.inl hs) fun k => nomatch hs.symm.trans k
    | heldOut =>
      rw [hs] at hcase
      exact houtside (.inr hs) fun _ => of_decide_eq_true hcase
    | _ => rw [hs] at hcase; cases hcase
  exact hkeeps.cport.stays hm

/-- From the counted attempt of a run that fell short on, its step keeps what is known, and the ports only send. -/
theorem Block.Offered.short_keeps (h : b.Offered i l res c) (hf : b.fallsShort i l = true) (was : ModeGroup) (f : Frame) :
    ((c.noteFault i).countAttempt i).KeepsPlan (c.reportStage i res was f).finish := by
  have hstage : c.reportStage i res was f =
      (((c.stageBefore i res).takeEvaluation).modeComparison i was).relayReport i f := rfl
  have hrest := ((((c.noteFault i).countAttempt i).shows_view i).parkIfOpen).arrivalCheck.keeps
  rw [hstage, h.stageBefore_short hf]
  exact hrest.toKeepsPlan.trans (Block.reportEnd_keeps _ i was f)

theorem Block.Offered.tells_resent (h : b.Offered i l res c) {p : Nat}
    (hp : (b.car i).order = some (.recall p) ∨ (b.car i).order = some (.divert p)) (hf : b.fallsShort i l = true)
    (hlim : (b.car i).attempts + 1 < b.active.plan.attemptLimit)
    (hb : (c.car i).bound = some node) (hq : c.entry? i = none) (hc : c.cport = b.cport) (hr : b.cport.roomOwn = true)
    (was : ModeGroup) (f : Frame) : ∃ m, (c.reportStage i res was f).finish.cport.tx = b.cport.tx ++
      ownItem (b.ownFrame (byteOf node) .carOrder [byteOf (carNo i), orderKindCode (b.car i).order, byteOf p]) :: m := by
  obtain ⟨n, hn⟩ := h.car
  have horder : (c.car i).order = (b.car i).order := by rw [hn]
  have hattempts : (c.car i).attempts = (b.car i).attempts := by rw [hn]
  obtain ⟨hport, hactive, ho, ha, hbound⟩ := c.noteFault_order i
  have hsends := (Block.countAttempt_sends (b := c.noteFault i) (i := i) ((c.entry?_noteFault i).trans hq)).1
  have hitem : (c.noteFault i).orderItem i =
      ownItem (b.ownFrame (byteOf node) .carOrder [byteOf (carNo i), orderKindCode (b.car i).order, byteOf p]) := by
    rw [Block.orderItem_eq (hbound.trans hb) (by rw [ho, horder]; exact hp), ho, horder, ← h.ownFrame]
    unfold Block.ownFrame Block.own
    rw [hactive]
  have hsome : (b.car i).order.isSome = true := by rcases hp with hp | hp <;> rw [hp] <;> rfl
  rw [hactive, ha, hattempts, h.record, ho, horder, hsome, Bool.and_true, if_pos (decide_eq_true hlim), hitem] at hsends
  obtain ⟨hu, hroom⟩ := (c.noteFault i).cport.roomOwn_iff.mp (by rw [hport, hc]; exact hr)
  have htx := hsends.tx hu hroom
  rw [hport, hc] at htx
  exact (h.short_keeps hf was f).cport.behind htx

theorem Block.Offered.tells (h : b.Offered i l res c) (hd : c.evalDue = false) (hentry : b.entry? i = none → c.entry? i = none)
    (hb : (c.car i).bound = some node) (hc : c.cport = b.cport) (hg : (b.car i).learned.silent = false → c.gport = b.gport)
    (was : ModeGroup) (f : Frame) : b.Tells i (byteOf node) l (c.reportStage i res was f).finish where
  notice hs hsil hr := h.tells_notice hs (hg hsil) hr was f
  ordered ho hq hr := h.tells_ordered hd ho hb (hentry hq) hc hr was f
  resent _ hp hf hlim hq hr := h.tells_resent hp hf hlim hb (hentry hq) hc hr was f

end

end Sys2Proof.Machine
end

section
/-! An unauthorized run that ends fails its car (R68). -/

namespace Sys2Proof.Machine

@[simp] theorem View.state_noteFault (v : View) : v.noteFault.car.state = v.car.state := by
  unfold View.noteFault
  split
  · rfl
  · rfl

/-- The states that the end of an unauthorized run does not fail (R68). -/
def RState.endures : RState → Bool
  | .failed | .conflict | .firefighter => true
  | _ => false

theorem RState.endures_eq_false {st : RState} : st.endures = false ↔ st ≠ .failed ∧ st ≠ .conflict ∧ st ≠ .firefighter := by
  cases st <;> decide

theorem Block.endFails_iff {b : Block} {i : CarIx} {st : RState} {l : Learned} : b.endFails i st l ↔
    (∃ k, b.endedBy i l = some k ∧ k.unauthorized = true) ∧ st.endures = false ∧ b.plan ≠ .normal := by
  rw [RState.endures_eq_false, Block.endFails, and_assoc, and_assoc]

section
variable {b c : Block} {i : CarIx} {l : Learned} {res : BudgetResult}

/-- A car of automatic mode is placed in no state that endures the end of an unauthorized run (R107). -/
theorem Block.placedState_endures (hm : l.mode.group = .automatic) : (b.placedState i l.mode).endures = false := by
  cases he : b.plan.emergency with
  | false => rw [Block.placedState_of_not_emergency he]; rfl
  | true =>
    rw [Block.placedState_of_automatic he hm]
    split
    · rfl
    · split
      · rfl
      · rfl

theorem Block.arrivedState_endures {st : RState} {o : Option CarOrder} (hp : st.placing = true) (hs : st.endures = false) :
    (b.arrivedState st o l).endures = false := by
  by_cases hr : st = .recallPending
  · subst hr
    rcases b.arrivedState_pending_cases o l with k | k | k
    · rw [k]; rfl
    · rw [k]; rfl
    · generalize b.arrivedState .recallPending o l = x at k
      cases x with
      | parked | parkedAway => rfl
      | _ => cases k
  · rwa [Block.arrivedState_of_ne hr fun he => by rw [he] at hp; cases hp]

/-- The state in which a report's run finds its car, placed or not. -/
theorem Block.Offered.run_endures (h : b.Offered i l res c) (hm : l.mode.group = .automatic)
    (hs : (b.car i).state.endures = false) :
    ((if (c.view i).car.state.unplaced then c.viewPlace i (c.view i) else c.view i).noteFault).car.state.endures = false := by
  rw [View.state_noteFault]
  split
  · rename_i hun
    rw [h.view_state, ← RState.firstHeard_eq_unplaced] at hun
    have hplacing := b.placedState_placing i l.mode
    have hne : (c.view i).car.state ≠ b.placedState i l.mode := fun k => by
      rw [h.view_state] at k
      rw [← k] at hplacing
      cases hst : (b.car i).state with
      | vacant | unheard => rw [hst] at hplacing; cases hplacing
      | _ => rw [hst] at hun; cases hun
    rw [(h.viewPlace_places h.view_count.1 (by rw [h.view_state]; exact RState.outside_of_firstHeard hun) hne).state]
    exact Block.arrivedState_endures hplacing (Block.placedState_endures hm)
  · rw [h.view_state]
    exact hs

/-- The comparison leaves a FAILED car of automatic mode (R109). -/
theorem Block.modeComparison_failed {was : ModeGroup} (hs : (c.car i).state = .failed)
    (hm : (c.car i).learned.mode.group = .automatic) : c.modeComparison i was = c := by
  unfold Block.modeComparison
  dsimp only
  rw [hs, hm]
  split
  · rfl
  · rfl

/-- A report of automatic mode that ends an unauthorized run fails its car (R68). -/
theorem Block.Offered.reported_failed (h : b.Offered i l res c) (hm : l.mode.group = .automatic) {k : Commitment}
    (hk : b.endedBy i l = some k) (hu : k.unauthorized = true) (hp : b.plan ≠ .normal) (hs : (b.car i).state.endures = false)
    (was : ModeGroup) (f : Frame) : ((c.reportStage i res was f).finish.car i).state = .failed ∧
      ((c.reportStage i res was f).finish.car i).reason = .unauthorized := by
  have hshow := c.stageBefore_shows i res
  have hw := h.run_endures hm hs
  rw [Block.viewStage_eq] at hshow
  generalize (if (c.view i).car.state.unplaced then c.viewPlace i (c.view i) else c.view i).noteFault = w at hshow hw
  rw [h.viewRun_fails (Block.endFails_iff.mpr ⟨⟨k, hk, hu⟩, hw, hp⟩)] at hshow
  have hne : w.car.state ≠ .failed := fun k => by rw [k] at hw; cases hw
  have hview : (w.move b.plan .failed .unauthorized).car = w.car.enter .failed .unauthorized := Car.moved_of_ne _ hne
  have hstate : ((c.stageBefore i res).car i).state = .failed := by rw [hshow.car.state, hview]; rfl
  have hreason : ((c.stageBefore i res).car i).reason = .unauthorized := by rw [hshow.car.reason, hview]; rfl
  have hlearned : ((c.stageBefore i res).car i).learned = l := (hshow.keeps.known i).learned.trans h.learned
  have hquiet : ∀ d : Block, (d.car i).state = .failed → d.takeEvaluation.car i = d.car i := fun d hd =>
    Block.takeEvaluation_other (by rw [hd]; rfl) (by rw [hd]; decide)
  rw [Block.reportStage, Block.restoreStage_eq]
  generalize c.stageBefore i res = d at hstate hreason hlearned
  have hcomp : (d.takeEvaluation).modeComparison i was = d.takeEvaluation := by
    refine Block.modeComparison_failed ?_ ?_
    · rw [hquiet d hstate]; exact hstate
    · rw [hquiet d hstate, hlearned]; exact hm
  have hcar : ((d.takeEvaluation.relayReport i f).takeEvaluation).car i = d.car i := by
    have hrelay := (d.takeEvaluation.relayReport_only i f).car_eq i
    rw [hquiet _ (by rw [hrelay, hquiet d hstate]; exact hstate), hrelay, hquiet d hstate]
  have hpass := (d.takeEvaluation.relayReport i f).finish_passed i
  rw [hcar] at hpass
  have hpending : (d.car i).state ≠ .recallPending := by rw [hstate]; decide
  rw [hcomp]
  exact ⟨(hpass.grant.keepsState hpending).trans hstate, (hpass.kept hpending).1.trans hreason⟩

end

end Sys2Proof.Machine
end

section
/-! What the Budget Unit's stage of an accepted report makes of the commitments, the settle timer and the queue (R58 to R69). -/

namespace Sys2Proof.Machine

/-! ### One rule per operation -/

section
variable {b : Block} {i : CarIx} {k : Commitment} {m : Motion}

/-- A granted run that moves is starting (R58). -/
theorem Block.advance_granted (hp : k.phase = .granted) : (b.advance i k m).commitments =
    b.commitments.map (startedUp i b.active.plan.tAccel) ∧ (b.advance i k m).settleTimer = b.settleTimer := by
  unfold Block.advance
  rw [hp]
  exact ⟨rfl, rfl⟩

/-- A starting run that has run up frees the slot with settle (R59). -/
theorem Block.advance_running (hp : k.phase = .starting) : (b.advance i k .running).commitments = b.commitments.map (ranUp i) ∧
    (b.advance i k .running).settleTimer =
      if b.active.plan.tSettle = 0 then b.settleTimer else some b.active.plan.tSettle := by
  unfold Block.advance
  rw [hp]
  exact ⟨rfl, rfl⟩

theorem Block.advance_starting (hp : k.phase = .starting) : b.advance i k .starting = b := by
  unfold Block.advance
  rw [hp]
  rfl

theorem Block.advance_underWay (hp : k.phase = .running ∨ k.phase = .adopted) : b.advance i k m = b := by
  unfold Block.advance
  rcases hp with hp | hp
  · rw [hp]
  · rw [hp]

/-- A run that stops ends its commitment; one that was starting frees the slot with settle (R61). -/
theorem Block.endByReport_leaves (b : Block) (i : CarIx) (k : Commitment) :
    (b.endByReport i k).commitments = b.commitments.filter (fun x => x.car ≠ i) ∧ (b.endByReport i k).settleTimer =
      if k.phase = .starting ∧ b.active.plan.tSettle ≠ 0 then some b.active.plan.tSettle else b.settleTimer := by
  unfold Block.endByReport
  by_cases hp : k.phase = .starting
  · rw [if_pos hp]
    refine ⟨rfl, ?_⟩
    by_cases ht : b.active.plan.tSettle = 0
    · rw [if_neg fun h => h.2 ht]
      exact if_pos ht
    · rw [if_pos ⟨hp, ht⟩]
      exact if_neg ht
  · rw [if_neg hp, if_neg fun h => hp h.1]
    exact ⟨rfl, rfl⟩

/-- An adopted run is the last in the list, and its car has no entry (R67, R69). -/
theorem Block.adopt_leaves (b : Block) (i : CarIx) (u : Bool) : (b.adopt i u).commitments =
    b.commitments ++ [adoption i (b.figuresOfReport i) b.active.plan.tRun u] ∧ i ∉ queueCars (b.adopt i u).queue := by
  refine ⟨?_, Block.entry?_eq_none.mp ?_⟩
  · unfold Block.adopt
    split
    · rfl
    · rfl
  · unfold Block.adopt
    cases he : b.entry? i with
    | none => exact he
    | some e => exact b.entry?_withoutEntry i

end

/-! ### The stage behind a heard report -/

section
variable {b h : Block} {i : CarIx} {node : Nat} {l : Learned} {k : Commitment}

theorem Block.Hears.record (hh : b.Hears i node l h) : h.active.plan = b.active.plan := by
  rw [hh.active]
  split
  · rfl
  · rfl

theorem Block.Hears.learned (hh : b.Hears i node l h) : (h.car i).learned = l := by rw [hh.car]

theorem phase_heardAgain (i : CarIx) (silent : Bool) (k : Commitment) :
    (heardAgain i silent k).phase = k.phase := by
  unfold heardAgain
  split
  · rfl
  · rfl

/-- The stage of a car that moves on in its run. -/
theorem Block.Hears.stage_moves (hh : b.Hears i node l h) (hk : b.commitment? i = some k) (hm : l.motion ≠ .stopped) :
    (h.budgetStage i).1 = h.advance i (heardAgain i (b.car i).learned.silent k) l.motion := by
  have hcomm := Block.commitment?_heardAgain hh.commitments
  rw [hk] at hcomm
  rw [Block.budgetStage_advanced hcomm (by rw [hh.learned]; exact hm), hh.learned]

theorem Block.Hears.stage_granted (hh : b.Hears i node l h) (hk : b.commitment? i = some k) (hm : l.motion ≠ .stopped)
    (hp : k.phase = .granted) : (h.budgetStage i).1.commitments =
      (b.commitments.map (heardAgain i (b.car i).learned.silent)).map (startedUp i b.active.plan.tAccel) ∧
      (h.budgetStage i).1.settleTimer = b.settleTimer := by
  obtain ⟨hc, hs⟩ := Block.advance_granted (b := h) (i := i) (m := l.motion)
    ((phase_heardAgain i (b.car i).learned.silent k).trans hp)
  rw [hh.record, hh.commitments] at hc
  rw [hh.stage_moves hk hm]
  exact ⟨hc, hs.trans hh.settleTimer⟩

theorem Block.Hears.stage_running (hh : b.Hears i node l h) (hk : b.commitment? i = some k) (hm : l.motion = .running)
    (hp : k.phase = .starting) : (h.budgetStage i).1.commitments =
      (b.commitments.map (heardAgain i (b.car i).learned.silent)).map (ranUp i) ∧
      (h.budgetStage i).1.settleTimer =
        if b.active.plan.tSettle = 0 then b.settleTimer else some b.active.plan.tSettle := by
  obtain ⟨hc, hs⟩ := Block.advance_running (b := h) (i := i) ((phase_heardAgain i (b.car i).learned.silent k).trans hp)
  rw [hh.commitments] at hc
  rw [hh.record, hh.settleTimer] at hs
  rw [hh.stage_moves hk (by rw [hm]; decide), hm]
  exact ⟨hc, hs⟩

/-- A run whose motion is in step with its phase goes on unchanged. -/
theorem Block.Hears.stage_kept (hh : b.Hears i node l h) (hk : b.commitment? i = some k) (hm : l.motion ≠ .stopped)
    (hp : (l.motion = .starting ∧ k.phase = .starting) ∨ k.phase = .running ∨ k.phase = .adopted) :
    (h.budgetStage i).1.commitments = b.commitments.map (heardAgain i (b.car i).learned.silent) ∧
      (h.budgetStage i).1.settleTimer = b.settleTimer := by
  have hphase := phase_heardAgain i (b.car i).learned.silent k
  rw [hh.stage_moves hk hm]
  rcases hp with ⟨hm', hp⟩ | hp
  · rw [hm', Block.advance_starting (hphase.trans hp)]
    exact ⟨hh.commitments, hh.settleTimer⟩
  · rw [Block.advance_underWay (hp.imp hphase.trans hphase.trans)]
    exact ⟨hh.commitments, hh.settleTimer⟩

theorem Block.Hears.stage_stopped (hh : b.Hears i node l h) (hk : b.commitment? i = some k) (hm : l.motion = .stopped) :
    (h.budgetStage i).1.commitments =
      (b.commitments.map (heardAgain i (b.car i).learned.silent)).filter (fun x => x.car ≠ i) ∧
      (h.budgetStage i).1.settleTimer =
        if k.phase = .starting ∧ b.active.plan.tSettle ≠ 0 then some b.active.plan.tSettle else b.settleTimer := by
  have hcomm := Block.commitment?_heardAgain hh.commitments
  rw [hk] at hcomm
  obtain ⟨hc, hs⟩ := h.endByReport_leaves i (heardAgain i (b.car i).learned.silent k)
  rw [hh.commitments] at hc
  rw [phase_heardAgain, hh.record, hh.settleTimer] at hs
  rw [Block.budgetStage_ended hcomm (by rw [hh.learned]; exact hm)]
  exact ⟨hc, hs⟩

/-- Only a commitment of the car is changed when SILENT is cleared (R37). -/
theorem Block.Hears.commitments_alone (hh : b.Hears i node l h) (hk : b.commitment? i = none) :
    h.commitments = b.commitments := by
  refine hh.commitments.trans ((List.map_congr_left fun c hc => if_neg fun k => ?_).trans (List.map_id _))
  exact Bool.false_ne_true (by simpa [k.1] using List.find?_eq_none.mp hk c hc)

/-- The figures of a run adopted from a report (R67, R69). -/
theorem Block.Hears.figures (hh : b.Hears i node l h) : h.figuresOfReport i =
    if b.fallback then { ds := 0, dh := 0, dl := 0 } else figuresAdopted (b.conf i) l.load l.dir := by
  unfold Block.figuresOfReport
  rw [hh.fallback, hh.learned]
  cases hf : b.fallback with
  | true => rfl
  | false =>
    have hactive := hh.active
    rw [hf, if_neg (by decide)] at hactive
    rw [Block.conf, hactive]
    rfl

/-- A car that moves without a commitment has its run adopted, as unauthorized or not (R67, R69). -/
theorem Block.Hears.stage_adopts (hh : b.Hears i node l h) (hk : b.commitment? i = none) (hm : l.motion ≠ .stopped) {u : Bool}
    (hp : if u then b.plan.emergency = true else b.plan = .adopt) : (h.budgetStage i).1.commitments = b.commitments ++
      [adoption i (if b.fallback then { ds := 0, dh := 0, dl := 0 } else figuresAdopted (b.conf i) l.load l.dir)
        b.active.plan.tRun u] ∧ i ∉ queueCars (h.budgetStage i).1.queue := by
  have hcomm := Block.commitment?_heardAgain hh.commitments
  rw [hk] at hcomm
  have hstage : (h.budgetStage i).1 = h.adopt i u := by
    cases u with
    | true => rw [Block.budgetStage_strays hcomm (by rw [hh.learned]; exact hm) (by rw [hh.plan]; exact hp)]
    | false => rw [Block.budgetStage_adopts hcomm (by rw [hh.learned]; exact hm) (by rw [hh.plan]; exact hp)]
  obtain ⟨hc, hq⟩ := h.adopt_leaves i u
  rw [hh.commitments_alone hk, hh.figures, hh.record] at hc
  rw [hstage]
  exact ⟨hc, hq⟩

theorem Block.Hears.stage_idle (hh : b.Hears i node l h) (hk : b.commitment? i = none) (hm : l.motion = .stopped ∨ b.plan = .normal) :
    (h.budgetStage i).1.commitments = b.commitments := by
  have hcomm := Block.commitment?_heardAgain hh.commitments
  rw [hk] at hcomm
  rw [Block.budgetStage_idle hcomm (hm.imp (fun hm => by rw [hh.learned]; exact hm) fun hp => by rw [hh.plan]; exact hp)]
  exact hh.commitments_alone hk

end

end Sys2Proof.Machine
end

section
/-! An accepted report as a whole: what is learned, what stays, and what becomes of commitments and restoration record (R26, R27). -/

namespace Sys2Proof.Machine

/-! ### Motion codes (R26) -/

theorem Motion.ofByte_stopped {x : Byte} : Motion.ofByte x = .stopped ↔ x = 0 := by
  unfold Motion.ofByte
  split
  · simpa
  · split
    · simpa
    · simpa

theorem Motion.ofByte_running {x : Byte} (h0 : x ≠ 0) (h1 : x ≠ 1) : Motion.ofByte x = .running := by
  rw [Motion.ofByte, if_neg h0, if_neg h1]

/-! ### What an accepted report leaves -/

/-- What an accepted report makes of the car table and keeps of the rest (R22, R27). -/
structure Block.Learns (b : Block) (i : CarIx) (node : Nat) (l : Learned) (t : Block) : Prop where
  bound   : (t.car i).bound = some node
  learned : (t.car i).learned = l
  others  : ∀ j, j ≠ i → (b.car j).SameKnown (t.car j)
  rx      : t.cport.rx = b.cport.rx
  lines   : t.xfer = b.xfer ∧ t.gen = b.gen ∧ t.derate = b.derate ∧ t.aEff = b.aEff
  record  : t.active.plan = b.active.plan
  mgmt    : t.mgmt = b.mgmt
  pending : t.pendingTable = b.pendingTable
  active  : t.active = if b.fallback then
    { b.active with cars := b.active.cars.set i.val { b.conf i with present := true } i.isLt } else b.active

theorem Block.acceptReport_learns (b : Block) (i : CarIx) (node : Nat) (fields : List Byte) (f : Frame) :
    b.Learns i node (b.heardPart i fields) (b.acceptReport i node fields f) := by
  have hk := b.acceptReport_keepBase i node fields f
  have hcar := fun j => b.car_learnReport i j node fields
  have hrest : ∃ v, b.learnReport i node fields = { b with
      active := if b.fallback then
        { b.active with cars := b.active.cars.set i.val { b.conf i with present := true } i.isLt } else b.active
      cars := v } := by
    rw [b.learnReport_eq, b.makePresent_eq]
    exact ⟨_, rfl⟩
  generalize b.acceptReport i node fields f = t at hk
  generalize b.learnReport i node fields = d at hk hcar hrest
  obtain ⟨v, rfl⟩ := hrest
  have hthis := (hcar i).trans (if_pos rfl)
  exact
    { bound := (hk.known i).bound.trans (by rw [hthis]; rfl)
      learned := (hk.known i).learned.trans (by rw [hthis]; rfl)
      others := fun j hj => (hcar j).trans (if_neg hj) ▸ hk.known j
      rx := hk.cport.rx
      lines := ⟨hk.xfer, hk.gen, hk.derate, hk.aEff⟩
      record := by
        rw [hk.active]
        dsimp only
        split
        · rfl
        · rfl
      mgmt := hk.mgmt
      pending := hk.pendingTable
      active := hk.active }

/-- From the Budget Unit's stage on, a report's step only adds to the commitments and keeps the settle timer (R27). -/
structure Block.Ends (c t : Block) : Prop where
  commitments : c.commitments <+: t.commitments
  settleTimer : t.settleTimer = c.settleTimer
  queue       : ∀ i, i ∈ queueCars t.queue → i ∈ queueCars c.queue

theorem Block.acceptReport_ends (b : Block) (i : CarIx) (node : Nat) (fields : List Byte) (f : Frame) :
    ((b.reportHeard i node fields).budgetStage i).1.Ends (b.acceptReport i node fields f) := by
  rw [b.acceptReport_eq]
  generalize (b.reportHeard i node fields).budgetStage i = x
  have hk := (x.1.restoreStage_keeps i x.2 (b.car i).learned.mode.group).trans
    (Block.relayReport_only _ i f).toKeepsBudget
  have hk' : x.1.KeepsBudget (x.1.reportStage i x.2 (b.car i).learned.mode.group f) := hk
  generalize x.1.reportStage i x.2 (b.car i).learned.mode.group f = d at hk'
  have hpre := d.finish_commitments
  rw [hk'.commitments] at hpre
  exact ⟨hpre, d.finish_keeps.settleTimer.trans hk'.settleTimer, fun j hj => hk'.queue.1 j (d.finish_keeps.queue.1 j hj)⟩

/-- An accepted report of automatic mode that ends an unauthorized run fails its car (R68). -/
theorem Block.acceptReport_fails {b : Block} {i : CarIx} {fields : List Byte} {k : Commitment} (node : Nat) (f : Frame)
    (hstop : (b.heardPart i fields).motion = .stopped) (hm : (b.heardPart i fields).mode.group = .automatic)
    (hk : b.commitment? i = some k) (hu : k.unauthorized = true) (hp : b.plan ≠ .normal)
    (hs : (b.car i).state.endures = false) : ((b.acceptReport i node fields f).car i).state = .failed ∧
      ((b.acceptReport i node fields f).car i).reason = .unauthorized :=
  (b.reportHeard_hears i node fields).offered.reported_failed hm ((if_pos hstop).trans hk) hu hp hs _ f

/-- What an accepted report makes of its car's restoration record, in the words of the statement (R106 to R118). -/
theorem Block.acceptReport_restored {b : Block} {i : CarIx} (hd : b.evalDue = false) (node : Nat) (fields : List Byte) (f : Frame) :
    b.Restored i (byteOf node) (b.heardPart i fields) (b.acceptReport i node fields f) := by
  have hh := b.reportHeard_hears i node fields
  have hb := (b.reportHeard i node fields).budgetStage_budgets i
  have hdue := hb.evalDue.trans (hh.evalDue.trans hd)
  have hentry : b.entry? i = none → ((b.reportHeard i node fields).budgetStage i).1.entry? i = none := fun hn =>
    hb.entry ((Block.entry?_congr hh.queue i).trans hn)
  have hbound : (((b.reportHeard i node fields).budgetStage i).1.car i).bound = some node := by rw [hb.cars, hh.car]
  rw [b.acceptReport_eq]
  exact hh.offered.restored hdue hentry f (hh.offered.tells hdue hentry hbound (hb.cport.trans hh.cport)
    (fun hs => hb.gport.trans (hh.gport hs)) _ f)

end Sys2Proof.Machine
end

section
/-! The statement about an accepted report (R26 to R118). -/

namespace Sys2Proof.Machine

/-- The bytes of a car report behind its car number. -/
def reportFields (landing between motion dir door load mode fault ack : Byte) : List Byte :=
  [landing, between, motion, dir, door, load, mode, fault, ack]

/-- A report from the bound node, or for an unbound car, is accepted (R25, R27). -/
theorem exec_carReport_accepted {s : State} {i : CarIx} {dst src : Byte} {fields : List Byte} {f : Frame}
    (hf : f = { dst := dst, src := src, kind := 1, payload := byteOf (carNo i) :: fields }) (ht : s.Takes .c f .carReport)
    (hh : s.HearsReport i src) (hb : (s.toBlock.car i).bound = none ∨ (s.toBlock.car i).bound = some src.toNat) :
    exec .carReport s = .next { s with toBlock := s.carHeadTaken.acceptReport i src.toNat fields f } := by
  have haccept := State.onCarReport_hears hf hh
  rw [exec_carReport ht, haccept]
  rcases hb with hb | hb
  · rw [hb]
  · rw [hb]
    dsimp only
    rw [if_pos rfl]

/-- What the taken head of the FIFO leaves of the record of an accepted report. -/
theorem State.restored_of_headTaken {s : State} {i : CarIx} {src : Byte} {l : Learned} {t : Block}
    (h : s.carHeadTaken.Restored i src l t) : s.toBlock.Restored i src l t := by
  have htx : s.carHeadTaken.cport.tx = s.cport.tx := s.cport.tx_takeHead
  have hroom : s.carHeadTaken.cport.roomOwn = s.cport.roomOwn := s.cport.roomOwn_takeHead
  have hordered := h.ordered
  have hresent := h.resent
  rw [htx, hroom] at hordered hresent
  exact
    { plan := h.plan, state := h.state, manual := h.manual, serves := h.serves, order := h.order, attempts := h.attempts
      reason := h.reason, fault := h.fault, alarm := h.alarm, landed := h.landed, left := h.left, notice := h.notice
      ordered := hordered, resent := hresent, others := h.others }

/-- The landing byte of a report as R26 treats it, in the words of the statement. -/
theorem landingOf_eq (landing between : Byte) : landingOf landing between =
    if between ≠ 0 ∧ 127 ≤ landing.toNat then 126 else min landing.toNat 127 := by
  have h : min landing.toNat 127 = 127 ↔ 127 ≤ landing.toNat := by omega
  simp only [landingOf, h]

end Sys2Proof.Machine

open Sys2Proof Sys2Proof.Machine

/-- Settles O19: a report's step is learning, the Budget Unit's stage, the Restoration Controller's, the Relay Unit's and the pass;
the rules about each stage give the clauses. -/
theorem reportIsLearned : Obligations.ReportIsLearned := by
  unfold Obligations.ReportIsLearned
  intro s i dst src landing between motion dir door load mode fault ack f ht hh hbound
  have hexec := exec_carReport_accepted (f := f) (fields := reportFields landing between motion dir door load mode fault ack) rfl ht hh hbound
  generalize hfields : reportFields landing between motion dir door load mode fault ack = fields at hexec
  have hlearns := s.carHeadTaken.acceptReport_learns i src.toNat fields f
  have hends := s.carHeadTaken.acceptReport_ends i src.toNat fields f
  have hfails := fun k => Block.acceptReport_fails (b := s.carHeadTaken) (i := i) (fields := fields) (k := k) src.toNat f
  have hrestored := fun hd => Block.acceptReport_restored (b := s.carHeadTaken) (i := i) hd src.toNat fields f
  have hears := s.carHeadTaken.reportHeard_hears i src.toNat fields
  have hmotion : (s.carHeadTaken.heardPart i fields).motion = Motion.ofByte motion := by rw [← hfields]; rfl
  have hmode : (s.carHeadTaken.heardPart i fields).mode = CarMode.ofByte mode := by rw [← hfields]; rfl
  have hpart : s.carHeadTaken.heardPart i fields =
      { heard := true
        landing := landingOf landing between
        between := between ≠ 0, motion := Motion.ofByte motion, dir := dirOfByte dir, door := Door.ofByte door
        load := Load.ofByte load, mode := CarMode.ofByte mode, fault := fault, ackMode := PowerMode.ofByte ack
        silent := false, reportTimer := some s.active.plan.tSilent
        firstForeign := (s.toBlock.car i).learned.firstForeign } := by rw [← hfields]; rfl
  rw [landingOf_eq] at hpart
  generalize s.carHeadTaken.acceptReport i src.toNat fields f = t at hexec hlearns hends hfails hrestored
  generalize s.carHeadTaken.reportHeard i src.toNat fields = h at hears hends
  generalize s.carHeadTaken.heardPart i fields = l at hlearns hfails hrestored hears hmotion hmode hpart
  have hmoves : motion ≠ 0 → l.motion ≠ .stopped := fun hm k => hm (Motion.ofByte_stopped.mp (hmotion.symm.trans k))
  have hstops : motion = 0 → l.motion = .stopped := fun hm => hmotion.trans (Motion.ofByte_stopped.mpr hm)
  obtain ⟨hx, hg, hd, ha⟩ := hlearns.lines
  refine ⟨_, hexec, hlearns.bound, hlearns.learned.trans hpart, hlearns.others, hlearns.rx, hx, hg, hd, ha, hlearns.record,
    hlearns.mgmt, hlearns.pending, hlearns.active, ⟨fun k hk => ⟨fun hm hp => ?_, fun hm hp => ?_, fun hm hm1 hp => ?_,
      fun hm hp => ?_, fun hm => ?_, fun hm hauto hu hp h1 h2 h3 => ?_⟩, fun hk => ⟨fun hm hp => ?_, fun hm hp => ?_,
      fun hm => ?_⟩⟩, fun _ hset => ?_⟩
  · obtain ⟨hc, hs⟩ := hears.stage_granted hk (hmoves hm) hp
    exact ⟨hc ▸ hends.commitments, hends.settleTimer.trans hs⟩
  · obtain ⟨hc, hs⟩ := hears.stage_kept hk (hmoves (by rw [hm]; decide)) (.inl ⟨hmotion.trans (by rw [hm]; rfl), hp⟩)
    exact ⟨hc ▸ hends.commitments, hends.settleTimer.trans hs⟩
  · obtain ⟨hc, hs⟩ := hears.stage_running hk (hmotion.trans (Motion.ofByte_running hm hm1)) hp
    exact ⟨hc ▸ hends.commitments, hends.settleTimer.trans hs⟩
  · obtain ⟨hc, hs⟩ := hears.stage_kept hk (hmoves hm) (.inr hp)
    exact ⟨hc ▸ hends.commitments, hends.settleTimer.trans hs⟩
  · obtain ⟨hc, hs⟩ := hears.stage_stopped hk (hstops hm)
    exact ⟨hc ▸ hends.commitments, hends.settleTimer.trans hs⟩
  · have hgroup : l.mode.group = .automatic := by rw [hmode, hauto]; rfl
    exact hfails k (hstops hm) hgroup hk hu hp (RState.endures_eq_false.mpr ⟨h2, h3, h1⟩)
  · obtain ⟨hc, hq⟩ := hears.stage_adopts (u := true) hk (hmoves hm) hp
    rw [hlearns.learned]
    exact ⟨hc ▸ hends.commitments, fun hi => hq (hends.queue i hi)⟩
  · obtain ⟨hc, hq⟩ := hears.stage_adopts (u := false) hk (hmoves hm) hp
    rw [hlearns.learned]
    exact ⟨hc ▸ hends.commitments, fun hi => hq (hends.queue i hi)⟩
  · exact hears.stage_idle hk (hm.imp_left hstops) ▸ hends.commitments
  · have hr := State.restored_of_headTaken (hrestored hset.2)
    rw [hlearns.learned]
    rwa [show byteOf src.toNat = src by simp [byteOf]] at hr
end

section
/-! The demand arithmetic (chapter 3): how far the quotients are rounded, and the ranges of percentage, power and surge term for a
car record in range. -/

namespace Sys2Proof.Machine

/-! ### A record in range (R20) -/

/-- The ranges that the figures of a run rest on. -/
theorem CarConf.inRange_figures {c : CarConf} (hc : c.inRange = true) :
    (1 ≤ c.pm ∧ c.pm ≤ 2500) ∧ (100 ≤ c.s ∧ c.s ≤ 300) ∧ (5 ≤ c.f ∧ c.f ≤ 40) ∧ (30 ≤ c.b ∧ c.b ≤ 60) ∧ c.r ≤ 100 := by
  simp only [CarConf.inRange, decide_eq_true_eq] at hc
  omega

/-! ### Effective load and imbalance (R44, R45) -/

theorem effHigh_bounds (load : Load) (d : Dir) : 0 ≤ effHigh load d ∧ effHigh load d ≤ 150 := by
  cases load with
  | known n => simp only [effHigh]; omega
  | unknown => cases d <;> decide

theorem effLow_bounds (load : Load) (d : Dir) : 0 ≤ effLow load d ∧ effLow load d ≤ 150 := by
  cases load with
  | known n => simp only [effLow]; omega
  | unknown => cases d <;> decide

/-- The imbalance is at most 9/4 of `100 - b`, which is met at balance 60 with load 150. -/
theorem imbalance_natAbs_le {c : CarConf} (hc : c.inRange = true) (d : Dir) {e : Int} (he : 0 ≤ e ∧ e ≤ 150) :
    4 * (imbalance c d e).natAbs ≤ 9 * (100 - c.b) := by
  obtain ⟨-, -, -, hb, -⟩ := c.inRange_figures hc
  cases d with
  | up => simp only [imbalance]; omega
  | down => simp only [imbalance]; omega

/-! ### Running percentage (R46) -/

theorem ceilDiv_le_iff {n d k : Nat} (hd : 0 < d) : ceilDiv n d ≤ k ↔ n ≤ d * k := by
  rw [ceilDiv, ← Nat.ceilDiv_eq_add_pred_div]
  exact ceilDiv_le_iff_le_mul hd

theorem runPercent_natCast (c : CarConf) (n : Nat) :
    runPercent c n = c.f + (ceilDiv (n * (100 - c.f)) (100 - c.b) : Nat) := by
  simp [runPercent]

/-- Only a returning drive goes below its start factor. -/
theorem runPercent_of_neg (c : CarConf) {j : Int} (hj : j < 0) :
    runPercent c j = c.f - (if c.drive = .ret then j.natAbs * c.r / (100 - c.b) else 0 : Nat) := by
  rw [runPercent, if_neg (by omega)]
  cases c.drive <;> simp

theorem runPercent_le {c : CarConf} (hc : c.inRange = true) {j : Int} (hj : 4 * j.natAbs ≤ 9 * (100 - c.b)) :
    runPercent c j ≤ 219 := by
  obtain ⟨-, -, hf, hb, -⟩ := c.inRange_figures hc
  rcases Int.lt_or_le j 0 with hneg | hpos
  · rw [runPercent_of_neg c hneg]
    omega
  · lift j to Nat using hpos with n
    have hprod : 4 * (n * (100 - c.f)) ≤ 4 * ((100 - c.b) * (219 - c.f)) := calc
      4 * (n * (100 - c.f)) = 4 * n * (100 - c.f) := by ring
      _ ≤ 9 * (100 - c.b) * (100 - c.f) := Nat.mul_le_mul_right _ hj
      _ = (100 - c.b) * (9 * (100 - c.f)) := by ring
      _ ≤ (100 - c.b) * (4 * (219 - c.f)) := Nat.mul_le_mul_left _ (by omega)
      _ = 4 * ((100 - c.b) * (219 - c.f)) := by ring
    have hceil : ceilDiv (n * (100 - c.f)) (100 - c.b) ≤ 219 - c.f := (ceilDiv_le_iff (by omega)).mpr (by omega)
    rw [runPercent_natCast]
    omega

theorem le_runPercent {c : CarConf} (hc : c.inRange = true) {j : Int} (hj : 4 * j.natAbs ≤ 9 * (100 - c.b)) :
    -220 ≤ runPercent c j := by
  obtain ⟨-, -, hf, -, hr⟩ := c.inRange_figures hc
  rcases Int.lt_or_le j 0 with hneg | hpos
  · have hprod : 4 * (j.natAbs * c.r) ≤ 9 * (100 - c.b) * 100 := calc
      4 * (j.natAbs * c.r) = 4 * j.natAbs * c.r := by ring
      _ ≤ 9 * (100 - c.b) * 100 := Nat.mul_le_mul hj hr
    have hdiv : j.natAbs * c.r / (100 - c.b) ≤ 225 := Nat.div_le_of_le_mul (by omega)
    rw [runPercent_of_neg c hneg]
    split <;> omega
  · lift j to Nat using hpos with n
    rw [runPercent_natCast]
    omega

/-- The percentages of a run, on either side of its load. -/
theorem runPercent_bounds {c : CarConf} (hc : c.inRange = true) (d : Dir) {e : Int} (he : 0 ≤ e ∧ e ≤ 150) :
    -220 ≤ runPercent c (imbalance c d e) ∧ runPercent c (imbalance c d e) ≤ 219 :=
  ⟨le_runPercent hc (imbalance_natAbs_le hc d he), runPercent_le hc (imbalance_natAbs_le hc d he)⟩

/-! ### Power (R47) -/

/-- The two roundings of R47 are one: up, which for a negative percentage is toward zero. -/
theorem powerOf_rounds_up (c : CarConf) (r : Int) :
    c.pm * r ≤ 100 * powerOf c r ∧ 100 * powerOf c r < c.pm * r + 100 := by
  rcases Int.lt_or_le r 0 with hneg | hpos
  · obtain ⟨n, rfl⟩ := Int.exists_eq_neg_ofNat hneg.le
    rw [powerOf, if_neg (by omega), Int.natAbs_neg, Int.natAbs_natCast, Int.mul_neg]
    omega
  · lift r to Nat using hpos with n
    rw [powerOf, if_pos (by omega), Int.toNat_natCast, ceilDiv]
    omega

theorem powerOf_mono (c : CarConf) : Monotone (powerOf c) := by
  intro r r' hle
  have hprod : (c.pm : Int) * r ≤ c.pm * r' := Int.mul_le_mul_of_nonneg_left hle (by omega)
  have hlow := (powerOf_rounds_up c r).2
  have hhigh := (powerOf_rounds_up c r').1
  omega

/-! ### The figures of a run (R43, R48) -/

theorem figuresDir_dh_le {c : CarConf} (hc : c.inRange = true) (load : Load) (d : Dir) :
    (figuresDir c load d).dh ≤ powerOf c 219 :=
  powerOf_mono c (runPercent_bounds hc d (effHigh_bounds load d)).2

theorem le_figuresDir_dl {c : CarConf} (hc : c.inRange = true) (load : Load) (d : Dir) :
    powerOf c (-220) ≤ (figuresDir c load d).dl :=
  powerOf_mono c (runPercent_bounds hc d (effLow_bounds load d)).1

theorem surge_bounds {c : CarConf} (hc : c.inRange = true) : c.pm ≤ surge c ∧ surge c ≤ 3 * c.pm := by
  obtain ⟨-, ⟨hlow, hhigh⟩, -⟩ := c.inRange_figures hc
  have hmin : c.pm * 100 ≤ c.pm * c.s := Nat.mul_le_mul_left _ hlow
  have hmax : c.pm * c.s ≤ c.pm * 300 := Nat.mul_le_mul_left _ hhigh
  rw [surge, ceilDiv]
  omega

theorem Block.figuresOfReport_configured {b : Block} (h : b.fallback = false) (i : CarIx) :
    b.figuresOfReport i = figuresAdopted (b.conf i) (b.car i).learned.load (b.car i).learned.dir := by
  simp [Block.figuresOfReport, h]

end Sys2Proof.Machine
end

section
/-! The statements about the demand arithmetic. -/

open Sys2Proof Sys2Proof.Machine

/-- Settles O23: percentage 219 and −220 bound the running figures, because power is monotone in the percentage, and the surge
term lies between Pm and 3 × Pm. -/
theorem startFigureBounds : Obligations.StartFigureBounds := by
  unfold Obligations.StartFigureBounds
  intro c load d hc g
  obtain ⟨hpm, -⟩ := c.inRange_figures hc
  have hsurge : ((c.pm * c.s + 99) / 100 : Nat) = surge c := rfl
  have hds : g.ds = max g.dh (surge c) := rfl
  have hceil : powerOf c 219 = ((c.pm * 219 + 99) / 100 : Nat) := rfl
  have hfloor : powerOf c (-220) = -((c.pm * 220 / 100 : Nat) : Int) := rfl
  have hdh : g.dh ≤ powerOf c 219 := figuresDir_dh_le hc load d
  have hdl : powerOf c (-220) ≤ g.dl := le_figuresDir_dl hc load d
  obtain ⟨hmin, hmax⟩ := surge_bounds hc
  rw [hsurge]
  exact ⟨hds, hmin, hmax, by omega, by omega, by omega, by omega, by omega⟩

/-- Settles O24: power is rounded up at either sign, and the percentages of a record in range lie between −220 and 219. -/
theorem runningPower : Obligations.RunningPower := by
  unfold Obligations.RunningPower
  refine ⟨fun c r _ => powerOf_rounds_up c r, fun c r _ => ?_, fun _ _ _ => ⟨rfl, rfl⟩, fun c load d hc r hr => ?_⟩
  · obtain ⟨hlow, hhigh⟩ := powerOf_rounds_up c r
    rw [Int.mul_neg (c.pm : Int) r]
    omega
  · have hbounds : -220 ≤ r ∧ r ≤ 219 := by
      rcases hr with rfl | rfl
      · exact runPercent_bounds hc d (effHigh_bounds load d)
      · exact runPercent_bounds hc d (effLow_bounds load d)
    obtain ⟨⟨-, hpm⟩, -⟩ := c.inRange_figures hc
    exact ⟨hbounds.1, hbounds.2, Nat.mul_le_mul hpm (show r.natAbs ≤ 220 by omega)⟩

/-- Settles O25: outside fallback mode the figures of a report are those of an adopted run in its learned direction. -/
theorem adoptedFigures : Obligations.AdoptedFigures := by
  unfold Obligations.AdoptedFigures
  intro b i hb
  rw [Block.figuresOfReport_configured hb]
  refine ⟨fun d hd => ?_, fun hd => ?_⟩
  · rw [hd, figuresAdopted]
  · rw [hd]
    exact ⟨rfl, rfl, rfl⟩
end

section
/-! What keeps the budget in order (R54, R57, R72, R74), and the end of a step, which leaves no work over. -/

namespace Sys2Proof.Machine

/-! ### The budget in order -/

theorem oneHolder_iff (l : List Commitment) : oneHolder l ↔ l.countP Commitment.holdsSlot ≤ 1 := by
  rw [oneHolder, List.countP_eq_length_filter]

theorem Block.slotHolder_eq_none {b : Block} : b.slotHolder = none ↔ b.commitments.countP Commitment.holdsSlot = 0 := by
  simp [Block.slotHolder, List.countP_eq_zero]

theorem Block.commitment?_eq_none {b : Block} {i : CarIx} : b.commitment? i = none ↔ i ∉ listCars b.commitments := by
  simp [Block.commitment?, listCars, List.find?_eq_none]

theorem Block.commitment?_mem {b : Block} {i : CarIx} {c : Commitment} (h : b.commitment? i = some c) :
    c ∈ b.commitments ∧ c.car = i :=
  ⟨List.mem_of_find?_eq_some h, by simpa using List.find?_some h⟩

section
variable {b c : Block}

/-- The order of the budget depends on the list and the queue alone. -/
theorem Block.BudgetOk.congr (h : b.BudgetOk) (hc : c.commitments = b.commitments) (hq : c.queue = b.queue) : c.BudgetOk := by
  obtain ⟨h1, h2, h3, h4, h5⟩ := h
  exact ⟨hc ▸ h1, hq ▸ h2, hc ▸ hq ▸ h3, hc ▸ h4, hq ▸ h5⟩

/-- Entries that leave the queue, or move in it by class, leave the budget in order. -/
theorem Block.BudgetOk.shrink (h : b.BudgetOk) (hc : c.commitments = b.commitments) (hq : QueueShrinks b.queue c.queue) :
    c.BudgetOk where
  listOnce := hc ▸ h.listOnce
  queueOnce := hq.2.1 h.queueOnce
  apart i hi := hc ▸ h.apart i (hq.1 i hi)
  slot := hc ▸ h.slot
  order := hq.2.2 h.order

theorem Block.BudgetOk.keeps (h : b.BudgetOk) (k : b.KeepsBudget c) : c.BudgetOk := h.shrink k.commitments k.queue

theorem Block.BudgetOk.sends (h : b.BudgetOk) (k : b.OnlySends c) : c.BudgetOk := h.keeps k.toKeepsBudget

theorem Block.BudgetOk.modCar (h : b.BudgetOk) (i : CarIx) (f : Car → Car) : (b.modCar i f).BudgetOk := h.congr rfl rfl

/-- A budget without a commitment is in order if its queue is. -/
theorem Block.BudgetOk.emptied (h : b.BudgetOk) (hc : c.commitments = []) (hq : c.queue = b.queue) : c.BudgetOk where
  listOnce := by simp [hc, listCars]
  queueOnce := hq ▸ h.queueOnce
  apart := by simp [hc, listCars]
  slot := by simp [hc, oneHolder]
  order := hq ▸ h.order

/-- The commitment of a car is the only one it has (R54). -/
theorem Block.BudgetOk.unique (h : b.BudgetOk) {i : CarIx} {k x : Commitment} (hk : b.commitment? i = some k)
    (hx : x ∈ b.commitments) (hi : x.car = i) : x = k := by
  obtain ⟨hm, hc⟩ := Block.commitment?_mem hk
  exact List.inj_on_of_nodup_map h.listOnce hx hm (hi.trans hc.symm)

/-- Commitments that keep their cars, none of which comes to hold the slot (R57). -/
theorem Block.BudgetOk.mapped (h : b.BudgetOk) {f : Commitment → Commitment} (hc : c.commitments = b.commitments.map f)
    (hq : c.queue = b.queue) (hcar : ∀ x, (f x).car = x.car)
    (hslot : ∀ x ∈ b.commitments, (f x).holdsSlot = true → x.holdsSlot = true) : c.BudgetOk := by
  have hcars : listCars c.commitments = listCars b.commitments := by simp [hc, listCars, hcar]
  refine ⟨hcars ▸ h.listOnce, hq ▸ h.queueOnce, hcars ▸ hq ▸ h.apart, ?_, hq ▸ h.order⟩
  have hcount : c.commitments.countP Commitment.holdsSlot ≤ b.commitments.countP Commitment.holdsSlot := by
    rw [hc, List.countP_map]
    exact List.countP_mono_left hslot
  exact (oneHolder_iff _).mpr (hcount.trans ((oneHolder_iff _).mp h.slot))

/-- A change of one car's commitment that does not come to hold the slot. -/
theorem Block.BudgetOk.modCommitment (h : b.BudgetOk) (i : CarIx) {f : Commitment → Commitment} (hcar : ∀ x, (f x).car = x.car)
    (hslot : ∀ x ∈ b.commitments, x.car = i → (f x).holdsSlot = true → x.holdsSlot = true) : (b.modCommitment i f).BudgetOk := by
  refine h.mapped rfl rfl (fun x => ?_) fun x hx hs => ?_
  · split
    · exact hcar x
    · rfl
  · split at hs
    · exact hslot x hx ‹_› hs
    · exact hs

/-- Commitments that leave the list. -/
theorem Block.BudgetOk.sublist (h : b.BudgetOk) (hc : c.commitments.Sublist b.commitments) (hq : c.queue = b.queue) : c.BudgetOk where
  listOnce := h.listOnce.sublist (hc.map _)
  queueOnce := hq ▸ h.queueOnce
  apart i hi hm := h.apart i (hq ▸ hi) ((hc.map _).subset hm)
  slot := ((hc.filter _).length_le).trans h.slot
  order := hq ▸ h.order

/-- A commitment that joins the list, of a car that has neither commitment nor entry; the slot was free if it holds it. -/
theorem Block.BudgetOk.append (h : b.BudgetOk) {k : Commitment} (hc : c.commitments = b.commitments ++ [k])
    (hq : QueueShrinks b.queue c.queue) (hlist : k.car ∉ listCars b.commitments) (hqueue : k.car ∉ queueCars c.queue)
    (hslot : k.holdsSlot = true → b.slotHolder = none) : c.BudgetOk where
  listOnce := by
    rw [hc, listCars, List.map_append, List.nodup_append]
    refine ⟨h.listOnce, by simp, fun i hi j hj hij => hlist ?_⟩
    have hj : j = k.car := by simpa using hj
    rw [← hj, ← hij]
    exact hi
  queueOnce := hq.2.1 h.queueOnce
  apart i hi hm := by
    rw [hc, listCars, List.map_append, List.mem_append] at hm
    rcases hm with hm | hm
    · exact h.apart i (hq.1 i hi) hm
    · have hik : i = k.car := by simpa using hm
      exact hqueue (hik ▸ hi)
  slot := by
    rw [oneHolder_iff, hc, List.countP_append]
    by_cases hk : k.holdsSlot = true
    · simp [Block.slotHolder_eq_none.mp (hslot hk), hk]
    · simpa [hk] using (oneHolder_iff _).mp h.slot
  order := hq.2.2 h.order

/-- An entry that joins the queue, of a car that has neither commitment nor entry (R75). -/
theorem Block.BudgetOk.join (h : b.BudgetOk) {e : Entry} (hlist : e.car ∉ listCars b.commitments)
    (hqueue : e.car ∉ queueCars b.queue) : (b.join e).BudgetOk where
  listOnce := h.listOnce
  queueOnce := by
    have hp : (queueCars (insertEntry e b.queue)).Perm (e.car :: queueCars b.queue) :=
      (insertEntry_perm e b.queue).map fun x : Entry => x.car
    exact hp.nodup_iff.mpr (List.nodup_cons.mpr ⟨hqueue, h.queueOnce⟩)
  apart i hi := by
    rcases (mem_queueCars_insert e b.queue i).mp hi with rfl | hi
    · exact hlist
    · exact h.apart i hi
  slot := h.slot
  order := insertEntry_sorted e b.queue h.order

/-! ### A pass and the end of a step -/

/-- A grant makes a commitment for an entry that waits, while the slot is free (R56, R82, R85). -/
theorem Block.BudgetOk.grantEntry (h : b.BudgetOk) {e : Entry} (he : e ∈ b.queue) (hfree : b.slotHolder = none)
    (noted : List CarIx) : (b.grantEntry e noted).BudgetOk :=
  have hg := b.grantEntry_grants e noted
  have hqueue : e.car ∉ queueCars (b.grantEntry e noted).queue := by
    rw [hg.queue, b.queueCars_committed]
    simp
  h.append hg.list (b.grantEntry_keeps e noted).queue (h.apart e.car (List.mem_map_of_mem he)) hqueue fun _ => hfree

theorem Block.BudgetOk.takeTrigger (h : b.BudgetOk) : b.takeTrigger.BudgetOk := by
  unfold Block.takeTrigger
  split
  · split
    · rename_i ha
      unfold Block.pass
      split
      · exact h.congr rfl rfl
      · rename_i e noted hs
        exact (h.grantEntry (Block.scan_mem hs) (b.passAllowed_iff.mp ha).1 noted).congr rfl rfl
    · exact h.congr rfl rfl
  · exact h

theorem Block.BudgetOk.finish (h : b.BudgetOk) : b.finish.BudgetOk :=
  (h.keeps b.takeEvaluation_keeps).takeTrigger.keeps (Block.resendAll _).keeps

end

theorem Block.arbDue_takeTrigger (b : Block) : b.takeTrigger.arbDue = false := by
  unfold Block.takeTrigger
  split
  · rfl
  · exact Bool.eq_false_of_not_eq_true ‹_›

theorem Block.evalDue_takeEvaluation (b : Block) : b.takeEvaluation.evalDue = false := by
  unfold Block.takeEvaluation Block.evaluate
  split
  · split
    · rfl
    · rfl
  · exact Bool.eq_false_of_not_eq_true ‹_›

/-- A grant is no evaluation event (R114, R126). -/
theorem Block.evalDue_takeGrant (b : Block) (i : CarIx) (k : RunKind) : (b.takeGrant i k).evalDue = b.evalDue := by
  unfold Block.takeGrant
  split
  · dsimp only
    split
    · rename_i hs
      have hstate : ((b.modCar i fun c => { c with faultSeen := false }).car i).state = .recallPending := by
        rw [Block.car_modCar_same]
        exact hs
      have hplan : ∀ p : Plan, p.evaluates .recallPending (grantState k) = false := fun p => by
        cases k <;> simp [Plan.evaluates, grantState, RState.isParked]
      rw [Block.evalDue_move, hstate, hplan]
      simp
    · rfl
  · rfl

theorem Block.evalDue_takeTrigger (b : Block) : b.takeTrigger.evalDue = b.evalDue := by
  rcases b.takeTrigger_cases with ⟨x, hx⟩ | ⟨e, noted, -, hx⟩
  · rw [hx]
  · rw [hx, b.grantEntry_committed]
    exact (Block.evalDue_takeGrant _ _ _).trans (Block.sendGrant_only _ _ _ _).evalDue

theorem Block.marks_syncResend (b : Block) (i : CarIx) :
    (b.syncResend i).arbDue = b.arbDue ∧ (b.syncResend i).evalDue = b.evalDue := by
  unfold Block.syncResend
  repeat' split
  all_goals exact ⟨rfl, rfl⟩

/-- No step leaves a trigger or an evaluation over (assumptions 6 and 7). -/
theorem Block.settled_finish (b : Block) : b.finish.Settled := by
  have hsync : (b.finish).arbDue = b.takeEvaluation.takeTrigger.arbDue ∧
      b.finish.evalDue = b.takeEvaluation.takeTrigger.evalDue :=
    foldl_rel (R := fun b c : Block => c.arbDue = b.arbDue ∧ c.evalDue = b.evalDue) (fun _ => ⟨rfl, rfl⟩)
      (fun h k => ⟨k.1.trans h.1, k.2.trans h.2⟩) Block.marks_syncResend allCars _
  refine ⟨hsync.1.trans (Block.arbDue_takeTrigger _), hsync.2.trans ?_⟩
  rw [Block.evalDue_takeTrigger, Block.evalDue_takeEvaluation]

end Sys2Proof.Machine
end

section
/-! Every operation of a step keeps the budget in order: the plan changes, the Budget Unit, requests and cancels, and reports. -/

namespace Sys2Proof.Machine

variable {b : Block}

/-! ### Plan changes -/

theorem Block.BudgetOk.changePlan (h : b.BudgetOk) (p : Plan) : (b.changePlan p).BudgetOk :=
  h.congr (b.commitments_changePlan p) (b.queue_changePlan p)

theorem Block.BudgetOk.enterService (h : b.BudgetOk) : b.enterService.BudgetOk :=
  (h.changePlan .service).keeps
    ((((Block.arrivalAll_keeps _).trans (Block.evaluate_keeps _)).trans (Block.tellRelayAll_keeps _)).trans
      (Block.trigger_keeps _))

theorem Block.BudgetOk.enterRecall (h : b.BudgetOk) : b.enterRecall.BudgetOk := by
  have hpass : (allCars.foldl Block.orderStanding (b.changePlan .recall)).arrivalAll.trigger.takeTrigger.BudgetOk :=
    ((h.changePlan .recall).keeps (((orderStanding_carWise.foldl_keeps _ _).trans (Block.arrivalAll_keeps _)).trans
      (Block.trigger_keeps _))).takeTrigger
  unfold Block.enterRecall
  dsimp only
  split
  · exact hpass.enterService
  · exact hpass

theorem Block.BudgetOk.passOnSettled (h : b.BudgetOk) : b.passOnSettled.BudgetOk := by
  unfold Block.passOnSettled
  split
  · exact h.enterRecall
  · exact h

theorem Block.BudgetOk.enterWaitFresh (h : b.BudgetOk) : b.enterWaitFresh.BudgetOk :=
  ((h.changePlan .transferWait).keeps (standCar_carWise.foldl_keeps _ _)).passOnSettled

theorem Block.BudgetOk.enterWaitLoss (h : b.BudgetOk) : b.enterWaitLoss.BudgetOk := by
  have hvoid : (b.changePlan .transferWait).void.BudgetOk := (h.changePlan .transferWait).emptied rfl rfl
  have hlost := hvoid.keeps (loseCar_carWise.foldl_keeps allCars _)
  have hdropped := (hlost.keeps (Block.flush_keeps _ .powerLost)).keeps (Block.dropHeld_keeps _)
  exact hdropped.passOnSettled

theorem Block.BudgetOk.enterNormal (h : b.BudgetOk) : b.enterNormal.BudgetOk := by
  have hclear : ∀ c : Block, c.BudgetOk →
      (allCars.foldl Block.normalCar { c.changePlan .normal with manual := none }).BudgetOk := fun c hc => by
    have hplan : ({ c.changePlan .normal with manual := none } : Block).BudgetOk := (hc.changePlan .normal).congr rfl rfl
    exact hplan.keeps (normalCar_carWise.foldl_keeps allCars _)
  unfold Block.enterNormal
  dsimp only
  split
  · exact hclear _ (h.emptied rfl rfl)
  · exact hclear b h

theorem Block.BudgetOk.enterMainsReturn (h : b.BudgetOk) : b.enterMainsReturn.BudgetOk := by
  have hflush := (h.changePlan .mainsReturn).keeps ((Block.flush_keeps _ .mainsReturn).trans (Block.dropHeld_keeps _))
  unfold Block.enterMainsReturn
  dsimp only
  split
  · exact hflush.enterNormal
  · exact hflush

theorem Block.BudgetOk.onXferAsserted (h : b.BudgetOk) : b.onXferAsserted.BudgetOk := by
  unfold Block.onXferAsserted
  split
  · exact h.enterWaitFresh
  · exact h.enterWaitLoss
  · exact h

theorem Block.BudgetOk.onXferNegated (h : b.BudgetOk) : b.onXferNegated.BudgetOk := by
  unfold Block.onXferNegated
  split
  · exact h.enterMainsReturn
  · exact h.enterMainsReturn
  · exact h.enterMainsReturn
  · exact h

theorem Block.BudgetOk.onGenNegated (h : b.BudgetOk) : b.onGenNegated.BudgetOk := by
  unfold Block.onGenNegated
  split
  · exact h.enterWaitLoss
  · exact h.enterWaitLoss
  · exact h

theorem Block.BudgetOk.leaveAdopt (h : b.BudgetOk) : b.leaveAdopt.BudgetOk := by
  unfold Block.leaveAdopt
  split
  · exact h.enterWaitFresh
  · exact h.enterNormal

theorem Block.BudgetOk.recomputeAEff (h : b.BudgetOk) : b.recomputeAEff.BudgetOk := by
  unfold Block.recomputeAEff
  dsimp only
  split
  · exact h
  · exact h.congr rfl rfl

/-! ### The Budget Unit -/

theorem Block.BudgetOk.dropCommitment (h : b.BudgetOk) (i : CarIx) : (b.dropCommitment i).BudgetOk :=
  h.sublist List.filter_sublist rfl

theorem Block.BudgetOk.endByReport (h : b.BudgetOk) (i : CarIx) (k : Commitment) : (b.endByReport i k).BudgetOk := by
  unfold Block.endByReport
  split
  · exact (h.dropCommitment i).congr rfl rfl
  · exact h.dropCommitment i

/-- A run that goes on holds the slot only if it held it before (R58, R59). -/
theorem Block.BudgetOk.advance (h : b.BudgetOk) {i : CarIx} {k : Commitment} (hk : b.commitment? i = some k) (m : Motion) :
    (b.advance i k m).BudgetOk := by
  unfold Block.advance
  split
  · rename_i hp
    refine Block.BudgetOk.congr (h.modCommitment i (f := fun c =>
      { c with phase := .starting, grantTimer := none, accelTimer := some b.active.plan.tAccel }) (fun _ => rfl)
      fun x hx hi _ => ?_) rfl rfl
    rw [h.unique hk hx hi, Commitment.holdsSlot, hp]
    rfl
  · split
    · exact Block.BudgetOk.congr (h.modCommitment i (f := fun c =>
        { c with phase := .running, upper := c.fig.runningUpper, accelTimer := none }) (fun _ => rfl)
        fun _ _ _ hs => absurd hs (by simp [Commitment.holdsSlot])) rfl rfl
    · exact h
  · exact h

/-- An adopted run takes its car's entry out of the queue, and holds no slot (R67, R69). -/
theorem Block.BudgetOk.adopt (h : b.BudgetOk) {i : CarIx} (hk : b.commitment? i = none) (u : Bool) : (b.adopt i u).BudgetOk := by
  obtain ⟨hlist, hentry⟩ := b.adopt_leaves i u
  refine h.append hlist ?_ (Block.commitment?_eq_none.mp hk) hentry fun hs => absurd hs (by simp [adoption, Commitment.holdsSlot])
  unfold Block.adopt
  dsimp only
  split
  · exact (b.removeEntry_keeps i).queue
  · exact .refl _

/-- The Budget Unit's stage of a report (R27). -/
theorem Block.BudgetOk.budgetStage (h : b.BudgetOk) (i : CarIx) : (b.budgetStage i).1.BudgetOk := by
  unfold Block.budgetStage
  dsimp only
  split
  · rename_i hk
    split
    · exact h.endByReport i _
    · exact h.advance hk _
  · rename_i hk
    split
    · exact h
    · split
      · exact h.adopt hk true
      · split
        · exact h.adopt hk false
        · exact h

theorem Block.BudgetOk.holdSilent (h : b.BudgetOk) (i : CarIx) : (b.holdSilent i).BudgetOk :=
  h.modCommitment i (fun _ => rfl) fun _ _ _ hs => hs

theorem Block.BudgetOk.unholdSilent (h : b.BudgetOk) (i : CarIx) : (b.unholdSilent i).BudgetOk :=
  h.modCommitment i (fun _ => rfl) fun _ _ _ hs => hs

/-- The block of a lapsed grant, before the end of the step (R62). -/
theorem Block.BudgetOk.lapse (h : b.BudgetOk) (i : CarIx) (k : Commitment) : (b.lapse i k).BudgetOk := by
  have hdrop := h.dropCommitment i
  unfold Block.lapse
  dsimp only
  split
  · exact ((hdrop.sends (Block.refuseBound_only _ _ _ _)).keeps (Block.takeEnd_keeps _ _ _ _)).finish
  · exact (hdrop.keeps (Block.takeEnd_keeps _ _ _ _)).finish

theorem Block.BudgetOk.slowStart (h : b.BudgetOk) (i : CarIx) : (b.slowStart i).BudgetOk :=
  Block.BudgetOk.finish (Block.BudgetOk.congr (h.modCommitment i (f := fun c =>
    { c with phase := .running, slowStart := true, accelTimer := none }) (fun _ => rfl)
    fun _ _ _ hs => absurd hs (by simp [Commitment.holdsSlot])) rfl rfl)

/-! ### Requests and cancels -/

/-- A request of a car without a commitment joins the queue or refreshes its entry (R75, R76). -/
theorem Block.BudgetOk.enqueue (h : b.BudgetOk) (src : Byte) {e : Entry} (hk : b.commitment? e.car = none) :
    (b.enqueue src e).BudgetOk := by
  have hjoined : (if (b.entry? e.car).isSome then b.refresh e.car e else b.join e).BudgetOk := by
    split
    · exact h.keeps (b.refresh_keeps e.car e)
    · rename_i hn
      exact h.join (Block.commitment?_eq_none.mp hk) (Block.entry?_eq_none.mp (by simpa using hn))
  unfold Block.enqueue
  generalize (if (b.entry? e.car).isSome then b.refresh e.car e else b.join e) = j at hjoined
  dsimp only
  split
  · exact hjoined.takeTrigger
  · exact hjoined.takeTrigger.sends (Block.sendCarOrLose_only _ _ _ _)

theorem Block.BudgetOk.acceptRun (h : b.BudgetOk) (src : Byte) {i : CarIx} (hk : b.commitment? i = none) (tag : Byte) (target : Nat)
    (load : Load) (k : RunKind) (d : Dir) : (b.acceptRun src i tag target load k d).BudgetOk := by
  unfold Block.acceptRun
  dsimp only
  split
  · exact h.keeps (b.refuseTooLarge_keeps _ _ _ _)
  · split
    · exact h.keeps (b.refuseRegen_keeps _ _ _ _ _)
    · exact h.enqueue src hk

theorem Block.refuseTarget_keeps (b : Block) (src : Byte) (i : CarIx) (tag : Byte) (r : RefusalReason) :
    b.KeepsBudget (b.refuseTarget src i tag r) := by
  unfold Block.refuseTarget
  dsimp only
  split
  · exact (b.refuse_only _ _ _ _).toKeepsBudget.trans (Block.sendOrder_keeps _ _)
  · exact (b.refuse_only _ _ _ _).toKeepsBudget

theorem Block.BudgetOk.judgeRun (h : b.BudgetOk) (src : Byte) {i : CarIx} (hk : b.commitment? i = none) (tag : Byte) (target : Nat)
    (load : Load) : (b.judgeRun src i tag target load).BudgetOk := by
  unfold Block.judgeRun
  split
  · exact h
  · split
    · exact h.keeps (b.refuseTarget_keeps _ _ _ _)
    · split
      · exact h
      · exact h.acceptRun src hk _ _ _ _ _

theorem Block.answerBusy_only (b : Block) (src : Byte) (i : CarIx) (tag : Byte) (k : Commitment) (last : Option Byte) :
    b.OnlySends (b.answerBusy src i tag k last) := by
  unfold Block.answerBusy
  split
  · exact b.sendGrant_only _ _ _
  · exact b.refuse_only _ _ _ _

/-- A start request judged (R93): only a car that holds no commitment comes to the queue. -/
theorem Block.BudgetOk.judgeRequest (h : b.BudgetOk) (src : Byte) (i : CarIx) (tag : Byte) (target : Nat) (load : Load)
    (mine : Bool) (last : Option Byte) : (b.judgeRequest src i tag target load mine last).BudgetOk := by
  unfold Block.judgeRequest
  split
  · exact h.sends (b.refuse_only _ _ _ _)
  · split
    · exact h.sends (b.refuse_only _ _ _ _)
    · split
      · exact h.sends (b.answerBusy_only _ _ _ _ _)
      · exact h.judgeRun src ‹_› _ _ _

theorem Block.BudgetOk.cancelCommitment (h : b.BudgetOk) (src : Byte) (i : CarIx) (tag : Byte) (k : Commitment) :
    (b.cancelCommitment src i tag k).BudgetOk := by
  unfold Block.cancelCommitment
  split
  · exact ((h.dropCommitment i).sends (Block.refuse_only _ _ _ _ _)).keeps (Block.takeEnd_keeps _ _ _ _)
  · exact h.sends (b.refuse_only _ _ _ _)

theorem Block.BudgetOk.cancelRun (h : b.BudgetOk) (src : Byte) (i : CarIx) (tag : Byte) : (b.cancelRun src i tag).BudgetOk := by
  unfold Block.cancelRun
  split
  · split
    · exact (h.keeps (b.removeEntry_keeps i)).sends (Block.refuse_only _ _ _ _ _)
    · exact h.sends (b.refuse_only _ _ _ _)
  · split
    · exact h.cancelCommitment src i tag _
    · exact h.sends (b.refuse_only _ _ _ _)

/-! ### Reports -/

theorem Block.BudgetOk.reportHeard (h : b.BudgetOk) (i : CarIx) (node : Nat) (fields : List Byte) :
    (b.reportHeard i node fields).BudgetOk := by
  have hlearn : (b.learnReport i node fields).BudgetOk := by
    rw [b.learnReport_eq, b.makePresent_eq]
    exact h.congr rfl rfl
  unfold Block.reportHeard
  split
  · exact ((hlearn.sends (Block.carNotice_only _ i .heard)).unholdSilent i).congr rfl rfl
  · exact hlearn

theorem Block.BudgetOk.acceptReport (h : b.BudgetOk) (i : CarIx) (node : Nat) (fields : List Byte) (f : Frame) :
    (b.acceptReport i node fields f).BudgetOk := by
  rw [b.acceptReport_eq]
  exact (((h.reportHeard i node fields).budgetStage i).keeps
    ((Block.restoreStage_keeps _ _ _ _).trans (Block.relayReport_only _ _ _).toKeepsBudget)).finish

theorem Block.removeInConflict_keeps (b : Block) (i : CarIx) : b.KeepsBudget (b.removeInConflict i) := by
  unfold Block.removeInConflict
  split
  · exact .refl b
  · exact (b.removeEntry_keeps i).trans (Block.refuseBound_only _ _ _ _).toKeepsBudget

theorem Block.BudgetOk.bindingConflict (h : b.BudgetOk) (i : CarIx) (node : Nat) : (b.bindingConflict i node).BudgetOk := by
  unfold Block.bindingConflict
  dsimp only
  split
  · exact h.modCar i _
  · exact ((h.modCar i _).modCar i _).keeps ((Block.removeInConflict_keeps _ i).trans (Block.move_keeps _ _ _ _ _))

/-! ### A COMMIT and RETRY_CAR -/

theorem Block.BudgetOk.commitCar (h : b.BudgetOk) (old : Table) (i : CarIx) : (b.commitCar old i).BudgetOk := by
  unfold Block.commitCar
  split
  · exact (h.modCar i _).keeps (Block.move_keeps _ _ _ _ _)
  · exact (h.modCar i _).keeps (Block.move_keeps _ _ _ _ _)
  · exact (h.modCar i _).keeps (Block.move_keeps _ _ _ _ _)
  · exact h

theorem Block.BudgetOk.retry (h : b.BudgetOk) (i : CarIx) : (b.retry i).BudgetOk := by
  unfold Block.retry
  dsimp only
  have hcleared : ∀ f, ((if (b.car i).state = .conflict then b.modCar i (fun c => c.clearConflict (b.conf i)) else b).modCar i
      f).BudgetOk := fun f => by
    split
    · exact (h.modCar i _).modCar i f
    · exact h.modCar i f
  split
  · exact (hcleared _).keeps (Block.move_keeps _ _ _ _ _)
  · split
    · exact (hcleared _).keeps (Block.move_keeps _ _ _ _ _)
    · split
      · exact (hcleared _).keeps (Block.move_keeps _ _ _ _ _)
      · split
        · exact (hcleared _).keeps (Block.move_keeps _ _ _ _ _)
        · exact (hcleared _).keeps (Block.orderRecall_keeps _ _)

end Sys2Proof.Machine
end

section
/-! Every command leaves the budget in order and no work over: what the invariant speaks of, and the operations outside the budget
that leave it alone. -/

namespace Sys2Proof.Machine

variable {b c : Block}

/-! ### The invariant -/

/-- The state between steps: the budget in order, and no trigger or evaluation left over (assumptions 6 and 7). -/
structure Block.InOrder (b : Block) : Prop where
  budget  : b.BudgetOk
  settled : b.Settled

/-- What the invariant speaks of is the same in two blocks. -/
structure Block.SameBudget (b c : Block) : Prop where
  commitments : c.commitments = b.commitments
  queue       : c.queue = b.queue
  arbDue      : c.arbDue = b.arbDue
  evalDue     : c.evalDue = b.evalDue

theorem Block.SameBudget.refl (b : Block) : b.SameBudget b := ⟨rfl, rfl, rfl, rfl⟩

theorem Block.SameBudget.trans {d : Block} (h : b.SameBudget c) (k : c.SameBudget d) : b.SameBudget d :=
  ⟨k.commitments.trans h.commitments, k.queue.trans h.queue, k.arbDue.trans h.arbDue, k.evalDue.trans h.evalDue⟩

theorem Block.OnlySends.sameBudget (h : b.OnlySends c) : b.SameBudget c := ⟨h.commitments, h.sameQueue, h.arbDue, h.evalDue⟩

theorem Block.InOrder.same (h : b.InOrder) (k : b.SameBudget c) : c.InOrder :=
  ⟨h.budget.congr k.commitments k.queue, k.arbDue.trans h.settled.1, k.evalDue.trans h.settled.2⟩

theorem Block.BudgetOk.same (h : b.BudgetOk) (k : b.SameBudget c) : c.BudgetOk := h.congr k.commitments k.queue

theorem Block.InOrder.sends (h : b.InOrder) (k : b.OnlySends c) : c.InOrder := h.same k.sameBudget

/-- A step that ends with its evaluation and its pass leaves nothing over. -/
theorem Block.BudgetOk.ended (h : b.BudgetOk) : b.finish.InOrder := ⟨h.finish, b.settled_finish⟩

theorem Block.resetWith_inOrder (b : Block) (m : Mgmt) : (b.resetWith m).InOrder :=
  ⟨⟨List.nodup_nil, List.nodup_nil, (fun _ hi => nomatch hi), Nat.zero_le 1, List.Pairwise.nil⟩, rfl, rfl⟩

/-! ### Ports, Management Unit and cars -/

theorem Block.modPort_sameBudget (b : Block) (p : PortId) (f : Port → Port) : b.SameBudget (b.modPort p f) :=
  ⟨b.commitments_modPort p f, b.queue_modPort p f, b.arbDue_modPort p f, b.evalDue_modPort p f⟩

theorem Block.modMgmt_sameBudget (b : Block) (f : Mgmt → Mgmt) : b.SameBudget (b.modMgmt f) := ⟨rfl, rfl, rfl, rfl⟩

theorem Block.modCar_sameBudget (b : Block) (i : CarIx) (f : Car → Car) : b.SameBudget (b.modCar i f) := ⟨rfl, rfl, rfl, rfl⟩

/-- A command that takes a frame does so in a block that has only lost it (R146). -/
theorem Block.InOrder.takeFrame (h : b.InOrder) {act : Block → Frame → Block} (p : PortId) (want : Route → Bool)
    (hact : ∀ (c : Block) (f : Frame), c.InOrder → (act c f).InOrder) : (b.takeFrame p want act).InOrder := by
  unfold Block.takeFrame
  split
  · split
    · exact h
    · split
      · exact hact _ _ (h.same (b.modPort_sameBudget p _))
      · exact h
  · exact h

/-! ### Responses (R154) -/

theorem Block.placePart_sameBudget (b : Block) : b.SameBudget b.placePart := by
  have hplace : ∀ (f : Frame) (g : Mgmt → Mgmt),
      b.SameBudget (if (b.placeOwn .g f).2 then (b.placeOwn .g f).1.modMgmt g else b) := fun f g => by
    split
    · exact (b.placeOwn_only .g f false).sameBudget.trans (Block.modMgmt_sameBudget _ _)
    · exact .refl b
  unfold Block.placePart
  split
  · exact hplace _ _
  · exact hplace _ _
  · exact .refl b

theorem Block.placeParts_sameBudget (n : Nat) (b : Block) : b.SameBudget (Block.placeParts n b) := by
  induction n generalizing b with
  | zero => exact .refl b
  | succ n ih => exact b.placePart_sameBudget.trans (ih b.placePart)

theorem Block.placeAll_sameBudget (b : Block) : b.SameBudget b.placeAll := Block.placeParts_sameBudget _ b

theorem Block.respond_sameBudget (b : Block) (dst : Node) (kind : Byte) (r : Reply) : b.SameBudget (b.respond dst kind r) :=
  (b.modMgmt_sameBudget _).trans (Block.placeAll_sameBudget _)

theorem Block.storeDone_sameBudget (b : Block) (image : Image) (requester : Node) (kind : Byte) (ok : Bool) :
    b.SameBudget (b.storeDone image requester kind ok) :=
  (b.modMgmt_sameBudget _).trans (Block.placeAll_sameBudget _)

/-! ### The effects of the requests -/

theorem Block.readCarRecords_sameBudget (b : Block) (l : List CarIx) : b.SameBudget (b.readCarRecords l).1 := by
  induction l generalizing b with
  | nil => exact .refl b
  | cons i l ih =>
    have hbyte : b.SameBudget (b.carRecord i).1 := by
      unfold Block.carRecord Block.orderByte
      dsimp only
      split
      · exact .refl b
      · exact .refl b
      · exact b.free_only.sameBudget
    exact hbyte.trans (ih _)

theorem Block.commitmentRecords_sameBudget (b : Block) (l : List Commitment) : b.SameBudget (b.commitmentRecords l).1 := by
  induction l generalizing b with
  | nil => exact .refl b
  | cons k l ih =>
    have hbyte : b.SameBudget (b.commitmentRecord k).1 := by
      unfold Block.commitmentRecord Block.tagByte
      dsimp only
      split
      · exact .refl b
      · exact b.free_only.sameBudget
    exact hbyte.trans (ih _)

theorem Block.doReadCars_sameBudget (b : Block) (start count : Byte) : b.SameBudget (b.doReadCars start count).1 := by
  unfold Block.doReadCars
  split
  · exact .refl b
  · split
    · exact .refl b
    · exact b.readCarRecords_sameBudget _

theorem Block.doWriteCars_sameBudget (b : Block) (start count : Byte) (records : List Byte) :
    b.SameBudget (b.doWriteCars start count records).1 := by
  unfold Block.doWriteCars
  dsimp only
  split
  · exact .refl b
  · exact ⟨rfl, rfl, rfl, rfl⟩

theorem Block.doWritePlan_sameBudget (b : Block) (record : List Byte) : b.SameBudget (b.doWritePlan record).1 := by
  unfold Block.doWritePlan
  split
  · exact .refl b
  · split
    · exact .refl b
    · exact ⟨rfl, rfl, rfl, rfl⟩

theorem Block.doUnlock_sameBudget (b : Block) (level : Byte) (key : Key) : b.SameBudget (b.doUnlock level key).1 := by
  unfold Block.doUnlock
  split
  · exact .refl b
  · split
    · exact .refl b
    · split
      · exact ⟨rfl, rfl, rfl, rfl⟩
      · exact ⟨rfl, rfl, rfl, rfl⟩

theorem Block.doSetKey_sameBudget (b : Block) (level : Byte) (key : Key) : b.SameBudget (b.doSetKey level key).1 := by
  unfold Block.doSetKey
  split
  · exact .refl b
  · exact ⟨rfl, rfl, rfl, rfl⟩
  · exact ⟨rfl, rfl, rfl, rfl⟩

/-- A COMMIT moves cars, and ends like a step (R158). -/
theorem Block.BudgetOk.doCommit (h : b.BudgetOk) (src : Node) : (b.doCommit src).InOrder := by
  have hcars : ∀ c : Block, c.BudgetOk → (allCars.foldl (Block.commitCar b.active) c).BudgetOk :=
    foldl_rel (R := fun b c : Block => b.BudgetOk → c.BudgetOk) (fun _ => id) (fun h k => k ∘ h)
      (fun _ i hc => hc.commitCar b.active i) allCars
  unfold Block.doCommit
  exact Block.BudgetOk.ended (Block.BudgetOk.recomputeAEff (hcars _ (h.congr rfl rfl)))

theorem Block.BudgetOk.setManual (h : b.BudgetOk) (m : Option (List CarIx)) : (b.setManual m).InOrder := by
  have hmanual : ({ b with manual := m } : Block).BudgetOk := h.congr rfl rfl
  exact ((hmanual.keeps (Block.tellRelayAll_keeps _)).keeps (Block.raiseEvaluation_keeps _)).ended

theorem Block.InOrder.doSelect (h : b.InOrder) (form : Byte) (cars : List Byte) : (b.doSelect form cars).1.InOrder := by
  unfold Block.doSelect
  split
  · dsimp only
    exact h.budget.setManual none
  · split
    · exact h
    · dsimp only
      exact h.budget.setManual _

theorem Block.InOrder.doRetryCar (h : b.InOrder) (car : Byte) : (b.doRetryCar car).1.InOrder := by
  unfold Block.doRetryCar
  split
  · exact h
  · split
    · dsimp only
      exact (h.budget.retry _).ended
    · exact h

theorem Block.InOrder.doRestart (h : b.InOrder) (src : Node) : (b.doRestart src).InOrder := by
  unfold Block.doRestart
  dsimp only
  split
  · exact (h.same b.placeAll_sameBudget).sends (Block.placeOwn_only _ _ _ _)
  · exact Block.resetWith_inOrder _ _

/-- The effect of a request, and its answer (R153, R154). -/
theorem Block.InOrder.perform (h : b.InOrder) (src : Node) (r : Request) : (b.perform src r).InOrder := by
  have answer : ∀ (x : Block × Reply), x.1.InOrder → (x.1.respond src r.kindByte x.2).InOrder := fun x hx =>
    hx.same (Block.respond_sameBudget _ _ _ _)
  cases r with
  | readPlan => exact answer (b, _) h
  | readCars start count => exact answer _ (h.same (b.doReadCars_sameBudget start count))
  | readQueue => exact answer (b, _) h
  | readCommitments => exact answer b.doReadCommitments (h.same (b.commitmentRecords_sameBudget _))
  | readLink => exact answer (b.clearSummaries, _) (h.same ⟨rfl, rfl, rfl, rfl⟩)
  | writeCars start count records => exact answer _ (h.same (b.doWriteCars_sameBudget start count records))
  | writePlan record => exact answer _ (h.same (b.doWritePlan_sameBudget record))
  | commit => exact h.budget.doCommit src
  | discard => exact answer b.doDiscard (h.same ⟨rfl, rfl, rfl, rfl⟩)
  | select form cars => exact answer _ (h.doSelect form cars)
  | retryCar car => exact answer _ (h.doRetryCar car)
  | restart => exact h.doRestart src
  | unlock level key => exact answer _ (h.same (b.doUnlock_sameBudget level key))
  | lock => exact answer b.doLock (h.same ⟨rfl, rfl, rfl, rfl⟩)
  | setKey level key => exact answer _ (h.same (b.doSetKey_sameBudget level key))
  | freeze => exact answer b.doFreeze (h.same ⟨rfl, rfl, rfl, rfl⟩)
  | wipePrepare => exact answer b.doWipePrepare (h.same ⟨rfl, rfl, rfl, rfl⟩)
  | wipe => exact h.same ⟨rfl, rfl, rfl, rfl⟩
  | malformed kind => exact answer (b, _) h

theorem Block.InOrder.takeRequest (h : b.InOrder) (src : Node) (r : Request) : (b.takeRequest src r).InOrder := by
  unfold Block.takeRequest
  dsimp only
  split
  · split
    · exact h.same (b.modMgmt_sameBudget _)
    · unfold Block.serveRequest
      have hbegun := h.same ((b.modMgmt_sameBudget fun m => { m with request := none }).trans
        (Block.modMgmt_sameBudget _ _ : Block.SameBudget _ (Block.beginRequest _)))
      split
      · exact hbegun.same (Block.respond_sameBudget _ _ _ _)
      · exact hbegun.perform src r
  · exact h

theorem Block.InOrder.onRequestPart (h : b.InOrder) (f : Frame) : (b.onRequestPart f).InOrder := by
  have hjoined : ∀ (src : Node) (n : Nat) (last : Bool) (data : List Byte), (b.joined src n last data).InOrder :=
    fun src n last data => by
      unfold Block.joined
      split
      · exact h.takeRequest src _
      · exact h.same (b.modMgmt_sameBudget _)
  unfold Block.onRequestPart
  split
  · exact h
  · unfold Block.takePart
    split
    · exact hjoined _ _ _ _
    · split
      · exact h
      · split
        · exact h
        · split
          · unfold Block.assemblyError
            dsimp only
            split
            · exact h.same (b.modMgmt_sameBudget _)
            · exact h.same ((b.modMgmt_sameBudget _).trans (Block.respond_sameBudget _ _ _ _))
          · exact hjoined _ _ _ _

/-! ### Frames taken from the FIFOs -/

theorem Block.InOrder.onCarReport (h : b.InOrder) (f : Frame) : (b.onCarReport f).InOrder := by
  unfold Block.onCarReport
  dsimp only
  split
  · exact h
  · split
    · exact h
    · split
      · exact h.sends (b.relayUnder_only _ _ _)
      · split
        · exact h.sends (b.relayUnder_only _ _ _)
        · have haccept : ∀ i node fields, (b.acceptReport i node fields f).InOrder := fun i node fields => by
            have hbudget := h.budget.acceptReport i node fields f
            rw [b.acceptReport_eq] at hbudget ⊢
            exact ⟨hbudget, Block.settled_finish _⟩
          unfold Block.reportForCar
          split
          · exact h
          · split
            · split
              · exact haccept _ _ _
              · exact (h.budget.bindingConflict _ _).ended
            · exact haccept _ _ _

theorem Block.InOrder.onStartRequest (h : b.InOrder) (f : Frame) : (b.onStartRequest f).InOrder := by
  unfold Block.onStartRequest
  split
  · split
    · split
      · exact h
      · unfold Block.requestFor
        dsimp only
        split
        · exact ((h.budget.modCar _ _).judgeRequest _ _ _ _ _ _ _).ended
        · exact (h.budget.judgeRequest _ _ _ _ _ _ _).ended
    · exact h
  · exact h

theorem Block.InOrder.onStartCancel (h : b.InOrder) (f : Frame) : (b.onStartCancel f).InOrder := by
  unfold Block.onStartCancel
  split
  · split
    · split
      · exact h
      · unfold Block.cancelFor
        dsimp only
        split
        · exact h.sends (b.refuse_only _ _ _ _)
        · split
          · exact h.sends (b.refuse_only _ _ _ _)
          · exact (h.budget.cancelRun _ _ _).ended
    · exact h
  · exact h

theorem Block.InOrder.onDispatchOrder (h : b.InOrder) (f : Frame) : (b.onDispatchOrder f).InOrder := by
  have hdrop : (b.dropOrder f).InOrder := h.sends (b.announce_only f _)
  have hrelay : (b.relayTo .c f).InOrder := h.sends (b.relayTo_only .c f)
  have hhold : ∀ (c : Block) (i : CarIx), c.InOrder → ((c.setSlot i (.holding f)).announce f .held).InOrder := fun c i hc =>
    (hc.same (c.modCar_sameBudget i _)).sends (Block.announce_only _ _ _)
  unfold Block.onDispatchOrder
  dsimp only
  split
  · exact hdrop
  · split
    · exact hdrop
    · split
      · exact hdrop
      · split
        · split
          · exact hrelay
          · exact hdrop
        · unfold Block.orderByState
          split
          · exact hrelay
          · split
            · split
              · exact hhold _ _ (h.sends (b.announce_only _ _))
              · exact hhold _ _ h
            · exact hdrop

/-! ### Ports -/

theorem Block.InOrder.frameSent (h : b.InOrder) (p : PortId) : (b.frameSent p).InOrder := by
  unfold Block.frameSent
  split
  · exact h
  · split
    · have hsent := h.same (b.modPort_sameBudget p Port.sent)
      unfold Block.afterSent
      split
      · exact Block.resetWith_inOrder _ _
      · split
        · exact (hsent.budget.keeps (Block.trigger_keeps _)).ended
        · exact hsent
    · exact h

theorem Block.InOrder.faultG (h : b.InOrder) : b.faultG.InOrder := by
  unfold Block.faultG
  dsimp only
  split
  · exact Block.resetWith_inOrder _ _
  · exact h.same ⟨rfl, rfl, rfl, rfl⟩

theorem Block.lineNotice_only (b : Block) (r : NoticeReason) : b.OnlySends (b.lineNotice r) := by
  unfold Block.lineNotice
  split
  · exact b.planNotice_only r
  · exact .refl b

theorem Block.BudgetOk.faultC (h : b.BudgetOk) : b.faultC.InOrder := by
  have hlost : (allCars.foldl Block.loseServe b).BudgetOk := h.keeps (foldl_rel .refl .trans Block.loseServe_keeps allCars b)
  have hport := hlost.same (Block.modPort_sameBudget _ .c Port.fault)
  exact ((hport.sends (Block.lineNotice_only _ .linkFault)).keeps (Block.trigger_keeps _)).ended

theorem Block.InOrder.lineUp (h : b.InOrder) (p : PortId) : (b.lineUp p).InOrder := by
  have hport := h.same (b.modPort_sameBudget p fun q => { q with up := true })
  cases p with
  | g => exact hport
  | c => exact ((hport.budget.sends (Block.lineNotice_only _ .linkUp)).keeps (Block.trigger_keeps _)).ended

/-! ### Idling -/

theorem Block.BudgetOk.tickTimers (h : b.BudgetOk) : b.tickTimers.BudgetOk :=
  h.mapped rfl rfl (fun _ => rfl) fun _ _ hs => hs

theorem State.idle_inOrder {s : State} (h : s.toBlock.InOrder) : s.idle.toBlock.InOrder := by
  unfold State.idle
  split
  · unfold State.sample
    dsimp only
    split
    · exact h.same ⟨rfl, rfl, rfl, rfl⟩
    · have hlines : s.toBlock.sampleLines.InOrder := h.same ⟨rfl, rfl, rfl, rfl⟩
      exact ⟨hlines.budget.tickTimers.congr rfl rfl, hlines.settled⟩
  · exact h

end Sys2Proof.Machine
end

section
/-! Every command, and so every step, leaves the budget in order and no work over (R54, R57, R72, R74, R80). -/

namespace Sys2Proof.Machine

/-- Whatever state a command answers is in order. -/
def EndsInOrder (o : Host.Outcome State Fault Refusal) : Prop := ∀ t, o = .next t → t.toBlock.InOrder

theorem EndsInOrder.next {b : Block} (h : b.InOrder) {q : List Instr} : EndsInOrder (.next { toBlock := b, pending := q }) :=
  fun _ ht => by
    cases ht
    exact h

variable {s : State}

/-! ### Lines and plan timers -/

theorem execXferEmergTakenAsserted_inOrder (h : s.toBlock.InOrder) : EndsInOrder (execXferEmergTakenAsserted s) := by
  unfold execXferEmergTakenAsserted
  split
  · exact .next h
  · have hline := Block.BudgetOk.congr (c := { s.toBlock with xfer := Line.took true }) h.budget rfl rfl
    exact .next hline.onXferAsserted.ended

theorem execXferEmergTakenNegated_inOrder (h : s.toBlock.InOrder) : EndsInOrder (execXferEmergTakenNegated s) := by
  unfold execXferEmergTakenNegated
  split
  · have hline := Block.BudgetOk.congr (c := { s.toBlock with xfer := Line.took false }) h.budget rfl rfl
    exact .next hline.onXferNegated.ended
  · exact .next h

theorem execGenReadyTakenAsserted_inOrder (h : s.toBlock.InOrder) : EndsInOrder (execGenReadyTakenAsserted s) := by
  unfold execGenReadyTakenAsserted
  split
  · exact .next h
  · have hline := h.same (c := { s.toBlock with gen := Line.took true, transferTimer := some s.active.plan.tGen })
      ⟨rfl, rfl, rfl, rfl⟩
    exact .next hline

theorem execGenReadyTakenNegated_inOrder (h : s.toBlock.InOrder) : EndsInOrder (execGenReadyTakenNegated s) := by
  unfold execGenReadyTakenNegated
  split
  · have hline := Block.BudgetOk.congr
      (c := { s.toBlock with gen := Line.took false, transferTimer := none, genSettled := false }) h.budget rfl rfl
    exact .next hline.onGenNegated.ended
  · exact .next h

theorem execGenDerateTaken_inOrder (h : s.toBlock.InOrder) (v : Bool) : EndsInOrder (execGenDerateTaken v s) := by
  unfold execGenDerateTaken
  split
  · exact .next h
  · have hline := Block.BudgetOk.congr (c := { s.toBlock with derate := Line.took v }) h.budget rfl rfl
    exact .next (hline.recomputeAEff.keeps (Block.raiseEvaluation_keeps _)).ended

theorem execTransferSettleExpiry_inOrder (h : s.toBlock.InOrder) : EndsInOrder (execTransferSettleExpiry s) := by
  unfold execTransferSettleExpiry
  split
  · have hset := h.same (c := { s.toBlock with transferTimer := none, genSettled := true }) ⟨rfl, rfl, rfl, rfl⟩
    refine .next ?_
    dsimp only
    split
    · exact hset.budget.enterRecall.ended
    · exact hset
  · exact .next h

theorem execAdoptionExpiry_inOrder (h : s.toBlock.InOrder) : EndsInOrder (execAdoptionExpiry s) := by
  unfold execAdoptionExpiry
  split
  · have hset := h.same (c := { s.toBlock with adoptionTimer := none }) ⟨rfl, rfl, rfl, rfl⟩
    refine .next ?_
    dsimp only
    split
    · exact hset.budget.leaveAdopt.ended
    · exact hset
  · exact .next h

theorem execModeRepeatExpiry_inOrder (h : s.toBlock.InOrder) : EndsInOrder (execModeRepeatExpiry s) := by
  unfold execModeRepeatExpiry
  split
  · have hset := h.same (c := { s.toBlock with modeTimer := some Config.modeRepeat }) ⟨rfl, rfl, rfl, rfl⟩
    exact .next (hset.sends (Block.sendMode_only _))
  · exact .next h

theorem execRecallWorkEmpties_inOrder (h : s.toBlock.InOrder) : EndsInOrder (execRecallWorkEmpties s) := by
  have hset := h.same (c := { s.toBlock with recallReports := s.recallReports - 1 }) ⟨rfl, rfl, rfl, rfl⟩
  refine .next ?_
  dsimp only
  split
  · exact hset.budget.enterService.ended
  · exact hset

theorem execCommitmentListEmpties_inOrder (h : s.toBlock.InOrder) : EndsInOrder (execCommitmentListEmpties s) := by
  have hset := h.same (c := { s.toBlock with listReports := s.listReports - 1 }) ⟨rfl, rfl, rfl, rfl⟩
  refine .next ?_
  dsimp only
  split
  · exact hset.budget.enterNormal.ended
  · exact hset

/-! ### Expiries of cars and commitments -/

theorem execReportTimerExpiry_inOrder (h : s.toBlock.InOrder) (i : CarIx) : EndsInOrder (execReportTimerExpiry i s) := by
  unfold execReportTimerExpiry
  split
  · have hheld := (h.budget.modCar i Car.silenced).holdSilent i
    exact .next ((hheld.keeps (Block.trigger_keeps _)).sends (Block.carNotice_only _ _ _)).ended
  · exact .next h

theorem execGrantTimerExpiry_inOrder (h : s.toBlock.InOrder) (i : CarIx) : EndsInOrder (execGrantTimerExpiry i s) := by
  unfold execGrantTimerExpiry
  split
  · split
    · exact .next ⟨h.budget.lapse i _, Block.settled_finish _⟩
    · exact .next h
  · exact .next h

theorem execAccelerationTimerExpiry_inOrder (h : s.toBlock.InOrder) (i : CarIx) :
    EndsInOrder (execAccelerationTimerExpiry i s) := by
  unfold execAccelerationTimerExpiry
  split
  · split
    · exact .next ⟨h.budget.slowStart i, Block.settled_finish _⟩
    · exact .next h
  · exact .next h

theorem execRunTimerExpiry_inOrder (h : s.toBlock.InOrder) (i : CarIx) : EndsInOrder (execRunTimerExpiry i s) := by
  unfold execRunTimerExpiry
  split
  · split
    · have hexpired := h.budget.modCommitment i (f := fun c => { c with runTimer := .expired }) (fun _ => rfl)
        fun _ _ _ hs => hs
      exact .next (hexpired.keeps (Block.takeRunLimit_keeps _ i)).ended
    · exact .next h
  · exact .next h

theorem execSilentReleaseExpiry_inOrder (h : s.toBlock.InOrder) (i : CarIx) : EndsInOrder (execSilentReleaseExpiry i s) := by
  unfold execSilentReleaseExpiry
  split
  · split
    · exact .next ((h.budget.dropCommitment i).keeps (Block.takeEnd_keeps _ i _ _)).ended
    · exact .next h
  · exact .next h

theorem execSettleTimerExpiry_inOrder (h : s.toBlock.InOrder) : EndsInOrder (execSettleTimerExpiry s) := by
  unfold execSettleTimerExpiry
  split
  · have hset := Block.BudgetOk.congr (c := { s.toBlock with settleTimer := none }) h.budget rfl rfl
    exact .next (hset.keeps (Block.trigger_keeps _)).ended
  · exact .next h

theorem execOrderResendExpiry_inOrder (h : s.toBlock.InOrder) (i : CarIx) : EndsInOrder (execOrderResendExpiry i s) := by
  unfold execOrderResendExpiry
  split
  · exact .next (h.budget.keeps (Block.sendOrder_keeps _ i)).ended
  · exact .next h

theorem execDoorTimerExpiry_inOrder (h : s.toBlock.InOrder) (i : CarIx) : EndsInOrder (execDoorTimerExpiry i s) := by
  unfold execDoorTimerExpiry
  split
  · exact .next (h.budget.keeps (Block.park_keeps _ i true)).ended
  · exact .next h

/-! ### Ports, load and store -/

theorem execLineFault_inOrder (h : s.toBlock.InOrder) (p : PortId) : EndsInOrder (execLineFault p s) := by
  unfold execLineFault
  split
  · cases p with
    | g => exact .next h.faultG
    | c => exact .next h.budget.faultC
  · exact .next h

theorem execLineUp_inOrder (h : s.toBlock.InOrder) (p : PortId) : EndsInOrder (execLineUp p s) := by
  unfold execLineUp
  split
  · exact .next h
  · exact .next (h.lineUp p)

theorem execImageLoadComplete_inOrder (h : s.toBlock.InOrder) : EndsInOrder (execImageLoadComplete s) := by
  unfold execImageLoadComplete
  split
  · exact .next h
  · refine .next (h.same ?_)
    unfold Block.completeLoad
    split
    · exact ⟨rfl, rfl, rfl, rfl⟩
    · exact ⟨rfl, rfl, rfl, rfl⟩

theorem execIdleTimerExpiry_inOrder (h : s.toBlock.InOrder) : EndsInOrder (execIdleTimerExpiry s) := by
  unfold execIdleTimerExpiry
  split
  · exact .next (h.same (Block.modMgmt_sameBudget _ _))
  · exact .next h

theorem execStoreWriteComplete_inOrder (h : s.toBlock.InOrder) (matched : Bool) :
    EndsInOrder (execStoreWriteComplete matched s) := by
  unfold execStoreWriteComplete
  split
  · exact .next (h.same (Block.storeDone_sameBudget _ _ _ _ _))
  · exact .next h

theorem execEraseComplete_inOrder (h : s.toBlock.InOrder) (blank : Bool) : EndsInOrder (execEraseComplete blank s) := by
  unfold execEraseComplete
  split
  · exact .next (h.same (Block.storeDone_sameBudget _ _ _ _ _))
  · exact .next h

/-! ### Every command -/

/-- Every command leaves the budget in order and no work over. -/
theorem exec_inOrder (h : s.toBlock.InOrder) (c : Instr) : EndsInOrder (exec c s) := by
  have hport : ∀ p f, EndsInOrder (.next { s with toBlock := s.toBlock.modPort p f }) := fun p f =>
    .next (h.same (Block.modPort_sameBudget _ p f))
  have hrequest : ∀ src r, EndsInOrder (request src r s) := fun src r => .next (h.takeRequest src r)
  cases c with
  | powerOnReset => exact .next (Block.resetWith_inOrder _ _)
  | resetN => exact .next (Block.resetWith_inOrder _ _)
  | restartReset => exact .next (Block.resetWith_inOrder _ _)
  | imageLoadComplete => exact execImageLoadComplete_inOrder h
  | xferEmergTakenAsserted => exact execXferEmergTakenAsserted_inOrder h
  | xferEmergTakenNegated => exact execXferEmergTakenNegated_inOrder h
  | genReadyTakenAsserted => exact execGenReadyTakenAsserted_inOrder h
  | genReadyTakenNegated => exact execGenReadyTakenNegated_inOrder h
  | genDerateTaken v => exact execGenDerateTaken_inOrder h v
  | transferSettleExpiry => exact execTransferSettleExpiry_inOrder h
  | adoptionExpiry => exact execAdoptionExpiry_inOrder h
  | modeRepeatExpiry => exact execModeRepeatExpiry_inOrder h
  | recallWorkEmpties => exact execRecallWorkEmpties_inOrder h
  | commitmentListEmpties => exact execCommitmentListEmpties_inOrder h
  | carReport => exact .next (h.takeFrame .c _ fun _ f hc => hc.onCarReport f)
  | reportTimerExpiry i => exact execReportTimerExpiry_inOrder h i
  | startRequest => exact .next (h.takeFrame .c _ fun _ f hc => hc.onStartRequest f)
  | startCancel => exact .next (h.takeFrame .c _ fun _ f hc => hc.onStartCancel f)
  | grantTimerExpiry i => exact execGrantTimerExpiry_inOrder h i
  | accelerationTimerExpiry i => exact execAccelerationTimerExpiry_inOrder h i
  | runTimerExpiry i => exact execRunTimerExpiry_inOrder h i
  | silentReleaseExpiry i => exact execSilentReleaseExpiry_inOrder h i
  | settleTimerExpiry => exact execSettleTimerExpiry_inOrder h
  | orderResendExpiry i => exact execOrderResendExpiry_inOrder h i
  | doorTimerExpiry i => exact execDoorTimerExpiry_inOrder h i
  | dispatchOrder => exact .next (h.takeFrame .g _ fun _ f hc => hc.onDispatchOrder f)
  | relayedFrame p => exact .next (h.takeFrame p _ fun c f hc => hc.sends (Block.relayFrame_only p c f))
  | frameEnd p rest => exact hport p _
  | nextFrameBegins p first => exact hport p _
  | holdInChange p v => exact hport p _
  | frameSendStart p => exact hport p _
  | frameSent p => exact .next (h.frameSent p)
  | lineFault p => exact execLineFault_inOrder h p
  | lineUp p => exact execLineUp_inOrder h p
  | managementRequestPart => exact .next (h.takeFrame .g _ fun _ f hc => hc.onRequestPart f)
  | readPlan src => exact hrequest src _
  | readCars src start count => exact hrequest src _
  | readQueue src => exact hrequest src _
  | readCommitments src => exact hrequest src _
  | readLink src => exact hrequest src _
  | writeCars src start count records => exact hrequest src _
  | writePlan src record => exact hrequest src _
  | commit src => exact hrequest src _
  | discard src => exact hrequest src _
  | select src form cars => exact hrequest src _
  | retryCar src car => exact hrequest src _
  | restart src => exact hrequest src _
  | unlock src level key => exact hrequest src _
  | lock src => exact hrequest src _
  | setKey src level key => exact hrequest src _
  | freeze src => exact hrequest src _
  | wipePrepare src => exact hrequest src _
  | wipe src => exact hrequest src _
  | idleTimerExpiry => exact execIdleTimerExpiry_inOrder h
  | storeWriteComplete matched => exact execStoreWriteComplete_inOrder h matched
  | eraseComplete blank => exact execEraseComplete_inOrder h blank
  | responsePartPlaced => exact .next (h.same (Block.placePart_sameBudget _))
  | firstByteAfterIdleLine p first => exact hport p _

theorem step_inOrder (h : s.toBlock.InOrder) : EndsInOrder (step s) := by
  unfold step
  split
  · exact .next (State.idle_inOrder h)
  · rename_i c rest _
    exact exec_inOrder (s := { toBlock := s.toBlock, pending := rest }) h c

end Sys2Proof.Machine

open Sys2Proof Sys2Proof.Machine

/-- Settles O58: a command that changes list, queue or slot keeps them in order, and its step ends with its evaluation and its
pass; every other command leaves them and the two marks alone. -/
theorem everyStepKeepsBudget : Obligations.EveryStepKeepsBudget := by
  unfold Obligations.EveryStepKeepsBudget
  intro s t hbudget hsettled ht
  obtain ⟨hbudget', hsettled'⟩ := step_inOrder ⟨hbudget, hsettled⟩ t ht
  exact ⟨hbudget', hsettled'⟩

end

section
/-! The commitments after a reset and in ADOPT (R67, R71), and what the expiry of a commitment's timer makes of the list, the slot and the
car (R60, R62, R64, R66). -/

namespace Sys2Proof.Machine

variable {b c : Block} {i : CarIx}

/-! ### A removal from the list (R62, R66) -/

/-- The end of a step adds no commitment but of a car that had an entry (R56). -/
theorem Block.finish_listCars (b : Block) {j : CarIx} (h : j ∈ listCars b.finish.commitments) :
    j ∈ listCars b.commitments ∨ j ∈ queueCars b.queue := by
  have hkeeps := b.takeEvaluation_keeps
  rw [Block.finish, (Block.resendAll _).keeps.commitments] at h
  rcases b.takeEvaluation.takeTrigger_cases with ⟨x, hx⟩ | ⟨e, noted, he, hx⟩
  · rw [hx] at h
    exact .inl (hkeeps.commitments ▸ h)
  · have hlist : b.takeEvaluation.takeTrigger.commitments = b.commitments ++ [e.commitment b.takeEvaluation.active.plan] := by
      rw [hx, ← hkeeps.commitments]
      exact (b.takeEvaluation.grantEntry_grants e noted).list
    rw [hlist, listCars, List.map_append, List.mem_append] at h
    refine h.imp_right fun hj => ?_
    have hj : j = e.car := List.mem_singleton.mp hj
    exact hj ▸ hkeeps.queue.1 e.car (List.mem_map_of_mem he)

/-- A car that holds a commitment has no entry (R54, R72). -/
theorem Block.BudgetOk.unqueued (h : b.BudgetOk) {k : Commitment} (hk : b.commitment? i = some k) : i ∉ queueCars b.queue := by
  obtain ⟨hmem, rfl⟩ := Block.commitment?_mem hk
  exact fun hq => h.apart _ hq (List.mem_map_of_mem hmem)

/-- What the end of a step leaves once a car's commitment has been removed without settle (R62, R66). -/
structure Block.Drops (b : Block) (i : CarIx) (t : Block) : Prop where
  gone        : i ∉ listCars t.commitments
  others      : b.commitments.filter (fun x => x.car ≠ i) <+: t.commitments
  plan        : t.plan = b.plan
  settleTimer : t.settleTimer = b.settleTimer
  base        : b.KeepsBase t

/-- The car of a removed commitment has no entry, so its step grants it nothing. -/
theorem Block.finish_drops (h : b.BudgetOk) {k : Commitment} (hk : b.commitment? i = some k)
    (hc : (b.dropCommitment i).KeepsBudget c) : b.Drops i c.finish := by
  have hlist : c.commitments = b.commitments.filter (fun x => x.car ≠ i) := hc.commitments
  have hplan : c.plan = b.plan := hc.plan
  have hsettle : c.settleTimer = b.settleTimer := hc.settleTimer
  have hbase : b.KeepsBase c := (b.dropCommitment_keepBase i).trans hc.toKeepsBase
  refine ⟨fun hi => ?_, hlist ▸ c.finish_commitments, c.finish_keeps.plan.trans hplan,
    c.finish_keeps.settleTimer.trans hsettle, hbase.trans c.finish_keeps.toKeepsBase⟩
  rcases c.finish_listCars hi with hm | hm
  · rw [hlist] at hm
    obtain ⟨k, hk, hki⟩ := List.mem_map.mp hm
    exact absurd hki (by simpa using (List.mem_filter.mp hk).2)
  · exact h.unqueued hk (hc.queue.1 i hm)

/-! ### A car that fails (R115, R119) -/

theorem RState.unfailing_iff (st : RState) : st.unfailing = true ↔ st = .failed ∨ st = .conflict := by
  cases st <;> simp [RState.unfailing]

theorem RState.unfailing_eq_false {st : RState} (h1 : st ≠ .failed) (h2 : st ≠ .conflict) : st.unfailing = false := by
  rw [← Bool.not_eq_true, RState.unfailing_iff]
  exact not_or.mpr ⟨h1, h2⟩

/-- A car that fails in a step is FAILED at its end, with that reason and no order (R119). -/
theorem Block.finish_fail (r : Reason) (hs : (b.car i).state ≠ .failed) :
    (((b.fail i r).finish).car i).state = .failed ∧ (((b.fail i r).finish).car i).reason = r ∧
      (((b.fail i r).finish).car i).order = none := by
  have hcar := (b.move_touches i .failed r false).this
  rw [Car.moved_of_ne _ hs] at hcar
  have hfailed : ((b.fail i r).car i).state = .failed := hcar.state
  have hpass := (b.fail i r).finish_passed i
  rw [Block.takeEvaluation_other (by rw [hfailed]; rfl) (by rw [hfailed]; decide)] at hpass
  have hpending : ((b.fail i r).car i).state ≠ .recallPending := by rw [hfailed]; decide
  exact ⟨(hpass.grant.keepsState hpending).trans hfailed, (hpass.kept hpending).1.trans hcar.reason,
    hpass.grant.same.order.trans hcar.order⟩

/-- A car whose commitment is released for silence fails (R66, R115). -/
theorem Block.takeEnd_released {k : Commitment} (h1 : (b.car i).state ≠ .failed) (h2 : (b.car i).state ≠ .conflict) :
    b.takeEnd i k .released = b.fail i .silent :=
  if_neg (by rw [RState.unfailing_eq_false h1 h2]; decide)

/-! ### A lapsed grant (R62) -/

/-- The block of a lapsed grant once its refusal has been sent (R62). -/
def Block.refusedLapsed (b : Block) (i : CarIx) (tag : Byte) : Block := (b.dropCommitment i).refuseBound i tag .lapsed

theorem Block.refusedLapsed_only (b : Block) (i : CarIx) (tag : Byte) : (b.dropCommitment i).OnlySends (b.refusedLapsed i tag) :=
  Block.refuseBound_only _ _ _ _

theorem Block.lapse_tagged {k : Commitment} {tag : Byte} (ht : k.tag = some tag) :
    b.lapse i k = ((b.refusedLapsed i tag).takeEnd i k .lapsed).finish := by
  unfold Block.lapse
  rw [ht]
  rfl

/-- The refusal of a lapsed grant goes to the bound node, where the C-port has room (R62, R99). -/
theorem Block.refusedLapsed_cport {n : Nat} (hn : (b.car i).bound = some n) (tag : Byte) (hr : b.cport.roomOwn = true) :
    (b.refusedLapsed i tag).cport.tx =
      b.cport.tx ++ [ownItem (b.ownFrame (byteOf n) .startRefusal [byteOf (carNo i), tag, 15])] := by
  have hbound : ((b.dropCommitment i).car i).bound = some n := hn
  unfold Block.refusedLapsed Block.refuseBound Block.boundNode
  rw [hbound]
  exact congrArg Port.tx ((Block.cport_sendCarOrLose (b.dropCommitment i) _ _ _).trans (if_pos hr))

/-- A RECALLING or DIVERTING car whose commitment has lapsed counts an attempt (R115, R116). -/
theorem Block.takeEnd_lapsed {k : Commitment} (hs : (b.car i).state = .recalling ∨ (b.car i).state = .diverting) :
    b.takeEnd i k .lapsed = b.countAttempt i := by
  unfold Block.takeEnd
  rcases hs with hs | hs
  · rw [hs]
    rfl
  · rw [hs]
    rfl

/-- A counted attempt of a car without an entry stands at the end of the step (R116). -/
theorem Block.finish_countAttempt (hq : b.entry? i = none) :
    ((b.countAttempt i).finish.car i).attempts = (b.car i).attempts + 1 ∧
      ((b.car i).attempts + 1 < b.active.plan.attemptLimit → ((b.countAttempt i).finish.car i).state = .recallPending) := by
  obtain ⟨hattempts, hstate⟩ := b.countAttempt_car i
  have hnone : (b.countAttempt i).entry? i = none :=
    Block.entry?_eq_none.mpr fun hi => Block.entry?_eq_none.mp hq ((b.countAttempt_keeps i).queue.1 i hi)
  have hleft : (b.countAttempt i).takeEvaluation.car i = (b.countAttempt i).car i := by
    split at hstate
    · exact Block.takeEvaluation_other (by rw [hstate.1]; rfl) (by rw [hstate.1]; decide)
    · exact Block.takeEvaluation_other (by rw [hstate]; rfl) (by rw [hstate]; decide)
  have hmarks := Block.finish_unqueued_marks hnone
  rw [hleft] at hmarks
  refine ⟨hmarks.attempts.trans hattempts, fun hlim => hmarks.state.trans ?_⟩
  rw [if_pos hlim] at hstate
  exact hstate.1

/-! ### The run limit (R64) -/

/-- The block of a run limit before the Restoration Controller is told (R64). -/
def Block.runOut (b : Block) (i : CarIx) : Block := { b with commitments := b.commitments.map (ranOut i) }

theorem Block.runOut_keepBase (b : Block) (i : CarIx) : b.KeepsBase (b.runOut i) :=
  b.commitments_keepBase _ b.listReports b.arbDue

/-- A car fails at its run limit, and stays so to the end of the step (R64, R115). -/
theorem Block.takeRunLimit_fails (h1 : (b.car i).state ≠ .failed) (h2 : (b.car i).state ≠ .conflict) :
    ((b.takeRunLimit i).finish.car i).state = .failed ∧ ((b.takeRunLimit i).finish.car i).reason = .runLimit ∧
      ((b.takeRunLimit i).finish.car i).order = none := by
  rw [Block.takeRunLimit, RState.unfailing_eq_false h1 h2]
  exact Block.finish_fail .runLimit h1

/-- No cause moves a car that is FAILED or in CONFLICT, and its run limit is no trigger (R115). -/
theorem Block.takeRunLimit_stays (h : b.Settled) (hs : (b.car i).state = .failed ∨ (b.car i).state = .conflict) :
    (b.car i).SameButMarks ((b.takeRunLimit i).finish.car i) := by
  rw [Block.takeRunLimit, (RState.unfailing_iff _).mpr hs]
  exact (Block.finish_settled h).1.sameButMarks i

/-! ### A slow start (R60) -/

/-- An order-resend timer that follows its conditions changes no more than its car (R101). -/
theorem Block.syncResend_cars (b : Block) (i : CarIx) : ∃ v, b.syncResend i = { b with cars := v } := by
  unfold Block.syncResend
  repeat' split
  all_goals exact ⟨_, rfl⟩

theorem Block.syncResend_allCars (b : Block) : ∃ v, allCars.foldl Block.syncResend b = { b with cars := v } := by
  refine foldl_rel (R := fun b c : Block => ∃ v, c = { b with cars := v }) (fun b => ⟨b.cars, rfl⟩) (fun h k => ?_)
    Block.syncResend_cars allCars b
  obtain ⟨v, rfl⟩ := h
  obtain ⟨w, rfl⟩ := k
  exact ⟨w, rfl⟩

/-- With the settle timer running and no evaluation due, the end of a step clears its trigger and follows the order-resend timers
(R82, R101). -/
theorem Block.finish_settling (he : b.evalDue = false) (ht : b.settleTimer ≠ none) (hd : b.arbDue = true) :
    (∃ v, b.finish = { b with arbDue := false, cars := v }) ∧ ∀ j, (b.car j).SameButMarks (b.finish.car j) := by
  have hbarred : b.passAllowed = false := by
    rw [← Bool.not_eq_true, b.passAllowed_iff]
    exact fun h => ht h.2.1
  have hfinish : b.finish = allCars.foldl Block.syncResend { b with arbDue := false } := by
    rw [Block.finish, Block.takeEvaluation, if_neg (by rw [he]; decide), Block.takeTrigger, if_pos hd, hbarred]
    rfl
  rw [hfinish]
  exact ⟨Block.syncResend_allCars _, fun j => (Block.resendAll { b with arbDue := false }).sameButMarks j⟩

/-- The block of a slow start before the end of the step, where T_settle is above 0 (R60). -/
def Block.slowStarting (b : Block) (i : CarIx) : Block :=
  { b with
    commitments := b.commitments.map (slowStarted i), settleTimer := some b.active.plan.tSettle, arbDue := true }

theorem Block.freeWithSettle_eq (h : b.active.plan.tSettle ≠ 0) :
    b.freeWithSettle = { b with settleTimer := some b.active.plan.tSettle } := by
  rw [Block.freeWithSettle, if_neg h]

theorem Block.slowStart_eq (i : CarIx) (h : b.active.plan.tSettle ≠ 0) : b.slowStart i = (b.slowStarting i).finish := by
  have hstart : (b.modCommitment i fun c => { c with phase := .running, slowStart := true, accelTimer := none
      }).freeWithSettle.trigger = b.slowStarting i := by
    rw [Block.freeWithSettle_eq (b := b.modCommitment i _) h]
    rfl
  exact congrArg Block.finish hstart

/-! ### The commands -/

section
variable {s : State} {k : Commitment}

theorem exec_grantTimerExpiry (hk : s.toBlock.commitment? i = some k) (hp : k.phase = .granted)
    (hg : k.grantTimer.isSome = true) :
    exec (.grantTimerExpiry i) s = .next { s with toBlock := s.toBlock.lapse i k } := by
  show execGrantTimerExpiry i s = _
  rw [execGrantTimerExpiry, hk]
  exact if_pos (by simp [Commitment.grantRuns, hp, hg])

theorem exec_accelerationTimerExpiry (hk : s.toBlock.commitment? i = some k) (hp : k.phase = .starting)
    (ha : k.accelTimer.isSome = true) :
    exec (.accelerationTimerExpiry i) s = .next { s with toBlock := s.toBlock.slowStart i } := by
  show execAccelerationTimerExpiry i s = _
  rw [execAccelerationTimerExpiry, hk]
  exact if_pos (by simp [Commitment.accelRuns, hp, ha])

theorem exec_runTimerExpiry (hk : s.toBlock.commitment? i = some k) {n : Nat} (hr : k.runTimer = .running n) :
    exec (.runTimerExpiry i) s = .next { s with toBlock := ((s.toBlock.runOut i).takeRunLimit i).finish } := by
  show execRunTimerExpiry i s = _
  rw [execRunTimerExpiry, hk]
  exact if_pos (by simp [Commitment.runRuns, hr])

theorem exec_silentReleaseExpiry (hk : s.toBlock.commitment? i = some k) (hh : k.silentHold = true)
    (hr : k.releaseTimer.isSome = true) : exec (.silentReleaseExpiry i) s =
      .next { s with toBlock := ((s.toBlock.dropCommitment i).takeEnd i k .released).finish } := by
  show execSilentReleaseExpiry i s = _
  rw [execSilentReleaseExpiry, hk]
  exact if_pos (by simp [Commitment.releaseRuns, hh, hr])

end

end Sys2Proof.Machine

open Sys2Proof Sys2Proof.Machine

/-- Settles O6: every kind of reset leaves the after-reset block, and in ADOPT the Budget Unit's stage adopts a moving car. -/
theorem commitmentsAfterReset : Obligations.CommitmentsAfterReset := by
  unfold Obligations.CommitmentsAfterReset
  refine ⟨fun s c hc => ?_, fun b i hp hk hm => ?_⟩
  · have hreset : ∃ m, exec c s = .next { s with toBlock := s.toBlock.resetWith m } := by
      rcases hc with rfl | rfl | rfl
      · exact ⟨_, rfl⟩
      · exact ⟨_, rfl⟩
      · exact ⟨_, rfl⟩
    obtain ⟨m, hm⟩ := hreset
    exact ⟨_, hm, rfl, rfl, rfl, rfl, fun _ => rfl, rfl⟩
  · rw [Block.budgetStage_adopts hk hm hp]
    exact ⟨_, (b.adopt_leaves i false).1, rfl, rfl, rfl⟩

/-- Settles O26: the commitment is removed before its refusal is sent, and a car without an entry can be granted nothing in the
step. -/
theorem grantLapses : Obligations.GrantLapses := by
  unfold Obligations.GrantLapses
  intro s i k tag n hok _ hk hphase hgrant htag hn
  have honly := s.toBlock.refusedLapsed_only i tag
  have hend := (s.toBlock.refusedLapsed i tag).takeEnd_keeps i k .lapsed
  have hdrops := Block.finish_drops hok hk (honly.toKeepsBudget.trans hend)
  have hcar : (s.toBlock.refusedLapsed i tag).car i = s.toBlock.car i := honly.car_eq i
  have hentry : (s.toBlock.refusedLapsed i tag).entry? i = none :=
    (Block.entry?_congr honly.sameQueue i).trans (Block.entry?_eq_none.mpr (hok.unqueued hk))
  have hrefused := fun hr => (hend.cport.trans (Block.finish_keeps _).cport).behind
    (Block.refusedLapsed_cport (b := s.toBlock) hn tag hr)
  have hattempt := Block.finish_countAttempt hentry
  rw [hcar, honly.active] at hattempt
  have hcounts := fun hs : (s.toBlock.car i).state = .recalling ∨ (s.toBlock.car i).state = .diverting =>
    Block.takeEnd_lapsed (k := k) (hcar.symm ▸ hs) ▸ hattempt
  have hexec := exec_grantTimerExpiry hk hphase hgrant
  rw [Block.lapse_tagged htag] at hexec
  generalize ((s.toBlock.refusedLapsed i tag).takeEnd i k .lapsed).finish = t at hexec hdrops hrefused hcounts
  exact ⟨_, hexec, hdrops.gone, hdrops.others, hrefused, hcounts, hdrops.plan, hdrops.settleTimer, hdrops.base⟩

/-- Settles O27: the settle timer that the freed slot starts bars the pass of the step's trigger. -/
theorem accelerationExpirySlowStart : Obligations.AccelerationExpirySlowStart := by
  unfold Obligations.AccelerationExpirySlowStart
  rintro s i k ⟨harb, heval⟩ hk hphase haccel hsettle
  obtain ⟨⟨v, hv⟩, hmarks⟩ := Block.finish_settling (b := s.toBlock.slowStarting i) heval nofun rfl
  have harbDue : ({ s.toBlock.slowStarting i with arbDue := false, cars := v } : Block) =
      { s.toBlock.slowStarting i with arbDue := s.arbDue, cars := v } := by rw [harb]
  have hexec := exec_accelerationTimerExpiry hk hphase haccel
  rw [Block.slowStart_eq i hsettle, hv, harbDue] at hexec
  rw [hv] at hmarks
  exact ⟨_, hexec, rfl, hmarks⟩

/-- Settles O28: the commitment is kept but for its run timer, and the car's failure stands to the end of the step. -/
theorem runLimitFailsCar : Obligations.RunLimitFailsCar := by
  unfold Obligations.RunLimitFailsCar
  intro s i k n hsettled hk hrun
  have hkeeps := (s.toBlock.runOut i).takeRunLimit_keeps i
  have hfinish := ((s.toBlock.runOut i).takeRunLimit i).finish_keeps
  have hlist := ((s.toBlock.runOut i).takeRunLimit i).finish_commitments
  rw [hkeeps.commitments] at hlist
  have hplan := hfinish.plan.trans hkeeps.plan
  have hsettle := hfinish.settleTimer.trans hkeeps.settleTimer
  have hbase := ((s.toBlock.runOut_keepBase i).trans hkeeps.toKeepsBase).trans hfinish.toKeepsBase
  have hfails := Block.takeRunLimit_fails (b := s.toBlock.runOut i) (i := i)
  have hstays := Block.takeRunLimit_stays (b := s.toBlock.runOut i) (i := i) hsettled
  have hexec := exec_runTimerExpiry hk hrun
  generalize ((s.toBlock.runOut i).takeRunLimit i).finish = t at hexec hlist hfails hstays hplan hsettle hbase
  exact ⟨_, hexec, hlist, hfails, hstays, hplan, hsettle, hbase⟩

/-- Settles O29: the commitment is removed without settle, and the car's failure stands to the end of the step. -/
theorem silentReleaseFailsCar : Obligations.SilentReleaseFailsCar := by
  unfold Obligations.SilentReleaseFailsCar
  intro s i k hok _ hk hhold hrelease
  have hdrops := Block.finish_drops hok hk ((s.toBlock.dropCommitment i).takeEnd_keeps i k .released)
  have hfails : (s.toBlock.car i).state ≠ .failed → (s.toBlock.car i).state ≠ .conflict →
      (((s.toBlock.dropCommitment i).takeEnd i k .released).finish.car i).state = .failed ∧
        (((s.toBlock.dropCommitment i).takeEnd i k .released).finish.car i).reason = .silent := fun h1 h2 => by
    rw [Block.takeEnd_released (b := s.toBlock.dropCommitment i) h1 h2]
    obtain ⟨hstate, hreason, -⟩ := Block.finish_fail (b := s.toBlock.dropCommitment i) .silent h1
    exact ⟨hstate, hreason⟩
  have hexec := exec_silentReleaseExpiry hk hhold hrelease
  generalize ((s.toBlock.dropCommitment i).takeEnd i k .released).finish = t at hexec hdrops hfails
  exact ⟨_, hexec, hdrops.gone, hdrops.others, hfails, hdrops.plan, hdrops.settleTimer, hdrops.base⟩

end

section
/-! The scan of a pass (R84, R86, R87), what a grant leaves of the entries it is made past (R85), and the settle timer's
expiry (R81). -/

namespace Sys2Proof.Machine

variable {b : Block} {e : Entry} {pre post q : List Entry} {l noted : List CarIx}

/-! ### One entry of a scan -/

/-- A scan stops at this entry with a grant: its car is not silent and it fits (R84). -/
def Block.grantable (b : Block) (e : Entry) : Prop := (b.car e.car).learned.silent = false ∧ b.verdict e = .fits

/-- The upper condition holds this entry back: its car is not silent, and a grant behind it counts as a skip (R85). -/
def Block.heldBack (b : Block) (e : Entry) : Bool := !(b.car e.car).learned.silent && decide (b.verdict e = .upper)

theorem Block.heldBack_iff : b.heldBack e = true ↔ (b.car e.car).learned.silent = false ∧ b.verdict e = .upper := by
  simp [Block.heldBack]

theorem Block.scan_cons_of_grantable (h : b.grantable e) : b.scan (e :: q) l = some (e, l) := by
  obtain ⟨hheard, hfits⟩ := h
  simp [Block.scan, hheard, hfits]

/-- A scan goes on behind an entry that is passed over, and notes it where the upper condition holds it back (R84, R86, R87). -/
theorem Block.scan_cons_of_passesOver (h : b.passesOver e) :
    b.scan (e :: q) l = b.scan q (if b.heldBack e then e.car :: l else l) := by
  cases hsilent : (b.car e.car).learned.silent with
  | true => simp [Block.scan, Block.heldBack, hsilent]
  | false =>
    rcases h with h | h | h | ⟨h, hblocking⟩
    · rw [hsilent] at h
      cases h
    · simp [Block.scan, Block.heldBack, hsilent, h]
    · simp [Block.scan, Block.heldBack, hsilent, h]
    · simp [Block.scan, Block.heldBack, hsilent, h, hblocking]

/-- An entry that is neither granted nor passed over is BLOCKING and held back by the upper condition: the scan ends there
without a grant (R87). -/
theorem Block.scan_cons_cases (b : Block) (e : Entry) :
    b.grantable e ∨ b.passesOver e ∨ ∀ q l, b.scan (e :: q) l = none := by
  cases hsilent : (b.car e.car).learned.silent with
  | true => exact .inr (.inl (.inl hsilent))
  | false =>
    cases hverdict : b.verdict e with
    | fits => exact .inl ⟨hsilent, hverdict⟩
    | lower => exact .inr (.inl (.inr (.inl hverdict)))
    | count => exact .inr (.inl (.inr (.inr (.inl hverdict))))
    | upper =>
      cases hblocking : e.blocking with
      | false => exact .inr (.inl (.inr (.inr (.inr ⟨hverdict, hblocking⟩))))
      | true => exact .inr (.inr fun q l => by simp [Block.scan, hsilent, hverdict, hblocking])

theorem Block.passesOver.not_fits (h : b.passesOver e) : (b.car e.car).learned.silent = true ∨ b.verdict e ≠ .fits := by
  refine h.imp_right ?_
  rintro (h | h | ⟨h, -⟩) <;> simp [h]

/-- An entry that the upper condition holds back is passed over only while it is not BLOCKING (R87). -/
theorem Block.passesOver.not_blocking (h : b.passesOver e) (hheld : b.heldBack e = true) : e.blocking = false := by
  obtain ⟨hheard, hupper⟩ := Block.heldBack_iff.mp hheld
  simpa [Block.passesOver, hheard, hupper] using h

/-! ### A whole scan -/

/-- The cars that a scan notes while it passes over these entries, the last one first (R85). -/
def Block.notedIn (b : Block) (pre : List Entry) : List CarIx := ((pre.filter b.heldBack).map fun x => x.car).reverse

theorem Block.mem_notedIn {i : CarIx} : i ∈ b.notedIn pre ↔ ∃ x ∈ pre, b.heldBack x = true ∧ x.car = i := by
  simp [Block.notedIn, and_assoc]

theorem Block.notedIn_cons_append (b : Block) (e : Entry) (pre : List Entry) (l : List CarIx) :
    b.notedIn (e :: pre) ++ l = b.notedIn pre ++ if b.heldBack e then e.car :: l else l := by
  cases h : b.heldBack e <;> simp [Block.notedIn, h]

/-- A scan grants the entry it reaches over entries that are passed over (R84). -/
theorem Block.scan_append (hpre : ∀ x ∈ pre, b.passesOver x) (he : b.grantable e) (l : List CarIx) :
    b.scan (pre ++ e :: post) l = some (e, b.notedIn pre ++ l) := by
  induction pre generalizing l with
  | nil => exact Block.scan_cons_of_grantable he
  | cons x pre ih =>
    obtain ⟨hx, hpre⟩ := List.forall_mem_cons.mp hpre
    rw [List.cons_append, Block.scan_cons_of_passesOver hx, ih hpre, Block.notedIn_cons_append]

/-- A scan grants in no other way (R84). -/
theorem Block.exists_of_scan (h : b.scan q l = some (e, noted)) : ∃ pre post, q = pre ++ e :: post ∧
    (∀ x ∈ pre, b.passesOver x) ∧ b.grantable e ∧ noted = b.notedIn pre ++ l := by
  induction q generalizing l with
  | nil => cases h
  | cons x q ih =>
    rcases b.scan_cons_cases x with hx | hx | hx
    · rw [Block.scan_cons_of_grantable hx] at h
      cases h
      exact ⟨[], q, rfl, nofun, hx, rfl⟩
    · rw [Block.scan_cons_of_passesOver hx] at h
      obtain ⟨pre, post, rfl, hpre, he, rfl⟩ := ih h
      exact ⟨x :: pre, post, rfl, List.forall_mem_cons.mpr ⟨hx, hpre⟩, he, (b.notedIn_cons_append x pre l).symm⟩
    · rw [hx] at h
      cases h

/-! ### The entries that a grant is made past (R85) -/

/-- With one entry for a car, a car is noted for its own entry alone. -/
theorem Block.mem_notedIn_iff_heldBack (hn : (queueCars pre).Nodup) {x : Entry} (hx : x ∈ pre) :
    x.car ∈ b.notedIn pre ↔ b.heldBack x = true := by
  rw [Block.mem_notedIn]
  refine ⟨?_, fun h => ⟨x, hx, h, rfl⟩⟩
  rintro ⟨y, hy, hheld, hcar⟩
  exact List.inj_on_of_nodup_map hn hy hx hcar ▸ hheld

/-- A noted entry that was passed over gains a skip, and every other one stays (R85). -/
theorem Block.bump_eq_skipped (h : b.passesOver e) :
    (if b.heldBack e then e.bump b.active.plan.skipLimit else e) = b.skipped e := by
  by_cases hheld : b.heldBack e = true
  · rw [if_pos hheld, Block.skipped, if_pos (Block.heldBack_iff.mp hheld), Entry.bump, h.not_blocking hheld, Bool.false_or]
  · rw [if_neg hheld, Block.skipped, if_neg fun hx => hheld (Block.heldBack_iff.mpr hx)]

/-- The queue behind a grant past other entries, with one entry for a car (R85). -/
theorem Block.queue_committed_behind (hq : b.queue = pre ++ e :: post) (hn : (queueCars b.queue).Nodup)
    (hpre : ∀ x ∈ pre, b.passesOver x) : (b.committed e (b.notedIn pre)).queue = pre.map b.skipped ++ post := by
  rw [hq, queueCars, List.map_append, List.map_cons] at hn
  obtain ⟨hnpre, hnpost, happart⟩ := List.nodup_append.mp hn
  have hfirst : pre.filter (fun x => x.car ≠ e.car) = pre := List.filter_eq_self.mpr fun x hx => by
    simpa using happart x.car (List.mem_map_of_mem hx) e.car List.mem_cons_self
  have hlast : post.filter (fun x => x.car ≠ e.car) = post := List.filter_eq_self.mpr fun x hx => by
    simpa using fun he : x.car = e.car => (List.nodup_cons.mp hnpost).1 (he ▸ List.mem_map_of_mem hx)
  have hleft : b.queue.filter (fun x => x.car ≠ e.car) = pre ++ post := by
    rw [hq, List.filter_append, List.filter_cons_of_neg (by simp), hfirst, hlast]
  simp only [Block.committed, hleft, List.map_append]
  congr 1
  · refine List.map_congr_left fun x hx => ?_
    rw [← Block.bump_eq_skipped (hpre x hx)]
    simp only [List.contains_iff_mem, Block.mem_notedIn_iff_heldBack hnpre hx]
  · refine (List.map_congr_left fun x hx => if_neg fun hnoted => ?_).trans (List.map_id' post)
    obtain ⟨y, hy, -, hcar⟩ := Block.mem_notedIn.mp (List.contains_iff_mem.mp hnoted)
    exact happart y.car (List.mem_map_of_mem hy) x.car (List.mem_cons_of_mem _ (List.mem_map_of_mem hx)) hcar

/-- A step that ends with an allowed pass and no evaluation grants the first entry that fits (R82, R84, R85). -/
theorem Block.finish_grantsBehind (hdue : b.arbDue = true) (heval : b.evalDue = false) (hallowed : b.passAllowed = true)
    (hq : b.queue = pre ++ e :: post) (hn : (queueCars b.queue).Nodup) (hpre : ∀ x ∈ pre, b.passesOver x)
    (he : b.grantable e) : b.GrantsHead e (pre.map b.skipped ++ post) b.cport.tx b.finish := by
  have hscan : b.scan b.queue [] = some (e, b.notedIn pre) := by
    rw [hq, Block.scan_append hpre he, List.append_nil]
  have hpass : b.takeEvaluation.takeTrigger = { b.grantEntry e (b.notedIn pre) with arbDue := false } := by
    rw [Block.takeEvaluation, if_neg (by rw [heval]; decide), Block.takeTrigger, if_pos hdue, if_pos hallowed, Block.pass, hscan]
  obtain ⟨hfree, -, -, hroom⟩ := b.passAllowed_iff.mp hallowed
  have hgrants := b.grantEntry_grants e (b.notedIn pre)
  have hresends := Block.resendAll b.takeEvaluation.takeTrigger
  rw [← Block.finish, hpass] at hresends
  have hlist : b.finish.commitments = b.commitments ++ [e.commitment b.active.plan] :=
    hresends.keeps.commitments.trans hgrants.list
  refine ⟨?_, hlist, slotHolder_append hlist hfree rfl, fun n hbound => ?_⟩
  · exact hresends.queue.trans (hgrants.queue.trans (Block.queue_committed_behind hq hn hpre))
  · rw [hresends.cport]
    exact hgrants.grant n hbound hroom

/-! ### The settle timer's expiry (R81) -/

/-- The block of a settle timer's expiry, with the trigger raised (R81, R83). -/
def Block.settleExpired (b : Block) : Block := { b with settleTimer := none, arbDue := true }

theorem Block.settleExpired_keepBase (b : Block) : b.KeepsBase b.settleExpired :=
  b.plan_keepBase b.plan b.modeTimer b.commitments none b.manual b.listReports true

theorem exec_settleTimerExpiry {s : State} (h : s.settleTimer.isSome = true) :
    exec .settleTimerExpiry s = .next { s with toBlock := s.toBlock.settleExpired.finish } := if_pos h

/-- The expiry grants the first entry that fits, where the plan, the slot and the C-port allow the pass (R81, R82, R84). -/
theorem execSettleTimerExpiry_grants {s : State} (ht : s.settleTimer.isSome = true) (hsettled : s.toBlock.Settled)
    (hok : s.toBlock.BudgetOk) (hq : s.queue = pre ++ e :: post) (hplan : s.plan = .recall ∨ s.plan = .service)
    (hfree : s.toBlock.slotHolder = none) (hroom : s.cport.roomOwn = true) (hpre : ∀ x ∈ pre, s.toBlock.passesOver x)
    (he : s.toBlock.grantable e) : Completes .settleTimerExpiry s fun t =>
      t.settleTimer = none ∧ s.toBlock.GrantsHead e (pre.map s.toBlock.skipped ++ post) s.cport.tx t.toBlock ∧
        s.toBlock.KeepsBase t.toBlock ∧ t.plan = s.plan := by
  obtain ⟨-, heval⟩ := hsettled
  have hallowed : s.toBlock.settleExpired.passAllowed = true :=
    (Block.passAllowed_iff _).mpr ⟨hfree, rfl, hplan.imp_right .inl, hroom⟩
  have hgrants : s.toBlock.GrantsHead e (pre.map s.toBlock.skipped ++ post) s.cport.tx s.toBlock.settleExpired.finish :=
    have h := Block.finish_grantsBehind (b := s.toBlock.settleExpired) rfl heval hallowed hq hok.queueOnce hpre he
    ⟨h.queue, h.list, h.slot, h.grant⟩
  have hkeeps := s.toBlock.settleExpired.finish_keeps
  have hbase := s.toBlock.settleExpired_keepBase.trans hkeeps.toKeepsBase
  have hsettle : s.toBlock.settleExpired.finish.settleTimer = none := hkeeps.settleTimer
  have hkept : s.toBlock.settleExpired.finish.plan = s.plan := hkeeps.plan
  have hexec := exec_settleTimerExpiry ht
  generalize s.toBlock.settleExpired.finish = t at hexec hsettle hgrants hbase hkept
  exact ⟨_, hexec, hsettle, hgrants, hbase, hkept⟩

end Sys2Proof.Machine

open Sys2Proof Sys2Proof.Machine

/-- Settles O30: a scan reaches its entry over entries that are passed over, and notes those that the upper condition holds back. -/
theorem scanGrantsFirstFit : Obligations.ScanGrantsFirstFit := by
  unfold Obligations.ScanGrantsFirstFit
  refine ⟨fun b e noted h => ?_, fun b e pre post hq hpre hheard hfits => ?_⟩
  · obtain ⟨pre, post, hq, hpre, ⟨hheard, hfits⟩, hnoted⟩ := Block.exists_of_scan h
    rw [List.append_nil] at hnoted
    refine ⟨pre, post, hq, hfits, hheard, fun x hx => (hpre x hx).not_fits, fun x hx hxheard hupper => ?_, fun i hi => ?_⟩
    · have hheld : b.heldBack x = true := Block.heldBack_iff.mpr ⟨hxheard, hupper⟩
      exact ⟨(hpre x hx).not_blocking hheld, hnoted ▸ Block.mem_notedIn.mpr ⟨x, hx, hheld, rfl⟩⟩
    · obtain ⟨x, hx, hheld, rfl⟩ := Block.mem_notedIn.mp (hnoted ▸ hi)
      obtain ⟨hxheard, hupper⟩ := Block.heldBack_iff.mp hheld
      exact ⟨x, hx, rfl, hxheard, hupper⟩
  · rw [hq]
    exact ⟨_, Block.scan_append hpre ⟨hheard, hfits⟩ []⟩

/-- Settles O31: the head is an entry with none before it, and `execSettleTimerExpiry_grants` covers both. -/
theorem settleExpiryGrantsHead : Obligations.SettleExpiryGrantsHead := by
  unfold Obligations.SettleExpiryGrantsHead
  refine ⟨fun s e rest ht hsettled hok hhead hroom => ?_,
    fun s e pre post ht hsettled hok hq hplan hfree hroom hpre hheard hfits => ?_⟩
  · exact execSettleTimerExpiry_grants (pre := []) ht hsettled hok hhead.queue hhead.plan hhead.slot hroom nofun
      ⟨hhead.heard, hhead.fits⟩
  · obtain ⟨t, hexec, hsettle, hgrants, hbase, hkept⟩ :=
      execSettleTimerExpiry_grants ht hsettled hok hq hplan hfree hroom hpre ⟨hheard, hfits⟩
    exact ⟨t, hexec, hsettle, hgrants.queue, hgrants.slot, ⟨_, hgrants.list.symm⟩, by simp [hgrants.list], hbase, hkept⟩

end

section
/-! The places that frames take on the G-port, and an evaluation that moves one car alone (R129, R142, R148). -/

namespace Sys2Proof.Machine

/-! ### Places on the G-port -/

/-- What a few sendings leave of a port: as it was but for frames behind those it had, of which at most n are own frames, and its
error summary. -/
structure Port.TakesUpTo (p : Port) (n : Nat) (q : Port) : Prop where
  up    : q.up = p.up
  grows : ∃ l, q.tx = p.tx ++ l
  count : q.ownCount ≤ p.ownCount + n

theorem Port.TakesUpTo.trans {p q r : Port} {m n : Nat} (h : p.TakesUpTo m q) (k : q.TakesUpTo n r) : p.TakesUpTo (m + n) r where
  up := k.up.trans h.up
  grows := by
    obtain ⟨l, hl⟩ := h.grows
    obtain ⟨l', hl'⟩ := k.grows
    exact ⟨l ++ l', by rw [hl', hl, List.append_assoc]⟩
  count := by
    have := h.count
    have := k.count
    omega

/-- An own frame takes one place. -/
theorem Port.takesUpTo_own (p : Port) (f : Frame) : p.TakesUpTo 1 { p with tx := p.tx ++ [ownItem f] } :=
  ⟨rfl, ⟨_, rfl⟩, by simp [Port.ownCount, List.filter_append, ownItem]⟩

/-- A notice takes one place on the G-port, or its loss is recorded there (R143). -/
theorem Block.carNotice_takes (b : Block) (i : CarIx) (r : NoticeReason) : b.gport.TakesUpTo 1 (b.carNotice i r).gport := by
  unfold Block.carNotice Block.sendNotice Block.placeOwn
  cases hroom : b.gport.roomOwn with
  | true =>
    rw [if_pos (show (b.port .g).roomOwn = true from hroom)]
    exact b.gport.takesUpTo_own _
  | false =>
    rw [if_neg (show ¬ (b.port .g).roomOwn = true by rw [show b.port .g = b.gport from rfl, hroom]; decide)]
    exact ⟨rfl, ⟨[], (List.append_nil _).symm⟩, Nat.le_succ _⟩

/-- A frame for the car bus takes at most the place of its copy on the G-port (R144). -/
theorem Block.sendCar_takes (b : Block) (dst : Byte) (k : FrameKind) (payload : List Byte) :
    b.gport.TakesUpTo 1 (b.sendCar dst k payload).1.gport := by
  rw [b.sendCar_eq]
  dsimp only
  split
  · exact b.gport.takesUpTo_own _
  · exact ⟨rfl, ⟨[], (List.append_nil _).symm⟩, Nat.le_succ _⟩

/-- An order notice is queued where a place is left, unless its order came from node 63 (R142). -/
theorem Port.TakesUpTo.noticed {p q r : Port} {n : Nat} {src : Byte} {x : TxItem} (h : p.TakesUpTo n q) (hup : p.up = true)
    (hcount : p.ownCount + n + 1 ≤ 8) (hsrc : src ≠ 63) (hr : (q.noticed src x).Sends r) :
    ∃ l m, r.tx = p.tx ++ l ++ x :: m := by
  have hroom : q.roomOwn = true := q.roomOwn_iff.mpr ⟨h.up.trans hup, by have := h.count; omega⟩
  have hnoticed : q.noticed src x = { q with tx := q.tx ++ [x] } := by
    rw [Port.noticed, if_neg hsrc, if_pos hroom]
  obtain ⟨l, hl⟩ := h.grows
  rw [hnoticed] at hr
  obtain ⟨m, hm⟩ := hr.behind (p := q) rfl
  exact ⟨l, m, by rw [hm, hl]⟩

/-! ### A held order released behind another frame -/

/-- The C-port with an own frame in its queue, if it had room. -/
def Port.sentOwn (p : Port) (x : TxItem) : Port := if p.roomOwn then { p with tx := p.tx ++ [x] } else p

/-- An own frame takes no relayed place (R148). -/
theorem Port.roomRelayed_sentOwn (p : Port) (f : Frame) : (p.sentOwn (ownItem f)).roomRelayed = p.roomRelayed := by
  have hcount : ({ p with tx := p.tx ++ [ownItem f] } : Port).relayedCount = p.relayedCount := by
    simp [Port.relayedCount, List.filter_append, ownItem]
  unfold Port.sentOwn
  split
  · rw [Port.roomRelayed, hcount]
    rfl
  · rfl

/-- A relayed frame offered behind an own frame stands behind it, or in its place if that found no room. -/
theorem Port.tx_offered_sentOwn (p : Port) (f g : Frame) : ((p.sentOwn (ownItem f)).offered g).tx =
    p.tx ++ (if p.roomOwn then [ownItem f] else []) ++ (if p.roomRelayed then [relayedItem g] else []) := by
  have hsent : (p.sentOwn (ownItem f)).tx = p.tx ++ if p.roomOwn then [ownItem f] else [] := by
    unfold Port.sentOwn
    split
    · rfl
    · exact (List.append_nil _).symm
  unfold Port.offered
  rw [Port.roomRelayed_sentOwn, ← hsent]
  split
  · rfl
  · exact (List.append_nil _).symm

/-- A relayed frame that finds no room is recorded as discarded (R148). -/
theorem Port.txDiscard_offered {p : Port} (f : Frame) (h : p.roomRelayed = false) : (p.offered f).errors.txDiscard = true := by
  rw [Port.offered, if_neg (by rw [h]; decide)]

/-! ### An evaluation that moves one car alone -/

/-- An operation for every car that leaves all cars but one is that car's operation. -/
theorem CarWise.foldl_single {f : Block → CarIx → Block} (h : CarWise f) (b : Block) (i : CarIx)
    (hleft : ∀ c j, j ≠ i → c.car j = b.car j → f c j = c) : allCars.foldl f b = f b i := by
  have hnone : ∀ (l : List CarIx) (c : Block), i ∉ l → (∀ j, j ≠ i → c.car j = b.car j) → l.foldl f c = c := by
    intro l
    induction l with
    | nil => exact fun _ _ _ => rfl
    | cons j l ih =>
      intro c hi hc
      obtain ⟨hij, hil⟩ := not_or.mp (List.mem_cons.not.mp hi)
      rw [List.foldl_cons, hleft c j (Ne.symm hij) (hc j (Ne.symm hij))]
      exact ih c hil hc
  have hone : ∀ l : List CarIx, l.Nodup → i ∈ l → l.foldl f b = f b i := by
    intro l
    induction l with
    | nil => exact fun _ hi => nomatch hi
    | cons j l ih =>
      intro hn hi
      obtain ⟨hj, hl⟩ := List.nodup_cons.mp hn
      rw [List.foldl_cons]
      by_cases hij : j = i
      · subst hij
        exact hnone l _ hj fun k hk => h.others b j k hk
      · rw [hleft b j hij rfl]
        exact ih hl ((List.mem_cons.mp hi).resolve_left (Ne.symm hij))
  exact hone allCars nodup_allCars (mem_allCars i)

/-- The car needs no move for this service set: it is not parked in the set, nor serving outside it (R129). -/
def Car.leftBy (c : Car) (chosen : Bool) : Prop :=
  (c.state.isParked = true → chosen = false) ∧ (c.state = .serving → chosen = true)

theorem Block.evaluateCar_left {b : Block} {set : List CarIx} {i : CarIx} (h : (b.car i).leftBy (set.contains i)) :
    Block.evaluateCar set b i = b := by
  unfold Block.evaluateCar
  by_cases hp : (b.car i).state.isParked = true
  · rw [if_pos hp, h.1 hp]
    rfl
  · rw [if_neg hp]
    split
    · rename_i hs
      rw [if_pos (h.2 hs)]
    · rfl

/-- An evaluation that finds one parked car to select, and every other car in its place, selects that car alone (R129). -/
theorem Block.evaluate_selects {b : Block} {i : CarIx} (hp : b.plan = .service) (hs : (b.car i).state.isParked = true)
    (hi : b.serviceSet.contains i = true) (hleft : ∀ j, j ≠ i → (b.car j).leftBy (b.serviceSet.contains j)) :
    b.evaluate = { b.selectCar i with evalDue := false } := by
  have hfold := (evaluateCar_carWise b.serviceSet).foldl_single b i fun c j hj hc =>
    Block.evaluateCar_left (hc.symm ▸ hleft j hj)
  rw [Block.evaluateCar_parked hs hi] at hfold
  rw [Block.evaluate, if_pos hp, hfold]

end Sys2Proof.Machine
end

section
/-! The door timer's expiry (R117): how the car parks, what the evaluation of its parking makes of it, and the order that its slot
held (R126, R131, R141). -/

namespace Sys2Proof.Machine

variable {b : Block} {i : CarIx}

/-! ### Parking with the alarm (R117) -/

/-- The block with a car's door alarm set. -/
def Block.alarmed (b : Block) (i : CarIx) : Block := b.modCar i fun c => { c with doorAlarm := true }

theorem Block.alarmed_keeps (b : Block) (i : CarIx) : b.KeepsBudget (b.alarmed i) :=
  b.modCar_keeps i _ ⟨rfl, rfl, rfl, rfl⟩

theorem Block.car_alarmed (b : Block) (i : CarIx) : (b.alarmed i).car i = { b.car i with doorAlarm := true } := b.car_modCar_same i _

theorem parkState_isParked (o : Option CarOrder) : (parkState o).isParked = true := by
  rcases o with _ | (_ | _ | _) <;> rfl

/-- A parked state is none of those that a car of the service set or a moving car is in. -/
theorem RState.ne_of_isParked {st st' : RState} (h : st.isParked = true) (h' : st'.isParked = false) : st ≠ st' := fun e => by
  rw [e, h'] at h
  cases h

/-- The record of a car that has parked with its alarm set (R117). -/
structure Car.ParkedAlarmed (c c' : Car) : Prop where
  state : c'.state = parkState c.order
  alarm : c'.doorAlarm = true
  timer : c'.doorTimer = none

/-- What a parking with the alarm shows of its car; in SERVICE it makes an evaluation due (R117, R126). -/
theorem Block.park_alarmed_shows (hs : (b.car i).state = .landed) (hd : b.evalDue = false) : ∃ v : View,
    (b.alarmed i).Shows i v (b.park i true) ∧ (b.car i).ParkedAlarmed v.car ∧ v.due = decide (b.plan = .service) := by
  have hparked := parkState_isParked (b.car i).order
  have hcar : ((b.alarmed i).view i).car = { b.car i with doorAlarm := true } := b.car_alarmed i
  have hlanded : ((b.alarmed i).view i).car.state = .landed := by rw [hcar]; exact hs
  have hne : ((b.alarmed i).view i).car.state ≠ parkState (b.car i).order :=
    hlanded ▸ (RState.ne_of_isParked hparked rfl).symm
  refine ⟨_, ((b.alarmed i).shows_view i).move (parkState (b.car i).order) .none false, ?_, ?_⟩
  · rw [View.car_move, Car.moved_of_ne _ hne, hcar]
    exact ⟨rfl, rfl, if_neg (RState.ne_of_isParked hparked rfl)⟩
  · rw [View.due_move _ (by rw [hlanded]; decide) hne, hparked, show ((b.alarmed i).view i).due = false from hd, Bool.and_true]
    rfl

/-! ### The end of the step -/

/-- A parked car that the evaluation of its step has selected (R129, R130). -/
structure Car.Serves (c : Car) : Prop where
  state    : c.state = .serving
  selected : c.selected = true
  order    : c.order = some .serve

/-- What the step of an expired door timer leaves of its car (R117, R126). -/
structure Block.ExpiresDoor (b : Block) (i : CarIx) (t : Block) : Prop where
  alarm  : (t.car i).doorAlarm = true
  timer  : (t.car i).doorTimer = none
  state  : (t.car i).state = parkState (b.car i).order ∨ (b.plan = .service ∧ (t.car i).Serves)
  manual : ∀ m, b.plan = .service → b.manual = some m → i ∈ m → (t.car i).state = .serving ∧ (t.car i).slot = .closed

theorem Car.served_serves {c : Car} (h : c.state.isParked = true) : c.served.Serves := by
  rw [Car.served_eq h]
  exact ⟨rfl, rfl, rfl⟩

/-- A car that serves after the evaluation still serves at the end of the step. -/
theorem Car.Serves.passed {c d : Car} (h : c.Serves) (hp : c.Passed d) : d.Serves :=
  ⟨hp.grant.serving h.state, (hp.grant.selected h.state).trans h.selected, hp.grant.same.order.trans h.order⟩

theorem Car.Serves.marks {c d : Car} (h : c.Serves) (hm : c.SameButMarks d) : d.Serves :=
  ⟨hm.state.trans h.state, hm.selected.trans h.selected, hm.order.trans h.order⟩

/-- An evaluation that is due selects the parked car of a view if it is chosen (R129). -/
theorem View.evaluated_parked {v : View} {sel : Bool} (h : v.car.state.isParked = true) :
    (v.evaluated sel).car = if v.due = true ∧ sel = true then v.car.served else v.car := by
  unfold View.evaluated
  rw [h]
  cases v.due with
  | false => rfl
  | true => cases sel <;> rfl

/-- The evaluation of a car that has parked with its alarm set (R117, R126): the car is left as it parked, or serves if it is
chosen in SERVICE. -/
theorem Block.takeEvaluation_alarmed (hs : (b.car i).state = .landed) (hd : b.evalDue = false) :
    ∃ c, (b.park i true).takeEvaluation.car i = c ∧ c.doorAlarm = true ∧ c.doorTimer = none ∧
      (c.state = parkState (b.car i).order ∨ (b.plan = .service ∧ c.Serves)) ∧
      (∀ m, b.plan = .service → b.manual = some m → i ∈ m → c.Serves ∧ c.slot = .closed) := by
  obtain ⟨v, hv, hpark, hdue⟩ := Block.park_alarmed_shows hs hd
  have hparked : v.car.state.isParked = true := hpark.state ▸ parkState_isParked _
  have hplan : v.due = true ↔ b.plan = .service := by rw [hdue, decide_eq_true_eq]
  obtain ⟨sel, hsel, he, hslot⟩ := hv.takeEvaluation fun h => ⟨hplan.mp h, RState.ne_of_isParked hparked rfl⟩
  have hmarks := he.car
  rw [View.evaluated_parked hparked] at hmarks
  refine ⟨_, rfl, ?_⟩
  by_cases h : v.due = true ∧ sel = true
  · rw [if_pos h] at hmarks
    have hserves := (Car.served_serves hparked).marks hmarks
    rw [Car.served_eq hparked] at hmarks
    exact ⟨hmarks.doorAlarm.trans hpark.alarm, hmarks.doorTimer, .inr ⟨hplan.mp h.1, hserves⟩,
      fun _ _ _ _ => ⟨hserves, hslot h.1 hparked h.2⟩⟩
  · rw [if_neg h] at hmarks
    exact ⟨hmarks.doorAlarm.trans hpark.alarm, hmarks.doorTimer.trans hpark.timer, .inl (hmarks.state.trans hpark.state),
      fun m hp hm hi => absurd ⟨hplan.mpr hp, (hsel m hm).trans (List.contains_iff_mem.mpr hi)⟩ h⟩

theorem Block.doorExpired_expires (hs : (b.car i).state = .landed) (hd : b.evalDue = false) :
    b.ExpiresDoor i (b.doorExpired i) := by
  obtain ⟨c, hc, halarm, htimer, hstate, hmanual⟩ := Block.takeEvaluation_alarmed hs hd
  have hpass := (b.park i true).finish_passed i
  rw [hc] at hpass
  refine ⟨hpass.alarm.trans halarm, hpass.stopped htimer, ?_, fun m hplan hm hi => ?_⟩
  · rcases hstate with hstate | ⟨hplan, hserves⟩
    · refine .inl ((hpass.grant.keepsState ?_).trans hstate)
      exact hstate ▸ RState.ne_of_isParked (parkState_isParked _) rfl
    · exact .inr ⟨hplan, hserves.passed hpass⟩
  · obtain ⟨hserves, hslot⟩ := hmanual m hplan hm hi
    exact ⟨(hserves.passed hpass).state, hpass.grant.slot hserves.state hslot⟩

end Sys2Proof.Machine
end

section
/-! The order that a selected car's slot held, released by the evaluation of its parking (R131, R141), and the statement about the
door timer. -/

namespace Sys2Proof.Machine

variable {b : Block} {i : CarIx}

/-! ### A parking that keeps the slot (R131) -/

/-- The slot of a car that has parked in SERVICE under the manual selection is left to the evaluation (R131, assumption 28). -/
theorem Block.tellRelay_parkedSelected (hp : b.plan = .service) (hm : b.inManual i = true)
    (hs : (b.car i).state.isParked = true) : b.tellRelay i = b := by
  have hselected : b.parkedSelected i = true := by
    unfold Block.parkedSelected
    rcases (RState.isParked_iff _).mp hs with h | h <;> simp [hp, hm, h]
  have hawaits : b.awaiting i = false := by
    rw [Block.awaiting_eq]
    rcases (RState.isParked_iff _).mp hs with h | h <;> simp [h, RState.holdsRecall]
  unfold Block.tellRelay
  rw [hawaits, hselected, if_neg (by decide), if_neg (RState.ne_of_isParked hs rfl)]
  cases (b.car i).slot <;> rfl

/-- The last two of those a move hands on to change their own marks alone (R106). -/
theorem Block.tellLast_eq (b : Block) (old dest : RState) (n : Nat) :
    ∃ x m, (b.tellSelection old dest).tellRecallWork n = { b with evalDue := x, recallReports := m } := by
  unfold Block.tellRecallWork Block.tellSelection
  split <;> split <;> exact ⟨_, _, rfl⟩

/-- What the parking of a car does that is about to be selected (R131): its notice goes out, and slot and queue stay. -/
structure Block.ParksQuietly (b : Block) (i : CarIx) (c : Block) : Prop where
  cport : c.cport = b.cport
  gport : b.gport.TakesUpTo 1 c.gport
  queue : c.queue = b.queue
  slot  : (c.car i).slot = (b.car i).slot

theorem Block.car_entered (b : Block) (i : CarIx) (dest : RState) (r : Reason) :
    (b.entered i dest r).car i = (b.car i).enter dest r := ((b.entered_only i dest r).car_eq i).trans (b.car_modCar_same i _)

theorem Block.gport_entered (b : Block) (i : CarIx) (dest : RState) (r : Reason) :
    b.gport.TakesUpTo 1 (b.entered i dest r).gport := Block.carNotice_takes (b.modCar i fun c => c.enter dest r) _ _

theorem Block.cport_entered (b : Block) (i : CarIx) (dest : RState) (r : Reason) : (b.entered i dest r).cport = b.cport :=
  Block.cport_carNotice (b.modCar i fun c => c.enter dest r) _ _

theorem Block.move_parksQuietly {dest : RState} (hp : b.plan = .service) (hm : b.inManual i = true) (hq : b.entry? i = none)
    (hd : dest.isParked = true) (hs : (b.car i).state ≠ dest) : b.ParksQuietly i (b.move i dest .none false) := by
  have ho := b.entered_only i dest .none
  have hrelay : (b.entered i dest .none).tellRelay i = b.entered i dest .none :=
    Block.tellRelay_parkedSelected (ho.plan.trans hp) ((Block.inManual_congr ho.manual i).trans hm)
      (by rw [b.car_entered]; exact hd)
  obtain ⟨x, n, hlast⟩ := Block.tellLast_eq ((b.entered i dest .none).tellRelay i) (b.car i).state dest b.recallWork
  have hmove : b.move i dest .none false = { b.entered i dest .none with evalDue := x, recallReports := n } := by
    rw [Block.move, if_neg hs, b.changeState_entered, Block.rejudge_of_none ((Block.entry?_congr ho.sameQueue i).trans hq)]
    exact hlast.trans (by rw [hrelay])
  rw [hmove]
  exact ⟨b.cport_entered i dest .none, b.gport_entered i dest .none, ho.sameQueue,
    (congrArg Car.slot (b.car_entered i dest .none)).trans rfl⟩

theorem Block.park_parksQuietly (hp : b.plan = .service) (hm : b.inManual i = true) (hq : b.entry? i = none)
    (hs : (b.car i).state = .landed) : b.ParksQuietly i (b.park i true) := by
  have hparked := parkState_isParked (b.car i).order
  have hne : ((b.alarmed i).car i).state ≠ parkState (b.car i).order := by
    rw [b.car_alarmed]
    exact hs ▸ (RState.ne_of_isParked hparked rfl).symm
  have hquiet := Block.move_parksQuietly (b := b.alarmed i) hp hm hq hparked hne
  exact ⟨hquiet.cport, hquiet.gport, hquiet.queue, hquiet.slot.trans ((congrArg Car.slot (b.car_alarmed i)).trans rfl)⟩

/-! ### A selection that releases the slot (R129, R141) -/

/-- The SERVE order of a car as it stands in the C-port's queue (12.3). -/
def Block.serveItem (b : Block) (i : CarIx) : TxItem := ownItem (b.ownFrame (b.busNode i) .carOrder [byteOf (carNo i), 3, 0])

/-- A SERVE order is queued on the C-port if it finds room, and takes at most one place on the G-port (R100, R144). -/
theorem Block.sendOrder_serve (h : (b.car i).order = some .serve) :
    (b.sendOrder i).cport = b.cport.sentOwn (b.serveItem i) ∧ b.gport.TakesUpTo 1 (b.sendOrder i).gport := by
  have hdst : b.orderDst i = b.busNode i := by
    unfold Block.orderDst Block.busNode
    rfl
  unfold Block.sendOrder
  rw [h]
  refine ⟨?_, b.sendCar_takes _ _ _⟩
  show (b.sendCar (b.orderDst i) .carOrder [byteOf (carNo i), 3, 0]).1.cport = _
  rw [hdst, b.sendCar_eq]
  rfl

/-- A serving car's held order is offered to the C-port, and its release announced (R141, R142). -/
theorem Block.tellRelay_releases {dst src landing : Byte} (hs : (b.car i).state = .serving)
    (hslot : (b.car i).slot = .holding (dispatchFrame dst src i landing)) :
    (b.tellRelay i).cport = b.cport.offered (dispatchFrame dst src i landing) ∧
      (b.tellRelay i).gport = b.gport.noticed src (ownItem (b.ownFrame src .orderNotice [byteOf (carNo i), landing, 3])) := by
  have hawaits : b.awaiting i = false := by
    rw [Block.awaiting_eq, hs]
    exact Bool.and_false _
  have hrelease : b.tellRelay i = ((b.setSlot i .closed).relayTo .c (dispatchFrame dst src i landing)).orderNotice src
      (byteOf (carNo i)) landing .released := by
    unfold Block.tellRelay Block.releaseSlot
    rw [hawaits, hslot, if_pos hs]
    rfl
  rw [hrelease, Block.orderNotice_eq_noticed, Block.relayTo_eq_offered]
  exact ⟨rfl, rfl⟩

/-- What the selection of a car does to the ports when its slot holds an order (R129, R141): the SERVE order goes out first, then
the held order, and the notice RELEASED behind those of the move and the copy of the SERVE order. -/
structure Block.ServesAndReleases (b : Block) (i : CarIx) (f : Frame) (x : TxItem) (t : Block) : Prop where
  cport : t.cport = (b.cport.sentOwn (b.serveItem i)).offered f
  gport : ∃ p, b.gport.TakesUpTo 2 p ∧ t.gport = p.noticed f.src x

/-- The frames of a car depend on the block only through its node address and the car's binding. -/
theorem Block.serveItem_congr {b c : Block} (ha : c.active = b.active) (hb : (c.car i).bound = (b.car i).bound) :
    c.serveItem i = b.serveItem i := by
  unfold Block.serveItem Block.ownFrame Block.own Block.busNode
  rw [ha, hb]

theorem Block.ownFrame_congr {b c : Block} (ha : c.active = b.active) (dst : Byte) (k : FrameKind) (payload : List Byte) :
    c.ownFrame dst k payload = b.ownFrame dst k payload := by
  rw [Block.ownFrame, Block.own, ha]
  rfl

/-- A move to SERVING of a car whose slot holds an order (R106, R141). -/
theorem Block.move_serving_releases {dst src landing : Byte} (hs : (b.car i).state ≠ .serving) (hq : b.entry? i = none)
    (horder : (b.car i).order = some .serve) (hslot : (b.car i).slot = .holding (dispatchFrame dst src i landing)) :
    b.ServesAndReleases i (dispatchFrame dst src i landing)
      (ownItem (b.ownFrame src .orderNotice [byteOf (carNo i), landing, 3])) (b.move i .serving .none true) := by
  have ho := b.entered_only i .serving .none
  have hcar := b.car_entered i .serving .none
  have hnotice := b.gport_entered i .serving .none
  have hcport := b.cport_entered i .serving .none
  have hactive : (b.entered i .serving .none).active = b.active := ho.active
  rw [Block.move, if_neg hs, b.changeState_entered, Block.rejudge_of_none ((Block.entry?_congr ho.sameQueue i).trans hq)]
  generalize b.entered i .serving .none = c at hnotice hcport hcar hactive
  obtain ⟨hsent, htakes⟩ := Block.sendOrder_serve (b := c) (i := i) (by rw [hcar]; exact horder)
  obtain ⟨hrc, hrg⟩ := Block.tellRelay_releases (b := c.sendOrder i) (i := i) (dst := dst) (src := src) (landing := landing)
    (by rw [(c.sendOrder_touches i).this.state, hcar]; rfl) (by rw [c.sendOrder_slot, hcar]; exact hslot)
  rw [hsent, Block.serveItem_congr hactive (by rw [hcar]; rfl), hcport] at hrc
  rw [Block.ownFrame_congr ((c.sendOrder_keeps i).active.trans hactive)] at hrg
  obtain ⟨x, n, hlast⟩ := Block.tellLast_eq ((c.sendOrder i).tellRelay i) (b.car i).state .serving b.recallWork
  show Block.ServesAndReleases _ _ _ _ (Block.tellRecallWork (Block.tellSelection ((c.sendOrder i).tellRelay i) _ _) _)
  rw [hlast]
  exact ⟨hrc, _, hnotice.trans htakes, hrg⟩

theorem Block.selectCar_releases {dst src landing : Byte} (hs : (b.car i).state ≠ .serving) (hq : b.entry? i = none)
    (hslot : (b.car i).slot = .holding (dispatchFrame dst src i landing)) :
    b.ServesAndReleases i (dispatchFrame dst src i landing)
      (ownItem (b.ownFrame src .orderNotice [byteOf (carNo i), landing, 3])) (b.selectCar i) := by
  have hcar := b.car_modCar_same i fun c => { c with selected := true, order := some .serve }
  have hrel := Block.move_serving_releases (b := b.modCar i fun c => { c with selected := true, order := some .serve }) (i := i)
    (by rw [hcar]; exact hs) hq (by rw [hcar]) (by rw [hcar]; exact hslot)
  have hitem : (b.modCar i fun c => { c with selected := true, order := some .serve }).serveItem i = b.serveItem i :=
    Block.serveItem_congr rfl (by rw [hcar])
  exact ⟨hitem ▸ hrel.cport, hrel.gport⟩

/-! ### The end of the step -/

/-- What follows the evaluation of a step keeps the plan, and what has been recorded stays recorded. -/
theorem Block.finish_keepsAfter (b : Block) : b.takeEvaluation.KeepsPlan b.finish ∧ b.takeEvaluation.KeepsErrors b.finish :=
  ⟨(Block.takeTrigger_keeps _).trans (Block.resendAll _).keeps.toKeepsPlan,
    (Block.takeTrigger_keepErrors _).trans (.of_ports (Block.gport_resendAll _) (Block.resendAll _).cport)⟩

/-- No car but this one is moved by an evaluation for this manual selection (R129). -/
def Block.OthersStay (b : Block) (i : CarIx) (m : List CarIx) : Prop :=
  ∀ j, j ≠ i → ((b.car j).state.isParked = true → j ∉ m) ∧ ((b.car j).state = .serving → j ∈ m)

/-- In SERVICE the parking of a car of the manual selection makes the evaluation due that selects it, and no other car (R126,
R128). -/
theorem Block.takeEvaluation_selects {m : List CarIx} (hs : (b.car i).state = .landed) (hd : b.evalDue = false)
    (hp : b.plan = .service) (hman : b.manual = some m) (hi : i ∈ m) (hstay : b.OthersStay i m) :
    (b.park i true).takeEvaluation = { (b.park i true).selectCar i with evalDue := false } ∧
      ((b.park i true).car i).state ≠ .serving := by
  obtain ⟨v, hv, hpark, hdue⟩ := Block.park_alarmed_shows hs hd
  have hkeeps := (b.alarmed_keeps i).trans hv.keeps
  have hparked : ((b.park i true).car i).state.isParked = true := by
    rw [hv.car.state, hpark.state]
    exact parkState_isParked _
  have hset : (b.park i true).serviceSet = m := by
    unfold Block.serviceSet
    rw [hkeeps.manual, hman]
  have hothers : ∀ j, j ≠ i → ((b.park i true).car j).leftBy ((b.park i true).serviceSet.contains j) := fun j hj => by
    rw [b.park_others i true hj, hset]
    exact ⟨fun h => by simpa using (hstay j hj).1 h, fun h => List.contains_iff_mem.mpr ((hstay j hj).2 h)⟩
  refine ⟨?_, RState.ne_of_isParked hparked rfl⟩
  rw [← Block.evaluate_selects (hkeeps.plan.trans hp) hparked (by rw [hset]; exact List.contains_iff_mem.mpr hi) hothers]
  exact if_pos (hv.due.trans (hdue.trans (decide_eq_true hp)))

/-- The car's parking and the evaluation it makes due release the order that its slot holds (R131, R141, assumption 28). -/
theorem Block.takeEvaluation_releases {m : List CarIx} {dst src landing : Byte} (hs : (b.car i).state = .landed)
    (hd : b.evalDue = false) (hp : b.plan = .service) (hman : b.manual = some m) (hi : i ∈ m)
    (hslot : (b.car i).slot = .holding (dispatchFrame dst src i landing)) (hq : b.entry? i = none) (hstay : b.OthersStay i m) :
    ∃ p, b.gport.TakesUpTo 3 p ∧ (b.park i true).takeEvaluation.gport =
        p.noticed src (ownItem (b.ownFrame src .orderNotice [byteOf (carNo i), landing, 3])) ∧
      (b.park i true).takeEvaluation.cport = (b.cport.sentOwn (b.serveItem i)).offered (dispatchFrame dst src i landing) := by
  have hkeeps := b.park_keeps i true
  have hin : b.inManual i = true := by
    rw [Block.inManual_eq, hman]
    exact List.contains_iff_mem.mpr hi
  have hquiet := Block.park_parksQuietly hp hin hq hs
  obtain ⟨hselect, hne⟩ := Block.takeEvaluation_selects hs hd hp hman hi hstay
  have hrel := Block.selectCar_releases hne ((Block.entry?_congr hquiet.queue i).trans hq) (hquiet.slot.trans hslot)
  rw [Block.ownFrame_congr hkeeps.active] at hrel
  obtain ⟨p, htakes, hg⟩ := hrel.gport
  have hc := hrel.cport
  rw [Block.serveItem_congr hkeeps.active (hkeeps.known i).bound, hquiet.cport] at hc
  rw [hselect]
  exact ⟨p, hquiet.gport.trans htakes, hg, hc⟩

end Sys2Proof.Machine

open Sys2Proof Sys2Proof.Machine

/-- Settles O22: the parking makes the evaluation due that selects the car, and only the pass and the order-resend
timers follow it. -/
theorem doorTimerParks : Obligations.DoorTimerParks := by
  unfold Obligations.DoorTimerParks
  intro s i htimer hstate hsettled
  have hexec : exec (.doorTimerExpiry i) s = .next { s with toBlock := s.toBlock.doorExpired i } := if_pos ⟨htimer, hstate⟩
  have hpark := s.toBlock.park_keeps i true
  have hfinish := (s.toBlock.park i true).finish_keeps
  obtain ⟨hafter, herrors⟩ := (s.toBlock.park i true).finish_keepsAfter
  have hlist := (s.toBlock.park i true).finish_commitments
  rw [hpark.commitments] at hlist
  obtain ⟨halarm, hstopped, hend, hmanual⟩ := Block.doorExpired_expires (b := s.toBlock) hstate hsettled.2
  unfold Block.doorExpired at hexec halarm hstopped hend hmanual
  generalize (s.toBlock.park i true).finish = t at hexec hfinish hafter herrors hlist halarm hstopped hend hmanual
  refine ⟨_, hexec, halarm, hstopped, hfinish.plan.trans hpark.plan, hlist, hpark.toKeepsBase.trans hfinish.toKeepsBase, ?_,
    fun m hp hman hi => ?_⟩
  · exact hend.imp id fun ⟨hp, hserves⟩ => ⟨hp, hserves.state, hserves.selected, hserves.order⟩
  · obtain ⟨hserving, hclosed⟩ := hmanual m hp hman hi
    refine ⟨hserving, hclosed, fun dst src landing hslot hq hstay => ?_⟩
    obtain ⟨p, htakes, hg, hc⟩ := Block.takeEvaluation_releases hstate hsettled.2 hp hman hi hslot hq hstay
    obtain ⟨l, hl⟩ := hafter.cport.grows
    rw [hc, Block.serveItem, Port.tx_offered_sentOwn] at hl
    refine ⟨⟨l, hl⟩, fun hroom => ?_, fun hsrc hup hcount => ?_⟩
    · have hdiscard := Port.txDiscard_offered (dispatchFrame dst src i landing)
        ((s.cport.roomRelayed_sentOwn (s.toBlock.ownFrame (s.toBlock.busNode i) .carOrder [byteOf (carNo i), 3, 0])).trans hroom)
      exact herrors .c .txDiscard ((congrArg (fun p => p.errors.txDiscard) hc).trans hdiscard)
    · exact htakes.noticed hup hcount hsrc (hg ▸ hafter.gport)

end

section
/-! A request that passes checks 1 to 6, and its answer behind what its effect has sent (R153, R154). -/

namespace Sys2Proof.Machine

/-! ### A request that the checks let pass -/

/-- A request that checks 1 to 6 let pass, from another node than 63, has its effect (R153, R154). -/
theorem request_performs {s : State} {src : Node} {r : Request} (hload : s.loaded = true) (hsrc : src.val ≠ 63)
    (hcheck : s.toBlock.checkRequest s.mgmt.prepare r = none) :
    request src r s = .next { s with toBlock := s.begunBlock.perform src r } := by
  have hserve : (s.toBlock.modMgmt fun m => { m with request := none }).serveRequest src r = s.begunBlock.perform src r := by
    unfold Block.serveRequest
    have hnone : (s.toBlock.modMgmt fun m => { m with request := none }).checkRequest
        (s.toBlock.modMgmt fun m => { m with request := none }).mgmt.prepare r = none := hcheck
    rw [hnone]
    rfl
  have htake : s.toBlock.takeRequest src r = (s.toBlock.modMgmt fun m => { m with request := none }).serveRequest src r :=
    (if_pos hload).trans (if_neg hsrc)
  rw [request, htake, hserve]

/-! ### The answer -/

/-- Placing waiting parts changes the G-port and the Management Unit alone (R154). -/
theorem Block.placePart_ports (b : Block) : ∃ p m, b.placePart = { b with gport := p, mgmt := m } := by
  have hplace : ∀ (f : Frame) (g : Mgmt → Mgmt), ∃ p m, (if (b.placeOwn .g f).2 then (b.placeOwn .g f).1.modMgmt g else b) =
      { b with gport := p, mgmt := m } := fun f g => by
    unfold Block.placeOwn
    cases (b.port .g).roomOwn with
    | true => exact ⟨_, _, rfl⟩
    | false => exact ⟨_, _, rfl⟩
  unfold Block.placePart
  split
  · exact hplace _ _
  · exact hplace _ _
  · exact ⟨_, _, rfl⟩

theorem Block.placeParts_ports (n : Nat) (b : Block) : ∃ p m, Block.placeParts n b = { b with gport := p, mgmt := m } := by
  induction n generalizing b with
  | zero => exact ⟨_, _, rfl⟩
  | succ n ih =>
    obtain ⟨p, m, hp⟩ := b.placePart_ports
    obtain ⟨p', m', hp'⟩ := ih b.placePart
    refine ⟨p', m', hp'.trans ?_⟩
    rw [hp]

theorem Block.respond_ports (b : Block) (dst : Node) (kind : Byte) (r : Reply) :
    ∃ p m, b.respond dst kind r = { b with gport := p, mgmt := m } :=
  Block.placeParts_ports Config.ownPlaces (b.modMgmt _)

/-- An answer without a record stands last in the G-port's queue, or waits for a place there (R154). -/
theorem Block.respond_answersLast {s : State} {b : Block} (src : Node) (kind : Byte) (code : RespCode)
    (hs : s.mgmt.storeAnswer = []) (hm : b.mgmt = s.begun) (ha : b.active = s.active) (hg : ∃ l, b.gport.tx = s.gport.tx ++ l) :
    s.AnsweredLast { s with toBlock := b.respond src kind (Reply.plain code) } (s.answer src kind code []) := by
  obtain ⟨l, hl⟩ := hg
  have hframe : responseFrame (nodeByte src) b.own kind code (partByte 1 true) [] = (s.answer src kind code []).frame := by
    rw [Block.own, ha]
    rfl
  have hresponse : ({ b.mgmt with response := b.mgmt.response ++ (Reply.plain code).parts (nodeByte src) b.own kind } : Mgmt) =
      { s.begun with response := [(s.answer src kind code []).frame] } := by
    rw [← hframe, hm]
    rfl
  have hwaits : (b.modMgmt fun m => { m with response := m.response ++ (Reply.plain code).parts (nodeByte src) b.own kind }) =
      { b with mgmt := { s.begun with response := [(s.answer src kind code []).frame] } } :=
    congrArg (fun m : Mgmt => ({ b with mgmt := m } : Block)) hresponse
  obtain ⟨k, hk, hroom⟩ := Block.placeAll_spec
    { b with mgmt := { s.begun with response := [(s.answer src kind code []).frame] } } hs
  dsimp only at hk
  have hrespond : b.respond src kind (Reply.plain code) =
      ({ b with mgmt := { s.begun with response := [(s.answer src kind code []).frame] } } : Block).placeAll :=
    congrArg Block.placeAll hwaits
  unfold State.AnsweredLast
  rw [hrespond]
  cases k with
  | zero => exact .inr ⟨hroom Nat.one_pos, by rw [hk]; rfl⟩
  | succ k =>
    rw [List.take_succ_cons, List.take_nil, List.drop_succ_cons, List.drop_nil, hl] at hk
    rw [hk]
    exact .inl ⟨⟨l, rfl⟩, rfl⟩

end Sys2Proof.Machine
end

section
/-! RETRY_CAR (R123, R35): the record it starts from, where it puts the car, and what it leaves alone. -/

namespace Sys2Proof.Machine

variable {b c d : Block} {i : CarIx}

/-! ### Moves of a car without an entry -/

/-- Operations on one car without an entry: no other car changes, the queue stays, and no pass is triggered (R83, R106). -/
structure Block.MovesAlone (b : Block) (i : CarIx) (c : Block) : Prop where
  keeps  : b.KeepsBudget c
  others : ∀ j, j ≠ i → c.car j = b.car j
  queue  : c.queue = b.queue
  arbDue : c.arbDue = b.arbDue

theorem Block.MovesAlone.trans (h : b.MovesAlone i c) (k : c.MovesAlone i d) : b.MovesAlone i d :=
  ⟨h.keeps.trans k.keeps, fun j hj => (k.others j hj).trans (h.others j hj), k.queue.trans h.queue, k.arbDue.trans h.arbDue⟩

theorem Block.modCar_movesAlone (b : Block) (i : CarIx) {f : Car → Car} (h : (b.car i).SameKnown (f (b.car i))) :
    b.MovesAlone i (b.modCar i f) := ⟨b.modCar_keeps i f h, fun _ hj => b.car_modCar_other f hj, rfl, rfl⟩

theorem Block.move_movesAlone (hq : b.entry? i = none) (dest : RState) (r : Reason) (send : Bool) :
    b.MovesAlone i (b.move i dest r send) :=
  ⟨b.move_keeps i dest r send, fun _ hj => b.car_move_other dest r send hj, Block.queue_move r send hq,
    Block.arbDue_move hq dest r send⟩

theorem Block.MovesAlone.move (h : b.MovesAlone i c) (hq : b.entry? i = none) (dest : RState) (r : Reason) (send : Bool) :
    b.MovesAlone i (c.move i dest r send) :=
  h.trans (Block.move_movesAlone ((Block.entry?_congr h.queue i).trans hq) dest r send)

theorem Block.MovesAlone.modCar (h : b.MovesAlone i c) {f : Car → Car} (hf : (c.car i).SameKnown (f (c.car i))) :
    b.MovesAlone i (c.modCar i f) := h.trans (c.modCar_movesAlone i hf)

theorem Block.MovesAlone.arrivalCheck (h : b.MovesAlone i c) (hq : b.entry? i = none) : b.MovesAlone i (c.arrivalCheck i) := by
  unfold Block.arrivalCheck Block.land Block.park
  split
  · split
    · exact (h.move hq _ _ _).move hq _ _ _
    · exact (h.modCar ⟨rfl, rfl, rfl, rfl⟩).move hq _ _ _
  · exact h

theorem Block.orderRecall_movesAlone (hq : b.entry? i = none) : b.MovesAlone i (b.orderRecall i) :=
  ((b.modCar_movesAlone i ⟨rfl, rfl, rfl, rfl⟩).move hq _ _ _).arrivalCheck hq

/-! ### The record that a retry starts from (R35, R123) -/

/-- The record of a FAILED or CONFLICT car before its retry places it: reason, attempts, alarm and order cleared, and a conflict's
nodes released with its binding made again (R35, R123). -/
def Car.retried (c : Car) (conf : CarConf) : Car :=
  { (if c.state = .conflict then c.clearConflict conf else c) with
    reason := .none, attempts := 0, doorAlarm := false, order := none, orderDeferred := false }

theorem Car.retried_conflict {c : Car} (conf : CarConf) (h : c.state = .conflict) : (c.retried conf).foreign = [] ∧
    (c.retried conf).learned = { c.learned with firstForeign := none } ∧ (c.retried conf).lastTag = c.lastTag ∧
    (c.retried conf).bound = conf.binding := by
  unfold Car.retried
  rw [if_pos h]
  exact ⟨rfl, rfl, rfl, rfl⟩

theorem Car.retried_other {c : Car} (conf : CarConf) (h : c.state ≠ .conflict) : c.SameKnown (c.retried conf) := by
  unfold Car.retried
  rw [if_neg h]
  exact ⟨rfl, rfl, rfl, rfl⟩

@[simp] theorem Car.state_retried (c : Car) (conf : CarConf) : (c.retried conf).state = c.state := by
  unfold Car.retried Car.clearConflict
  split
  · rfl
  · rfl

/-- A retry keeps what is learned but for the first foreign node. -/
theorem Car.learned_retried (c : Car) (conf : CarConf) :
    ∃ n, (c.retried conf).learned = { c.learned with firstForeign := n } := by
  unfold Car.retried Car.clearConflict
  split
  · exact ⟨_, rfl⟩
  · exact ⟨c.learned.firstForeign, rfl⟩

/-- The block of a retry before it places the car. -/
def Block.cleared (b : Block) (i : CarIx) : Block := b.modCar i fun c => c.retried (b.conf i)

theorem Block.car_cleared (b : Block) (i : CarIx) : (b.cleared i).car i = (b.car i).retried (b.conf i) := b.car_modCar_same i _

theorem Block.car_cleared_other (b : Block) {j : CarIx} (h : j ≠ i) : (b.cleared i).car j = b.car j := b.car_modCar_other _ h

/-! ### Where a retry puts the car (R123) -/

/-- The state a retry puts a car in, before the arrival check of a RECALL order (R123). -/
def Block.retryState (b : Block) (i : CarIx) : RState :=
  if (b.car i).learned.heard = false then .unheard
  else if b.placedState i (b.car i).learned.mode = .standing then .recallPending
  else b.placedState i (b.car i).learned.mode

theorem Block.retryState_unheard (h : (b.car i).learned.heard = false) : b.retryState i = .unheard := if_pos h

theorem Block.retryState_heard (h : (b.car i).learned.heard = true) : b.retryState i =
    if b.placedState i (b.car i).learned.mode = .standing then .recallPending
    else b.placedState i (b.car i).learned.mode := if_neg (by rw [h]; decide)

/-- The states that a retry puts a car in without an order (R123). -/
def retryStates : List RState := [.unheard, .inGroup, .firefighter, .heldOut, .excluded]

theorem Block.retryState_mem (b : Block) (i : CarIx) : b.retryState i ∈ retryStates ∨ b.retryState i = .recallPending := by
  have hplaced := b.placedState_placing i (b.car i).learned.mode
  unfold Block.retryState
  split
  · exact .inl (by decide)
  · split
    · exact .inr rfl
    · generalize b.placedState i (b.car i).learned.mode = st at *
      cases st with
      | inGroup | firefighter | heldOut | excluded => exact .inl (by decide)
      | recallPending => exact .inr rfl
      | standing => exact absurd rfl ‹_›
      | _ => cases hplaced

theorem Block.modCar_congr {f g : Car → Car} (h : f (b.car i) = g (b.car i)) : b.modCar i f = b.modCar i g := by
  rw [Block.modCar, h, Block.modCar]

/-- A retry sends a RECALL order, or is a move (R123). -/
theorem Block.retry_eq (b : Block) (i : CarIx) : b.retry i =
    if b.retryState i = .recallPending then (b.cleared i).orderRecall i else (b.cleared i).move i (b.retryState i) := by
  have hcleared : ((if (b.car i).state = .conflict then b.modCar i (fun c => c.clearConflict (b.conf i)) else b).modCar i fun c =>
      { c with reason := .none, attempts := 0, doorAlarm := false, order := none, orderDeferred := false }) = b.cleared i := by
    split
    · rename_i h
      rw [Block.modCar_modCar]
      exact Block.modCar_congr (by rw [Car.retried, if_pos h])
    · rename_i h
      exact Block.modCar_congr (by rw [Car.retried, if_neg h])
  unfold Block.retry
  dsimp only
  rw [hcleared]
  cases hheard : (b.car i).learned.heard with
  | false =>
    rw [Block.retryState_unheard hheard]
    rfl
  | true =>
    rw [Block.retryState_heard hheard]
    have hplace := b.placing_eq i (b.car i).learned.mode
      (fun st => if st = .standing then (b.cleared i).orderRecall i else (b.cleared i).move i st) ((b.cleared i).orderRecall i)
    have hgroup : (b.car i).learned.mode.group.state ≠ .standing := by
      rcases (b.car i).learned.mode.group.state_of_ne with h | h <;> rw [h] <;> decide
    simp only [reduceCtorEq, if_false, if_true, ite_self, hgroup] at hplace
    refine ((if_neg (by decide)).trans hplace).trans ?_
    generalize b.placedState i (b.car i).learned.mode = st
    cases st <;> rfl

/-! ### What a retry makes of its car before the end of the step -/

/-- The RECALL order to a car's recall landing. -/
def Block.recallOrder (b : Block) (i : CarIx) : CarOrder := .recall (b.conf i).recallLanding

/-- A move to a state that carries no reason clears it (R106). -/
theorem Car.reason_moved {c : Car} {dest : RState} (h : c.reason = .none) : (c.moved dest .none).reason = .none := by
  unfold Car.moved
  split
  · exact h
  · exact ite_self _

/-- What a retry shows of its car once it is placed (R123): it is in the state it is put in, with a RECALL order there or none, or
has come by that order to stand at its landing; a parking makes an evaluation due in SERVICE. -/
structure Block.Retries (b : Block) (i : CarIx) (v : View) : Prop where
  reason   : v.car.reason = .none
  attempts : v.car.attempts = 0
  alarm    : v.car.doorAlarm = false
  state    : v.car.state = b.retryState i ∨
    (b.retryState i = .recallPending ∧ (b.plan = .recall ∨ b.plan = .service) ∧
      (v.car.state = .landed ∨ v.car.state = .parked))
  order    : v.car.order = if b.retryState i = .recallPending then some (b.recallOrder i) else none
  due      : v.due = (decide (b.plan = .service) && v.car.state.isParked)

/-- The states from which a car is retried. -/
theorem Block.retryState_ne (hs : (b.car i).state = .failed ∨ (b.car i).state = .conflict) :
    (b.car i).state ≠ b.retryState i := fun h => by
  have hmem := b.retryState_mem i
  rw [← h] at hmem
  rcases hs with hs | hs <;> rw [hs] at hmem <;> exact absurd hmem (by decide)

/-- A retry without a RECALL order is a move to a state that holds no order. -/
theorem Block.retry_moves (hs : (b.car i).state = .failed ∨ (b.car i).state = .conflict) (hd : b.evalDue = false)
    (hr : b.retryState i ≠ .recallPending) : b.Retries i (((b.cleared i).view i).move b.plan (b.retryState i)) := by
  have hmem := (b.retryState_mem i).resolve_right hr
  have hcar : ((b.cleared i).view i).car = (b.car i).retried (b.conf i) := b.car_cleared i
  have hne : ((b.cleared i).view i).car.state ≠ b.retryState i := by
    rw [hcar, Car.state_retried]
    exact Block.retryState_ne hs
  have hserving : ((b.cleared i).view i).car.state ≠ .serving := by
    rw [hcar, Car.state_retried]
    rcases hs with hs | hs <;> rw [hs] <;> decide
  have horder : ((b.cleared i).view i).car.order = none := by rw [hcar]; rfl
  have hstate : (((b.cleared i).view i).move b.plan (b.retryState i)).car.state = b.retryState i := Car.state_moved _ _ _
  refine ⟨Car.reason_moved (by rw [hcar]; rfl), (Car.attempts_moved _ _ _).trans (by rw [hcar]; rfl),
    (Car.doorAlarm_moved _ _ _).trans (by rw [hcar]; rfl), .inl hstate, ?_, ?_⟩
  · rw [if_neg hr, View.car_move, Car.moved_of_ne _ hne, Car.enter, horder]
    exact ite_self _
  · rw [View.due_move _ hserving hne, hstate, show ((b.cleared i).view i).due = false from hd, Bool.false_or]

/-- A landing clears the reason. -/
theorem Block.reason_viewLand {v : View} (h : v.car.reason = .none) : (b.viewLand v).car.reason = .none := by
  unfold Block.viewLand
  split
  · exact Car.reason_moved (Car.reason_moved h)
  · exact Car.reason_moved h

theorem Block.plan_of_viewArrives {x : Car} (h : b.viewArrives i x = true) : b.plan = .recall ∨ b.plan = .service := by
  unfold Block.viewArrives at h
  simp only [Bool.and_eq_true, Bool.or_eq_true, decide_eq_true_eq] at h
  exact h.1.1.1

/-- Under a RECALL order a car lands at its recall landing or parks there (R117). -/
theorem landedState_recall (n : Nat) (d : Door) :
    landedState (some (.recall n)) d = .landed ∨ landedState (some (.recall n)) d = .parked := by
  cases d
  · exact .inl rfl
  · exact .inl rfl
  · exact .inr rfl

/-- The view of a retried car that has its RECALL order, before the arrival check (R123). -/
def Block.recalledView (b : Block) (i : CarIx) : View :=
  (((b.cleared i).view i).modify fun c => { c with order := some (b.recallOrder i) }).move b.plan .recallPending

theorem Block.viewRecall_cleared (b : Block) (i : CarIx) :
    (b.cleared i).viewRecall i ((b.cleared i).view i) = (b.cleared i).viewArrival i (b.recalledView i) := rfl

theorem Block.recalledView_retries (hs : (b.car i).state = .failed ∨ (b.car i).state = .conflict) (hd : b.evalDue = false)
    (hr : b.retryState i = .recallPending) : b.Retries i (b.recalledView i) := by
  have hcar : ((b.cleared i).view i).car = (b.car i).retried (b.conf i) := b.car_cleared i
  generalize hv : (((b.cleared i).view i).modify fun c => { c with order := some (b.recallOrder i) }) = v
  have hvcar : v.car = { (b.car i).retried (b.conf i) with order := some (b.recallOrder i) } := by
    rw [← hv, ← hcar]
    rfl
  have hvstate : v.car.state = (b.car i).state := by
    rw [hvcar]
    exact Car.state_retried _ _
  have hne : v.car.state ≠ .recallPending := by rw [hvstate]; rcases hs with hs | hs <;> rw [hs] <;> decide
  have hserving : v.car.state ≠ .serving := by rw [hvstate]; rcases hs with hs | hs <;> rw [hs] <;> decide
  have hdue : v.due = false := by rw [← hv]; exact hd
  rw [Block.recalledView, hv]
  refine ⟨Car.reason_moved (by rw [hvcar]; rfl), (Car.attempts_moved _ _ _).trans (by rw [hvcar]; rfl),
    (Car.doorAlarm_moved _ _ _).trans (by rw [hvcar]; rfl), .inl ((Car.state_moved _ _ _).trans hr.symm), ?_, ?_⟩
  · rw [if_pos hr, View.car_move, (v.car.moved_sameOrder .none rfl).order, hvcar]
  · rw [View.due_move _ hserving hne, hdue, View.car_move, Car.state_moved]
    rfl

/-- A retry with a RECALL order, and its arrival check (R112, R123). -/
theorem Block.retry_recalls (hs : (b.car i).state = .failed ∨ (b.car i).state = .conflict) (hd : b.evalDue = false)
    (hr : b.retryState i = .recallPending) : b.Retries i ((b.cleared i).viewRecall i ((b.cleared i).view i)) := by
  have hw := Block.recalledView_retries hs hd hr
  have hstate : (b.recalledView i).car.state = .recallPending := Car.state_moved _ _ _
  rw [b.viewRecall_cleared]
  generalize b.recalledView i = w at hw hstate
  unfold Block.viewArrival
  split
  · rename_i harrives
    have horder : w.car.order = some (.recall (b.conf i).recallLanding) := hw.order.trans (if_pos hr)
    have hdue : w.due = false := hw.due.trans (by rw [hstate]; exact Bool.and_false _)
    have hcomes := (b.cleared i).viewLand_comes (v := w) (by rw [hstate]; rfl)
    have hland := landedState_recall (b.conf i).recallLanding w.car.learned.door
    rw [← horder, ← hcomes.state] at hland
    refine ⟨Block.reason_viewLand hw.reason, hcomes.count.attempts.trans hw.attempts, hcomes.count.doorAlarm.trans hw.alarm,
      .inr ⟨hr, Block.plan_of_viewArrives harrives, hland⟩, hcomes.order.trans hw.order, ?_⟩
    rw [hcomes.due, hdue, hcomes.state]
    exact Bool.false_or _
  · exact hw

/-- A retry shows of its car what `Block.Retries` says, and moves nothing else (R123). -/
theorem Block.retry_retries (hs : (b.car i).state = .failed ∨ (b.car i).state = .conflict) (hd : b.evalDue = false) :
    ∃ v, (b.cleared i).Shows i v (b.retry i) ∧ b.Retries i v := by
  rw [b.retry_eq]
  split
  · rename_i hr
    exact ⟨_, ((b.cleared i).shows_view i).orderRecall, Block.retry_recalls hs hd hr⟩
  · rename_i hr
    exact ⟨_, ((b.cleared i).shows_view i).move _ _ _, Block.retry_moves hs hd hr⟩

theorem Block.retry_movesAlone (hq : b.entry? i = none) : (b.cleared i).MovesAlone i (b.retry i) := by
  rw [b.retry_eq]
  split
  · exact Block.orderRecall_movesAlone hq
  · exact Block.move_movesAlone (b := b.cleared i) hq _ _ _

/-! ### The RECALL order (R100, R123) -/

/-- A RECALL order goes to the car's bound node, and to all nodes while it has none (R100, R111). -/
theorem Block.cport_orderRecall_busNode (hq : b.entry? i = none) (hr : b.cport.roomOwn = true) :
    ∃ m, (b.orderRecall i).cport.tx = b.cport.tx ++
      ownItem (b.ownFrame (b.busNode i) .carOrder [byteOf (carNo i), 1, byteOf (b.conf i).recallLanding]) :: m := by
  have hcar : (b.setOrder i (some (b.recallOrder i))).car i = { b.car i with order := some (b.recallOrder i) } :=
    b.car_modCar_same i _
  have hitem : (b.setOrder i (some (b.recallOrder i))).orderItem i =
      ownItem (b.ownFrame (b.busNode i) .carOrder [byteOf (carNo i), 1, byteOf (b.conf i).recallLanding]) := by
    unfold Block.orderItem Block.busNode
    rw [hcar]
    rfl
  have hplaces := Block.move_places (b := b.setOrder i (some (b.recallOrder i))) (i := i) (dest := .recallPending) .none hq
    (by decide) rfl
  rw [hitem, if_pos (by rw [hcar]; rfl)] at hplaces
  obtain ⟨hup, hcount⟩ := b.cport.roomOwn_iff.mp hr
  exact (Block.arrivalCheck_keeps _ i).cport.behind (hplaces.tx hup hcount)

theorem Block.cport_retry (hq : b.entry? i = none) (hr : b.retryState i = .recallPending) (hroom : b.cport.roomOwn = true) :
    ∃ m, (b.retry i).cport.tx = b.cport.tx ++ ownItem (b.ownFrame ((b.retry i).busNode i) .carOrder
      [byteOf (carNo i), 1, byteOf (b.conf i).recallLanding]) :: m := by
  have hnode : (b.retry i).busNode i = (b.cleared i).busNode i := by
    unfold Block.busNode
    rw [((Block.retry_movesAlone hq).keeps.known i).bound]
  rw [hnode, b.retry_eq, if_pos hr]
  exact Block.cport_orderRecall_busNode (b := b.cleared i) hq hroom

end Sys2Proof.Machine
end

section
/-! The step of RETRY_CAR to its end (R123, R126), and its statement. -/

namespace Sys2Proof.Machine

variable {b c t : Block} {i : CarIx}

/-! ### The car at the end of the step -/

/-- What the step of a retry leaves of its car (R123, R126): it is in the state it is put in, or stands at its recall landing in
RECALL or SERVICE, or serves there; but for a serving car, with its RECALL order or none. -/
structure Block.Restarted (b : Block) (i : CarIx) (c : Car) : Prop where
  reason   : c.reason = .none
  attempts : c.attempts = 0
  alarm    : c.doorAlarm = false
  state    : c.state = b.retryState i ∨ (b.retryState i = .recallPending ∧
    (((b.plan = .recall ∨ b.plan = .service) ∧ (c.state = .landed ∨ c.state = .parked)) ∨
      (b.plan = .service ∧ c.state = .serving)))
  order    : c.state ≠ .serving → c.order = if b.retryState i = .recallPending then some (b.recallOrder i) else none

theorem Block.Restarted.marks {c d : Car} (h : b.Restarted i c) (hm : c.SameButMarks d) : b.Restarted i d :=
  ⟨hm.reason.trans h.reason, hm.attempts.trans h.attempts, hm.doorAlarm.trans h.alarm, by rw [hm.state]; exact h.state,
    fun hs => hm.order.trans (h.order (hm.state ▸ hs))⟩

theorem Block.Retries.restarted {v : View} (h : b.Retries i v) : b.Restarted i v.car :=
  ⟨h.reason, h.attempts, h.alarm, h.state.imp_right fun ⟨hr, hp, hs⟩ => ⟨hr, .inl ⟨hp, hs⟩⟩, fun _ => h.order⟩

/-- No retry puts a car in a parked state or in SERVING. -/
theorem Block.retryState_unserved (b : Block) (i : CarIx) : (b.retryState i).isParked = false ∧ b.retryState i ≠ .serving := by
  have hall : ∀ st ∈ retryStates, st.isParked = false ∧ st ≠ .serving := by decide
  rcases b.retryState_mem i with h | h
  · exact hall _ h
  · rw [h]
    decide

/-- A retried car that has parked has done so by its RECALL order, and has not been selected yet. -/
theorem Block.Retries.parked {v : View} (h : b.Retries i v) (hp : v.car.state.isParked = true) :
    b.retryState i = .recallPending ∧ v.car.state = .parked := by
  rcases h.state with hs | ⟨hr, -, hs | hs⟩
  · rw [hs, (b.retryState_unserved i).1] at hp
    cases hp
  · rw [hs] at hp
    cases hp
  · exact ⟨hr, hs⟩

theorem Block.Retries.not_serving {v : View} (h : b.Retries i v) : v.car.state ≠ .serving := by
  rcases h.state with hs | ⟨-, -, hs | hs⟩
  · rw [hs]
    exact (b.retryState_unserved i).2
  · rw [hs]
    decide
  · rw [hs]
    decide

/-- The car behind the evaluation that its parking makes due (R126, R129), which takes place exactly if the car is then parked or
serves in SERVICE. -/
theorem Block.Retries.evaluated {v : View} (h : b.Retries i v) (sel : Bool) : b.Restarted i (v.evaluated sel).car ∧
    (v.due = true ↔ b.plan = .service ∧
      ((v.evaluated sel).car.state.isParked = true ∨ (v.evaluated sel).car.state = .serving)) := by
  cases hpark : v.car.state.isParked with
  | false =>
    have hdue : v.due = false := by rw [h.due, hpark, Bool.and_false]
    have hsame : v.evaluated sel = v := if_neg (by rw [hdue]; decide)
    rw [hsame, hdue, hpark]
    exact ⟨h.restarted, nofun, fun ⟨_, hs⟩ => absurd (hs.resolve_left nofun) h.not_serving⟩
  | true =>
    have hdue : v.due = true ↔ b.plan = .service := by rw [h.due, hpark, Bool.and_true, decide_eq_true_eq]
    rw [View.evaluated_parked hpark]
    split
    · rename_i hsel
      rw [Car.served_eq hpark]
      have hplan := hdue.mp hsel.1
      exact ⟨⟨rfl, h.attempts, h.alarm, .inr ⟨(h.parked hpark).1, .inr ⟨hplan, rfl⟩⟩, fun hs => absurd rfl hs⟩,
        fun _ => ⟨hplan, .inr rfl⟩, fun _ => hsel.1⟩
    · exact ⟨h.restarted, fun hd => ⟨hdue.mp hd, .inl hpark⟩, fun hs => hdue.mpr hs.1⟩

/-- The step of a retry as far as its own car goes. -/
structure Block.RetryEnds (b : Block) (i : CarIx) : Prop where
  car    : b.Restarted i ((b.retry i).finish.car i)
  due    : (b.retry i).evalDue = true ↔ b.plan = .service ∧
    (((b.retry i).finish.car i).state.isParked = true ∨ ((b.retry i).finish.car i).state = .serving)
  parked : (b.retry i).evalDue = true → ((b.retry i).car i).state = .parked

theorem Block.retry_ends (hs : (b.car i).state = .failed ∨ (b.car i).state = .conflict) (hd : b.evalDue = false)
    (hq : b.entry? i = none) : b.RetryEnds i := by
  obtain ⟨v, hv, hr⟩ := Block.retry_retries hs hd
  have hdueService : v.due = true → b.plan = .service ∧ v.car.state.isParked = true := fun h => by
    rw [hr.due, Bool.and_eq_true, decide_eq_true_eq] at h
    exact h
  obtain ⟨sel, -, he, -⟩ := hv.takeEvaluation fun h => ⟨(hdueService h).1, hr.not_serving⟩
  have hmarks := he.car.trans (Block.finish_unqueued_marks
    ((Block.entry?_congr (Block.retry_movesAlone hq).queue i).trans hq))
  obtain ⟨hcar, hdue⟩ := hr.evaluated sel
  refine ⟨hcar.marks hmarks, ?_, fun h => ?_⟩
  · rw [hv.due, hmarks.state]
    exact hdue
  · rw [hv.car.state]
    exact (hr.parked (hdueService (hv.due.symm.trans h)).2).2

/-! ### Where the car may stand -/

section
variable {x : Car}

/-- A retry that does not order the car to recall leaves it where it is put, with no order. -/
theorem Block.Restarted.put (h : b.Restarted i x) (hr : b.retryState i ≠ .recallPending) :
    x.state = b.retryState i ∧ x.order = none := by
  have hstate : x.state = b.retryState i := h.state.resolve_right fun k => hr k.1
  exact ⟨hstate, (h.order (hstate ▸ (b.retryState_unserved i).2)).trans (if_neg hr)⟩

/-- A car ordered to recall is on its way, or stands where RECALL and SERVICE let it (R112, R117, R126). -/
theorem Block.Restarted.recalled (h : b.Restarted i x) (hr : b.retryState i = .recallPending) :
    x.state ∈ [RState.recallPending, .landed, .parked, .serving] ∧ (b.plan ≠ .service → x.state ≠ .serving) ∧
      (b.plan ≠ .recall → b.plan ≠ .service → x.state = .recallPending) ∧
      (x.state ≠ .serving → x.order = some (b.recallOrder i)) := by
  refine ⟨?_, fun hp hs => ?_, fun h1 h2 => ?_, fun hs => (h.order hs).trans (if_pos hr)⟩
  · rcases h.state with hs | ⟨-, ⟨-, hs | hs⟩ | ⟨-, hs⟩⟩
    · rw [hs, hr]
      decide
    · rw [hs]
      decide
    · rw [hs]
      decide
    · rw [hs]
      decide
  · rcases h.state with hk | ⟨-, ⟨-, hk | hk⟩ | ⟨hk, -⟩⟩
    · exact (b.retryState_unserved i).2 (hk.symm.trans hs)
    · rw [hs] at hk
      cases hk
    · rw [hs] at hk
      cases hk
    · exact hp hk
  · rcases h.state with hk | ⟨-, ⟨hk, -⟩ | ⟨hk, -⟩⟩
    · exact hk.trans hr
    · exact absurd hk (not_or.mpr ⟨h1, h2⟩)
    · exact absurd hk h2

/-- In a state without an order the car has none (R109, R111). -/
theorem Block.Restarted.no_order (h : b.Restarted i x) (hs : x.state ∈ retryStates) : x.order = none := by
  by_cases hr : b.retryState i = .recallPending
  · have hmem := (h.recalled hr).1
    have hapart : ∀ st ∈ retryStates, st ∉ [RState.recallPending, .landed, .parked, .serving] := by decide
    exact absurd hmem (hapart _ hs)
  · exact (h.put hr).2

end

/-! ### The rest of the part at the end of the step -/

/-- An evaluation speaks of the states of the cars, of what is learned of those that serve, and of which are silent (R127, R129). -/
theorem Block.Evaluated.congr (h : c.Evaluated t) (ha : c.active = b.active) (hm : c.manual = b.manual)
    (hf : c.fallback = b.fallback) (hd : c.derate = b.derate) (hl : c.commitments = b.commitments)
    (hstate : ∀ j, (c.car j).state = (b.car j).state) (hsilent : ∀ j, (c.car j).learned.silent = (b.car j).learned.silent)
    (hlearned : ∀ j, (b.car j).state = .serving → (c.car j).learned = (b.car j).learned) : b.Evaluated t := by
  have hconf : ∀ j, c.conf j = b.conf j := fun j => by rw [Block.conf, ha, Block.conf]
  have hcounts : c.counts = b.counts := funext fun j => by rw [Block.counts, hstate, hsilent, Block.counts]
  have hrank : c.outranks = b.outranks := funext fun j => funext fun k => by
    rw [Block.outranks, hconf, hconf, Block.outranks]
  have hchosen : ∀ j, c.chosen j = b.chosen j := fun j => by
    rw [Block.chosen, hm, hcounts, hrank, Block.setSize, hf, hd, ha]
    rfl
  have hcommitment : ∀ j, c.commitment? j = b.commitment? j := fun j => by rw [Block.commitment?, hl, Block.commitment?]
  have hrecall : ∀ j, (b.car j).state = .serving → c.recallState j .standing = b.recallState j .standing := fun j hj =>
    Block.recallState_congr ha (hlearned j hj) hl nofun
  obtain ⟨h1, h2, h3, h4, h5, h6⟩ := h
  simp only [hstate, hchosen, hconf, hcommitment] at h1 h2 h3 h4 h5 h6
  exact ⟨h1, h2, h3, fun j hs hc => hrecall j hs ▸ h4 j hs hc, h5, h6⟩

/-- A retry that does not park its car in SERVICE ends with the order-resend timers alone (R83, R101). -/
theorem Block.retry_resends (hset : b.Settled) (hq : b.entry? i = none) (hd : (b.retry i).evalDue = false) :
    (b.retry i).finish.queue = b.queue ∧ (b.retry i).finish.commitments = b.commitments ∧
      ∀ j, j ≠ i → (b.car j).SameButMarks ((b.retry i).finish.car j) := by
  have halone := Block.retry_movesAlone hq
  have hres := (Block.finish_settled (b := b.retry i) ⟨halone.arbDue.trans hset.1, hd⟩).1
  refine ⟨hres.queue.trans halone.queue, hres.keeps.commitments.trans halone.keeps.commitments, fun j hj => ?_⟩
  have hmarks := hres.sameButMarks j
  rwa [halone.others j hj, b.car_cleared_other hj] at hmarks

/-- A retry that parks its car in SERVICE ends with an evaluation (R126). -/
theorem Block.retry_evaluates (hok : b.BudgetOk) (hq : b.entry? i = none) (hp : b.plan = .service)
    (hd : (b.retry i).evalDue = true) (hs : ((b.retry i).car i).state = .parked) :
    (b.modCar i fun c => { c with state := .parked }).Evaluated (b.retry i).finish := by
  have halone := Block.retry_movesAlone hq
  have hother : ∀ j, j ≠ i → (b.retry i).car j = b.car j := fun j hj => (halone.others j hj).trans (b.car_cleared_other hj)
  have hlearned : ((b.retry i).car i).learned.silent = (b.car i).learned.silent := by
    obtain ⟨n, hn⟩ := (b.car i).learned_retried (b.conf i)
    rw [(halone.keeps.known i).learned, b.car_cleared, hn]
  have heval := (Block.finish_evalThenGrants (b := b.retry i) (halone.keeps.plan.trans hp) hd).evaluated (hok.retry i)
  have hparked := b.car_modCar_same i fun c => { c with state := .parked }
  refine heval.congr halone.keeps.active halone.keeps.manual halone.keeps.fallback halone.keeps.derate
    halone.keeps.commitments (fun j => ?_) (fun j => ?_) fun j hj => ?_
  · by_cases hji : j = i
    · subst hji
      rw [hs, hparked]
    · rw [hother j hji, Block.car_modCar_other _ _ hji]
  · by_cases hji : j = i
    · subst hji
      rw [hlearned, hparked]
    · rw [hother j hji, Block.car_modCar_other _ _ hji]
  · have hji : j ≠ i := fun h => by
      subst h
      rw [hparked] at hj
      cases hj
    rw [hother j hji, Block.car_modCar_other _ _ hji]

/-- The block of a retry keeps what a step keeps, but for what is known of its car (R35). -/
theorem Block.retry_keepsPlan (hq : b.entry? i = none) : (b.cleared i).KeepsPlan (b.retry i).finish :=
  (Block.retry_movesAlone hq).keeps.toKeepsPlan.trans (b.retry i).finish_keeps

/-- The whole step of a retry but for its answer (R35, R123, R126). -/
structure Block.RetryStep (b : Block) (i : CarIx) (t : Block) : Prop where
  car       : b.Restarted i (t.car i)
  keeps     : (b.cleared i).KeepsPlan t
  list      : b.commitments <+: t.commitments
  ordered   : b.retryState i = .recallPending → b.cport.roomOwn = true → ∃ m, t.cport.tx = b.cport.tx ++
    ownItem (b.ownFrame (t.busNode i) .carOrder [byteOf (carNo i), 1, byteOf (b.conf i).recallLanding]) :: m
  quiet     : b.plan ≠ .service ∨ ((t.car i).state.isParked = false ∧ (t.car i).state ≠ .serving) →
    t.queue = b.queue ∧ t.commitments = b.commitments ∧ ∀ j, j ≠ i → (b.car j).SameButMarks (t.car j)
  evaluated : b.plan = .service → b.BudgetOk → (t.car i).state.isParked = true ∨ (t.car i).state = .serving →
    (b.modCar i fun c => { c with state := .parked }).Evaluated t

theorem Block.retry_step (hset : b.Settled) (hs : (b.car i).state = .failed ∨ (b.car i).state = .conflict)
    (hq : b.entry? i = none) : b.RetryStep i (b.retry i).finish := by
  obtain ⟨hcar, hdue, hparked⟩ := Block.retry_ends hs hset.2 hq
  have hbudget := (Block.retry_movesAlone hq).keeps
  have hlist := (b.retry i).finish_commitments
  rw [hbudget.commitments] at hlist
  have hnode : (b.retry i).finish.busNode i = (b.retry i).busNode i := by
    unfold Block.busNode
    rw [((b.retry i).finish_keeps.known i).bound]
  refine ⟨hcar, Block.retry_keepsPlan hq, hlist, fun hr hroom => ?_, fun h => Block.retry_resends hset hq ?_,
    fun hp hok h => ?_⟩
  · obtain ⟨m, hm⟩ := Block.cport_retry hq hr hroom
    obtain ⟨m', hm'⟩ := (b.retry i).finish_keeps.cport.grows
    exact ⟨m ++ m', by rw [hm', hm, hnode, List.append_assoc, List.cons_append]⟩
  · rw [← Bool.not_eq_true, hdue]
    rintro ⟨hp, hend⟩
    rcases h with h | ⟨h1, h2⟩
    · exact h hp
    · exact hend.elim (fun k => by rw [h1] at k; cases k) h2
  · have hevaluates := hdue.mpr ⟨hp, h⟩
    exact Block.retry_evaluates hok hq hp hevaluates (hparked hevaluates)

end Sys2Proof.Machine
end

section
/-! The statement about RETRY_CAR (R123, R35, R164). -/

namespace Sys2Proof.Machine

variable {b : Block} {i : CarIx}

/-! ### The state a retry puts a car in, by its plan, mode and class (R123) -/

theorem Block.retryState_group (h : (b.car i).learned.heard = true) (hp : b.plan = .normal ∨ b.plan = .adopt) :
    b.retryState i = .inGroup := by
  have hplaced : b.placedState i (b.car i).learned.mode = .inGroup :=
    Block.placedState_of_not_emergency (by rcases hp with hp | hp <;> rw [hp] <;> rfl) i _
  rw [Block.retryState_heard h, hplaced]
  rfl

theorem Block.retryState_outside (h : (b.car i).learned.heard = true) (he : b.plan.emergency = true)
    (hm : (b.car i).learned.mode.group ≠ .automatic) : b.retryState i = (b.car i).learned.mode.group.state := by
  rw [Block.retryState_heard h, Block.placedState_of_outside he hm, if_neg]
  rcases (b.car i).learned.mode.group.state_of_ne with hg | hg <;> rw [hg] <;> decide

theorem Block.retryState_automatic (h : (b.car i).learned.heard = true) (he : b.plan.emergency = true)
    (hm : (b.car i).learned.mode = .automatic) : b.retryState i = if (b.conf i).cls = 0 then .excluded else .recallPending := by
  rw [Block.retryState_heard h, Block.placedState_of_automatic he (by rw [hm]; rfl)]
  split
  · rfl
  · split <;> rfl

theorem Block.retryState_recalled (h : (b.car i).learned.heard = true) (he : b.plan.emergency = true)
    (hm : (b.car i).learned.mode = .automatic) (hc : (b.conf i).cls ≠ 0) : b.retryState i = .recallPending :=
  (Block.retryState_automatic h he hm).trans (if_neg hc)

theorem CarMode.group_ne_automatic {m : CarMode} (h : m ≠ .automatic) : m.group ≠ .automatic := by
  cases m with
  | automatic => exact absurd rfl h
  | _ => exact nofun

theorem CarMode.state_group_held {m : CarMode} (h1 : m ≠ .firefighter) (h2 : m ≠ .automatic) : m.group.state = .heldOut := by
  cases m with
  | firefighter => exact absurd rfl h1
  | automatic => exact absurd rfl h2
  | _ => rfl

/-- What the step of a retry makes of a heard car in an emergency plan (R123). -/
structure Block.RestartedInOutage (b : Block) (i : CarIx) (x : Car) : Prop where
  firefighter : (b.car i).learned.mode = .firefighter → x.state = .firefighter
  held        : (b.car i).learned.mode ≠ .firefighter → (b.car i).learned.mode ≠ .automatic → x.state = .heldOut
  excluded    : (b.car i).learned.mode = .automatic → (b.conf i).cls = 0 → x.state = .excluded
  waiting     : (b.car i).learned.mode = .automatic → (b.conf i).cls ≠ 0 →
    b.plan = .transferWait ∨ b.plan = .mainsReturn →
    x.state = .recallPending ∧ x.order = some (b.recallOrder i)
  recalled    : (b.car i).learned.mode = .automatic → (b.conf i).cls ≠ 0 → b.plan = .recall ∨ b.plan = .service →
    x.state ∈ [RState.recallPending, .landed, .parked, .serving] ∧ (b.plan = .recall → x.state ≠ .serving) ∧
      (x.state ≠ .serving → x.order = some (b.recallOrder i))

theorem Block.Restarted.outage {x : Car} (h : b.Restarted i x) (hheard : (b.car i).learned.heard = true)
    (he : b.plan.emergency = true) : b.RestartedInOutage i x := by
  have hput : ∀ {st}, b.retryState i = st → st ≠ .recallPending → x.state = st := fun hst hne =>
    (h.put (hst ▸ hne)).1.trans hst
  refine ⟨fun hm => ?_, fun h1 h2 => ?_, fun hm hc => ?_, fun hm hc hp => ?_, fun hm hc _ => ?_⟩
  · have hgroup := Block.retryState_outside hheard he (CarMode.group_ne_automatic (by rw [hm]; decide))
    rw [hm] at hgroup
    exact hput hgroup (by decide)
  · have hgroup := Block.retryState_outside hheard he (CarMode.group_ne_automatic h2)
    exact hput (hgroup.trans (CarMode.state_group_held h1 h2)) (by decide)
  · exact hput ((Block.retryState_automatic hheard he hm).trans (if_pos hc)) (by decide)
  · obtain ⟨-, -, hpending, horder⟩ := h.recalled (Block.retryState_recalled hheard he hm hc)
    have hstate : x.state = .recallPending := by
      rcases hp with hp | hp <;> exact hpending (by rw [hp]; decide) (by rw [hp]; decide)
    exact ⟨hstate, horder (by rw [hstate]; decide)⟩
  · obtain ⟨hmem, hserving, -, horder⟩ := h.recalled (Block.retryState_recalled hheard he hm hc)
    exact ⟨hmem, fun hp => hserving (by rw [hp]; decide), horder⟩

theorem CarConf.binding_firstHeard {c : CarConf} (h : c.bind = .firstHeard) : c.binding = none :=
  if_neg fun k => by rw [h] at k; cases k.2

theorem CarConf.binding_assigned {c : CarConf} (h : c.bind = .assigned) (hp : c.present = true) : c.binding = some c.assigned :=
  if_pos ⟨hp, h⟩

/-! ### The command -/

section
variable {s : State} {src : Node}

theorem Block.checkRequest_retryCar (h : s.Allowed .maintenance) (x : Byte) (prepare : Bool) :
    s.toBlock.checkRequest prepare (.retryCar x) = none := by
  have hlevel : ¬ s.mgmt.level.rank < (Request.retryCar x).level.rank := Nat.not_lt.mpr h
  unfold Block.checkRequest
  rw [if_neg (show ¬ (Request.retryCar x).isMalformed = true from nofun), if_neg hlevel]
  rfl

/-- RETRY_CAR of a car that is FAILED or in CONFLICT (R123, R164). -/
theorem Block.doRetryCar_done (hs : (b.car i).state = .failed ∨ (b.car i).state = .conflict) :
    b.doRetryCar (byteOf (carNo i)) = ((b.retry i).finish, Reply.plain .done) := by
  unfold Block.doRetryCar
  rw [carIx?_carNo]
  exact if_pos hs

/-- RETRY_CAR of a car in another state (R164). -/
theorem Block.doRetryCar_otherState (h1 : (b.car i).state ≠ .failed) (h2 : (b.car i).state ≠ .conflict) :
    b.doRetryCar (byteOf (carNo i)) = (b, Reply.plain .notFound) := by
  unfold Block.doRetryCar
  rw [carIx?_carNo]
  exact if_neg (not_or.mpr ⟨h1, h2⟩)

/-- RETRY_CAR with a number outside 1 to 16 (R164). -/
theorem Block.doRetryCar_noCar {x : Byte} (h : carIx? x.toNat = none) : b.doRetryCar x = (b, Reply.plain .notFound) := by
  unfold Block.doRetryCar
  rw [h]

/-- RETRY_CAR that passes the checks ends with its answer (R153, R154). -/
theorem exec_retryCar (hload : s.loaded = true) (hsrc : src.val ≠ 63) (hlevel : s.Allowed .maintenance) {x : Byte}
    {c : Block} {reply : Reply} (h : s.begunBlock.doRetryCar x = (c, reply)) :
    exec (.retryCar src x) s = .next { s with toBlock := c.respond src 17 reply } := by
  have hperform : s.begunBlock.perform src (.retryCar x) = c.respond src 17 reply :=
    congrArg (fun y => y.1.respond src 17 y.2) h
  have hrequest := request_performs hload hsrc (Block.checkRequest_retryCar hlevel x s.mgmt.prepare)
  rw [hperform] at hrequest
  exact hrequest

/-- A retry of a car that is FAILED or in CONFLICT is answered DONE behind what its step sends (R123, R164, assumption 27). -/
theorem exec_retryCar_done (hload : s.loaded = true) (hsrc : src.val ≠ 63) (hlevel : s.Allowed .maintenance)
    (hs : (s.toBlock.car i).state = .failed ∨ (s.toBlock.car i).state = .conflict) (hq : s.toBlock.entry? i = none) :
    ∃ p m, exec (.retryCar src (byteOf (carNo i))) s = .next { s with
        toBlock := { (s.begunBlock.retry i).finish with gport := p, mgmt := m } } ∧
      (s.mgmt.storeAnswer = [] → s.AnsweredLast { s with
        toBlock := { (s.begunBlock.retry i).finish with gport := p, mgmt := m } } (s.answer src 17 .done [])) := by
  have hexec := exec_retryCar hload hsrc hlevel (Block.doRetryCar_done (b := s.begunBlock) hs)
  have hkeeps := Block.retry_keepsPlan (b := s.begunBlock) hq
  have hmgmt : (s.begunBlock.retry i).finish.mgmt = s.begun := hkeeps.mgmt
  have hactive : (s.begunBlock.retry i).finish.active = s.active := hkeeps.active
  have hgrows : ∃ l, (s.begunBlock.retry i).finish.gport.tx = s.gport.tx ++ l := hkeeps.gport.grows
  generalize (s.begunBlock.retry i).finish = c at hexec hmgmt hactive hgrows
  have hanswer := fun hstore => Block.respond_answersLast src 17 .done hstore hmgmt hactive hgrows
  obtain ⟨p, m, hports⟩ := c.respond_ports src 17 (Reply.plain .done)
  rw [hports] at hexec hanswer
  exact ⟨p, m, hexec, hanswer⟩

/-- A retry that names no car in those states is answered NOT_FOUND (R164). -/
theorem exec_retryCar_notFound (hready : s.Ready src) (hlevel : s.Allowed .maintenance) {x : Byte}
    (h : s.begunBlock.doRetryCar x = (s.begunBlock, Reply.plain .notFound)) : exec (.retryCar src x) s = .next { s with
      mgmt := s.begun, gport := s.gportWith (s.answer src 17 .notFound []) } := by
  rw [exec_retryCar hready.1 hready.2.1 hlevel h, Block.respond_single hready (.inr ⟨rfl, rfl⟩)]
  rfl

end

/-- An evaluation says nothing of the G-port and the Management Unit. -/
theorem Block.Evaluated.answered {c : Block} (h : b.Evaluated c) (p : Port) (m : Mgmt) :
    b.Evaluated { c with gport := p, mgmt := m } := ⟨h.selected, h.left, h.serving, h.released, h.delayed, h.others⟩

end Sys2Proof.Machine

open Sys2Proof Sys2Proof.Machine

/-- Settles O49: the car is put in a state by plan, mode and class, and only a parking in SERVICE makes more of the step than its
frames and timers. -/
theorem retryCarRestarts : Obligations.RetryCarRestarts := by
  unfold Obligations.RetryCarRestarts
  intro s src i hload hsrc hlevel hset
  refine ⟨fun hs hq => ?_, fun h1 h2 hroom hstore => ?_, fun x hx hroom hstore => ?_⟩
  · obtain ⟨p, m, hexec, hanswer⟩ := exec_retryCar_done hload hsrc hlevel hs hq
    have hstep := Block.retry_step (b := s.begunBlock) hset hs hq
    generalize (s.begunBlock.retry i).finish = t at hexec hanswer hstep
    obtain ⟨hcar, hkeeps, hlist, hordered, hquiet, hevaluated⟩ := hstep
    have hknown := hkeeps.known i
    rw [Block.car_cleared] at hknown
    refine ⟨_, hexec, hcar.reason, hcar.attempts, hcar.alarm, fun hconflict => ?_, fun hfailed => ?_,
      hcar.no_order, fun hheard => ?_, fun hheard hp => ?_, fun hheard he => ?_, hkeeps.plan, hkeeps.active, hkeeps.manual,
      hkeeps.settleTimer, hlist, hanswer, fun j hj => ?_, hquiet, fun hp hok hend => ?_⟩
    · obtain ⟨hforeign, hlearned, htag, hbound⟩ :=
        Car.retried_conflict (c := s.begunBlock.car i) (s.begunBlock.conf i) hconflict
      have hbinding := hknown.bound.trans hbound
      exact ⟨hknown.foreign.trans hforeign, hknown.learned.trans hlearned, hknown.lastTag.trans htag,
        fun h => hbinding.trans (CarConf.binding_firstHeard h), fun h hp => hbinding.trans (CarConf.binding_assigned h hp)⟩
    · have hne : (s.begunBlock.car i).state ≠ .conflict := fun h => by
        rw [show (s.begunBlock.car i).state = .failed from hfailed] at h
        cases h
      exact (Car.retried_other _ hne).trans hknown
    · have hput := Block.retryState_unheard (b := s.begunBlock) hheard
      exact (hcar.put (by rw [hput]; decide)).1.trans hput
    · have hput := Block.retryState_group (b := s.begunBlock) hheard hp
      exact (hcar.put (by rw [hput]; decide)).1.trans hput
    · have houtage := hcar.outage hheard he
      exact ⟨houtage.firefighter, houtage.held, houtage.excluded, houtage.waiting, houtage.recalled,
        fun hm hc => hordered (Block.retryState_recalled (b := s.begunBlock) hheard he hm hc)⟩
    · have := hkeeps.known j
      rwa [Block.car_cleared_other _ hj] at this
    · have hanswered := (hevaluated hp (hok.congr rfl rfl) hend).answered p m
      exact hanswered.congr rfl rfl rfl rfl rfl (fun _ => rfl) (fun _ => rfl) fun _ _ => rfl
  · exact exec_retryCar_notFound ⟨hload, hsrc, hroom, hstore⟩ hlevel (Block.doRetryCar_otherState (b := s.begunBlock) h1 h2)
  · exact exec_retryCar_notFound ⟨hload, hsrc, hroom, hstore⟩ hlevel (Block.doRetryCar_noCar hx)

end

section
/-! SELECT (R125, R164): the list it reads, what a change of the manual selection makes of the part, and its answer. -/

namespace Sys2Proof.Machine

variable {b c : Block} {i : CarIx} {m : Option (List CarIx)}

/-! ### The list of cars (R125, R164) -/

/-- The cars of a list behind those found before it, each once. -/
def listedOnce (found : List CarIx) : List CarIx → List CarIx
  | [] => found
  | i :: l => listedOnce (if found.contains i then found else found ++ [i]) l

/-- Car numbers are read into the cars found, and the entries behind them from there. -/
theorem selection_carNos (l : List CarIx) (rest : List Byte) (n : Nat) (found : List CarIx) :
    selection (l.map (fun i => byteOf (carNo i)) ++ rest) n found = selection rest (n + l.length) (listedOnce found l) := by
  induction l generalizing n found with
  | nil => rfl
  | cons i l ih =>
    rw [List.map_cons, List.cons_append, selection, carIx?_carNo]
    dsimp only
    rw [ih, List.length_cons, Nat.add_right_comm, Nat.add_assoc, listedOnce]

theorem mem_listedOnce (found l : List CarIx) : i ∈ listedOnce found l ↔ i ∈ found ∨ i ∈ l := by
  induction l generalizing found with
  | nil => simp [listedOnce]
  | cons j l ih =>
    rw [listedOnce, ih]
    split
    · rename_i hj
      have hfound : j ∈ found := List.contains_iff_mem.mp hj
      constructor
      · exact Or.imp_right (List.mem_cons_of_mem j)
      · rintro (hi | hi)
        · exact .inl hi
        · exact (List.mem_cons.mp hi).imp_left fun h => by rwa [h]
    · rw [List.mem_append, List.mem_singleton, List.mem_cons, or_assoc]

theorem nodup_listedOnce {found : List CarIx} (h : found.Nodup) (l : List CarIx) : (listedOnce found l).Nodup := by
  induction l generalizing found with
  | nil => exact h
  | cons i l ih =>
    rw [listedOnce]
    split
    · exact ih h
    · rename_i hi
      exact ih (by simpa using h.concat (List.contains_iff_mem.not.mp hi))

/-- A list that names no car twice, and none found before, is taken as it stands. -/
theorem listedOnce_of_nodup {found l : List CarIx} (h : (found ++ l).Nodup) : listedOnce found l = found ++ l := by
  induction l generalizing found with
  | nil => exact (List.append_nil found).symm
  | cons i l ih =>
    have hi : i ∉ found := fun hi => (List.nodup_append.mp h).2.2 i hi i List.mem_cons_self rfl
    rw [List.append_cons] at h ⊢
    rw [listedOnce, if_neg (List.contains_iff_mem.not.mpr hi), ih h]

/-! ### The manual selection (R125, R131) -/

/-- Telling the Relay Unit of every car marks no pass due. -/
theorem Block.arbDue_tellRelayAll (b : Block) : b.tellRelayAll.arbDue = b.arbDue :=
  foldl_rel (R := fun b c : Block => c.arbDue = b.arbDue) (fun _ => rfl) (fun h k => k.trans h) (fun b i => b.arbDue_tellRelay i)
    allCars b

/-- Telling the Relay Unit of every car changes their slots alone (R131). -/
theorem Block.tellRelayAll_marks (b : Block) (i : CarIx) : (b.car i).SameButMarks (b.tellRelayAll.car i) := by
  obtain ⟨c, -, hc, hall⟩ := b.car_tellRelayAll i
  obtain ⟨x, hx⟩ := c.car_tellRelay i
  rw [hall, hx, hc]
  exact ⟨rfl, rfl, rfl, rfl, rfl, rfl, rfl, rfl, rfl, rfl, rfl, rfl⟩

/-- Outside SERVICE no car is selected-awaiting (R131). -/
theorem Block.awaiting_of_not_service (hp : b.plan ≠ .service) (i : CarIx) : b.awaiting i = false := by
  simp [Block.awaiting, hp]

/-- Outside SERVICE closed slots stay closed, and nothing is sent for them (R140). -/
theorem Block.tellRelayAll_of_closed (hp : b.plan ≠ .service) (hclosed : ∀ i, (b.car i).slot = .closed) : b.tellRelayAll = b :=
  List.foldl_fixed' (fun i => Block.tellRelay_of_closed (hclosed i) (Block.awaiting_of_not_service hp i)) allCars

/-- What a change of the manual selection leaves at the end of its step (R125, R126, R131). -/
structure Block.SelectsBy (b : Block) (m : Option (List CarIx)) (t : Block) : Prop where
  keeps     : ({ b with manual := m } : Block).KeepsPlan t
  list      : b.commitments <+: t.commitments
  evaluated : b.plan = .service → b.BudgetOk → ({ b with manual := m } : Block).Evaluated t
  quiet     : b.plan ≠ .service → ∀ i, (b.car i).SameButMarks (t.car i)
  silent    : b.plan ≠ .service → (∀ i, (b.car i).slot = .closed) → t.gport = b.gport

/-- In SERVICE the step ends with an evaluation, and the slots that the Relay Unit has changed before it do not bear on the
service set (R126, R128). -/
theorem Block.setManual_evaluates (m : Option (List CarIx)) (hp : b.plan = .service) (hok : b.BudgetOk) :
    ({ b with manual := m } : Block).Evaluated (b.setManual m) := by
  have hkeeps := ({ b with manual := m } : Block).tellRelayAll_keeps
  have hmarks := ({ b with manual := m } : Block).tellRelayAll_marks
  have hmanual : ({ b with manual := m } : Block).BudgetOk := hok.congr rfl rfl
  unfold Block.setManual
  generalize ({ b with manual := m } : Block).tellRelayAll = c at hkeeps hmarks ⊢
  rw [Block.raiseEvaluation, if_pos (hkeeps.plan.trans hp)]
  have hbudget : ({ c with evalDue := true } : Block).BudgetOk := (hmanual.keeps hkeeps).congr rfl rfl
  have heval := (Block.finish_evalThenGrants (b := { c with evalDue := true }) (hkeeps.plan.trans hp) rfl).evaluated hbudget
  exact heval.congr hkeeps.active hkeeps.manual hkeeps.fallback hkeeps.derate hkeeps.commitments (fun j => (hmarks j).state)
    (fun j => congrArg Learned.silent (hmarks j).learned) fun j _ => (hmarks j).learned

/-- Outside SERVICE the step ends with the order-resend timers alone (R101). -/
theorem Block.setManual_resends (m : Option (List CarIx)) (hset : b.Settled) (hp : b.plan ≠ .service) :
    (∀ i, (b.car i).SameButMarks ((b.setManual m).car i)) ∧
      (b.setManual m).gport = ({ b with manual := m } : Block).tellRelayAll.gport := by
  have hkeeps := ({ b with manual := m } : Block).tellRelayAll_keeps
  have hmarks := ({ b with manual := m } : Block).tellRelayAll_marks
  have harb := ({ b with manual := m } : Block).arbDue_tellRelayAll
  have heval := ({ b with manual := m } : Block).evalDue_tellRelayAll
  unfold Block.setManual
  generalize ({ b with manual := m } : Block).tellRelayAll = c at hkeeps hmarks harb heval ⊢
  rw [Block.raiseEvaluation, if_neg fun h => hp (hkeeps.plan.symm.trans h)]
  obtain ⟨hresends, hport⟩ := Block.finish_settled (b := c) ⟨harb.trans hset.1, heval.trans hset.2⟩
  exact ⟨fun i => (hmarks i).trans (hresends.sameButMarks i), hport⟩

theorem Block.setManual_selectsBy (m : Option (List CarIx)) (hset : b.Settled) : b.SelectsBy m (b.setManual m) where
  keeps :=
    ((Block.tellRelayAll_keeps _).trans (Block.raiseEvaluation_keeps _)).toKeepsPlan.trans (Block.finish_keeps _)
  list := by
    have hlist := ({ b with manual := m } : Block).tellRelayAll.raiseEvaluation.finish_commitments
    rwa [((Block.tellRelayAll_keeps _).trans (Block.raiseEvaluation_keeps _)).commitments] at hlist
  evaluated := Block.setManual_evaluates m
  quiet hp := (Block.setManual_resends m hset hp).1
  silent hp hclosed := by
    rw [(Block.setManual_resends m hset hp).2, Block.tellRelayAll_of_closed (b := { b with manual := m }) hp hclosed]

/-! ### The command (R125, R164) -/

section
variable {s : State} {src : Node} {form : Byte} {cars : List Byte}

/-- The form and the number of entries that a SELECT may have (12.4). -/
def selectForm (form : Byte) (cars : List Byte) : Prop := (form = 0 ∧ cars = []) ∨ (form = 1 ∧ cars.length ≤ 16)

theorem Block.checkRequest_select (h : s.Allowed .maintenance) (form : Byte) (cars : List Byte) (prepare : Bool) :
    s.toBlock.checkRequest prepare (.select form cars) = none := by
  have hlevel : ¬ s.mgmt.level.rank < (Request.select form cars).level.rank := Nat.not_lt.mpr h
  unfold Block.checkRequest
  rw [if_neg (show ¬ (Request.select form cars).isMalformed = true from nofun), if_neg hlevel]
  rfl

/-- SELECT that passes the checks ends with its answer (R153, R154). -/
theorem exec_select (hready : s.Ready src) (hlevel : s.Allowed .maintenance) (hform : selectForm form cars) {reply : Reply}
    (h : s.begunBlock.doSelect form cars = (c, reply)) :
    exec (.select src form cars) s = .next { s with toBlock := c.respond src 16 reply } := by
  have hperform : s.begunBlock.perform src (.select form cars) = c.respond src 16 reply :=
    congrArg (fun y => y.1.respond src 16 y.2) h
  have hrequest := request_performs hready.1 hready.2.1 (Block.checkRequest_select hlevel form cars s.mgmt.prepare)
  rw [hperform, ← show Request.ofSelect form cars = .select form cars from if_pos hform] at hrequest
  exact hrequest

/-- An answer without a record, where its effect has sent nothing on the G-port, takes its place there at once (R154). -/
theorem Block.respond_plain (hready : s.Ready src) (hl : c.loaded = s.loaded) (hm : c.mgmt = s.begun)
    (ha : c.active = s.active) (hg : c.gport = s.gport) (kind : Byte) (code : RespCode) :
    c.respond src kind (Reply.plain code) =
      { c with mgmt := s.begun, gport := s.gportWith (s.answer src kind code []) } := by
  obtain ⟨hload, hsrc, hroom, hstore⟩ := hready
  have hc : c = { c with mgmt := s.begun, active := s.active, gport := s.gport } := by rw [← hm, ← ha, ← hg]
  have hsingle := Block.respond_single
    (s := { s with toBlock := { c with mgmt := s.mgmt, active := s.active, gport := s.gport } }) (kind := kind)
    (r := Reply.plain code) ⟨hl.trans hload, hsrc, hroom, hstore⟩ (.inr ⟨rfl, rfl⟩)
  rw [hc]
  exact hsingle

/-- What a SELECT leaves that is answered DONE (R125, R126, R131, R164, assumption 27). -/
structure State.SelectDone (s : State) (src : Node) (m : Option (List CarIx)) (t : State) : Prop where
  manual    : t.manual = m
  plan      : t.plan = s.plan
  active    : t.active = s.active
  list      : s.commitments <+: t.commitments
  answered  : s.AnsweredLast t (s.answer src 16 .done [])
  evaluated : s.plan = .service → s.toBlock.BudgetOk → ({ s.toBlock with manual := m } : Block).Evaluated t.toBlock
  quiet     : s.plan ≠ .service → ∀ i, (s.toBlock.car i).SameButMarks (t.toBlock.car i)
  silent    : s.plan ≠ .service → (∀ i, (s.toBlock.car i).slot = .closed) →
    t.mgmt = s.begun ∧ t.gport = s.gportWith (s.answer src 16 .done [])

/-- SELECT with a new manual selection, or none, sets it and is answered DONE behind what its step sends. -/
theorem exec_select_done (hready : s.Ready src) (hlevel : s.Allowed .maintenance) (hset : s.toBlock.Settled)
    (hform : selectForm form cars) (h : s.begunBlock.doSelect form cars = (s.begunBlock.setManual m, Reply.plain .done)) :
    Completes (.select src form cars) s (s.SelectDone src m) := by
  have hexec := exec_select hready hlevel hform h
  obtain ⟨hkeeps, hlist, hevaluated, hquiet, hsilent⟩ := Block.setManual_selectsBy (b := s.begunBlock) m hset
  generalize s.begunBlock.setManual m = c at hexec hkeeps hlist hevaluated hquiet hsilent
  have hmgmt : c.mgmt = s.begun := hkeeps.mgmt
  have hactive : c.active = s.active := hkeeps.active
  have hanswer := Block.respond_answersLast src 16 .done hready.2.2.2 hmgmt hactive hkeeps.gport.grows
  have hplain := fun hg => Block.respond_plain hready hkeeps.loaded hmgmt hactive hg 16 .done
  obtain ⟨p, u, hports⟩ := c.respond_ports src 16 (Reply.plain .done)
  rw [hports] at hexec hanswer hplain
  refine ⟨_, hexec, hkeeps.manual, hkeeps.plan, hactive, hlist, hanswer, fun hp hok => ?_, hquiet, fun hp hclosed => ?_⟩
  · exact ((hevaluated hp (hok.congr rfl rfl)).answered p u).congr rfl rfl rfl rfl rfl (fun _ => rfl) (fun _ => rfl) fun _ _ => rfl
  · have hport := hplain (hsilent hp hclosed)
    exact ⟨congrArg Block.mgmt hport, congrArg Block.gport hport⟩

/-- SELECT without a list clears the manual selection (R125). -/
theorem Block.doSelect_clear (b : Block) : b.doSelect 0 [] = (b.setManual none, Reply.plain .done) := rfl

/-- SELECT with a list makes it the manual selection, each car once (R125). -/
theorem Block.doSelect_list (b : Block) (l : List CarIx) : b.doSelect 1 (l.map fun i => byteOf (carNo i)) =
    (b.setManual (some (listedOnce [] l)), Reply.plain .done) := by
  have hread := selection_carNos l [] 1 []
  rw [List.append_nil] at hread
  unfold Block.doSelect
  rw [if_neg (by decide), hread]
  rfl

/-- SELECT with a number outside 1 to 16 leaves the selection (R164). -/
theorem Block.doSelect_badField (b : Block) (l : List CarIx) {x : Byte} (hx : carIx? x.toNat = none) (rest : List Byte) :
    b.doSelect 1 (l.map (fun i => byteOf (carNo i)) ++ x :: rest) = (b, Reply.badField (l.length + 1) (rest.length + 1)) := by
  have hleft : (l.map (fun i => byteOf (carNo i)) ++ x :: rest).length + 1 - (1 + l.length) = rest.length + 1 := by
    rw [List.length_append, List.length_map, List.length_cons]
    omega
  have hread := selection_carNos l (x :: rest) 1 []
  rw [selection, hx] at hread
  unfold Block.doSelect
  rw [if_neg (by decide), hread]
  dsimp only
  rw [hleft, Nat.add_comm 1]

end

end Sys2Proof.Machine

open Sys2Proof Sys2Proof.Machine

/-- Settles O48: both forms end in `State.SelectDone`, for the list with each car once and for no selection; a number outside 1 to
16 ends the reading of the list at its place. -/
theorem selectSetsSelection : Obligations.SelectSetsSelection := by
  unfold Obligations.SelectSetsSelection
  intro s src hready hlevel hset
  refine ⟨fun l hl => ?_, ?_, fun l x rest hx hlen => ?_⟩
  · obtain ⟨t, hexec, h⟩ := exec_select_done hready hlevel hset (.inr ⟨rfl, by rwa [List.length_map]⟩)
      (s.begunBlock.doSelect_list l)
    refine ⟨t, hexec, ⟨listedOnce [] l, h.manual, nodup_listedOnce .nil l, fun i => ?_, fun hn => ?_, h.evaluated⟩,
      h.plan, h.active, h.list, h.answered, h.quiet, h.silent⟩
    · rw [mem_listedOnce, or_iff_right List.not_mem_nil]
    · exact listedOnce_of_nodup (found := []) hn
  · obtain ⟨t, hexec, h⟩ := exec_select_done hready hlevel hset (.inl ⟨rfl, rfl⟩) s.begunBlock.doSelect_clear
    exact ⟨t, hexec, h.manual, h.plan, h.active, h.list, h.answered, h.evaluated, h.quiet, h.silent⟩
  · have hform : selectForm 1 (l.map (fun i => byteOf (carNo i)) ++ x :: rest) := .inr ⟨rfl, by
      rw [List.length_append, List.length_map, List.length_cons]
      omega⟩
    rw [exec_select hready hlevel hform (s.begunBlock.doSelect_badField l hx rest), Block.respond_single hready (.inl rfl)]
    rfl

end

section
/-! The taking of a frame from the head of a FIFO (R134), and the statement about dispatch orders (R138, R139, R142). -/

namespace Sys2Proof.Machine

/-! ### The head of a FIFO -/

/-- A frame whose route is wanted is taken from the head of its port's FIFO (R134, R146). -/
theorem Block.takeFrame_takes {s : State} {p : PortId} {f : Frame} {r : Route} (h : s.Takes p f r) {want : Route → Bool}
    (hwant : want r = true) (act : Block → Frame → Block) :
    s.toBlock.takeFrame p want act = act (s.toBlock.modPort p Port.takeHead) f := by
  obtain ⟨hloaded, ⟨rest, hrx⟩, hroute⟩ := h
  unfold Block.takeFrame
  rw [if_pos hloaded, hrx]
  dsimp only
  rw [hroute, if_pos hwant]

/-! ### Dispatch orders (R138, R139) -/

/-- A dispatch order at the head of the G-port's FIFO is taken (R138). -/
theorem exec_dispatchOrder {s : State} {f : Frame} (h : s.Takes .g f .dispatchOrder) :
    exec .dispatchOrder s = .next { s with toBlock := s.headTaken.toBlock.onDispatchOrder f } := by
  have htake : s.toBlock.takeFrame .g (fun r => decide (r = .dispatchOrder)) Block.onDispatchOrder =
      s.headTaken.toBlock.onDispatchOrder f := Block.takeFrame_takes h rfl _
  exact congrArg (fun b : Block => Host.Outcome.next { s with toBlock := b }) htake

/-- A dropped order is told to its source (R138, R142). -/
theorem State.dropOrder_eq (s : State) {f : Frame} {car landing : Byte} (hf : f.payload = [car, landing]) :
    s.toBlock.dropOrder f = { s.toBlock with gport := s.gport.noticed f.src (s.noticeItem car f.src landing 4) } := by
  unfold Block.dropOrder Block.announce orderFields
  rw [hf]
  exact Block.orderNotice_eq_noticed _ _ _ _ _

section
variable {s : State} {i : CarIx} {dst src landing : Byte}

/-- Checks 2 and 3 of R138 on an order that names a car, and the judging behind them. -/
theorem Block.onDispatchOrder_named (b : Block) (i : CarIx) (dst src landing : Byte) :
    b.onDispatchOrder (dispatchFrame dst src i landing) =
      if 127 < landing.toNat ∨ landing.toNat < (b.conf i).lowest ∨ (b.conf i).highest < landing.toNat then
        b.dropOrder (dispatchFrame dst src i landing)
      else if (b.conf i).refusesOrders then b.dropOrder (dispatchFrame dst src i landing)
      else if b.plan = .normal then
        if b.active.plan.relay.dispatchNormal then b.relayTo .c (dispatchFrame dst src i landing)
        else b.dropOrder (dispatchFrame dst src i landing)
      else b.orderByState i (dispatchFrame dst src i landing) := by
  have hcar : carIx? (orderFields (dispatchFrame dst src i landing)).1.toNat = some i := carIx?_carNo i
  unfold Block.onDispatchOrder
  dsimp only
  rw [hcar]
  rfl

/-- An order that passes checks 1 to 3 is judged by the NORMAL cell or by its car's state (R138, R139). -/
theorem State.onDispatchOrder_passes (h : s.OrderPasses i landing) : s.toBlock.onDispatchOrder (dispatchFrame dst src i landing) =
    if s.plan = .normal then
      if s.active.plan.relay.dispatchNormal then s.toBlock.relayTo .c (dispatchFrame dst src i landing)
      else s.toBlock.dropOrder (dispatchFrame dst src i landing)
    else s.toBlock.orderByState i (dispatchFrame dst src i landing) := by
  obtain ⟨h127, hlow, hhigh, hrelay⟩ := h
  have hlets : (s.toBlock.conf i).refusesOrders = false := by
    cases hp : (s.toBlock.conf i).present with
    | false => rw [CarConf.refusesOrders, hp]; rfl
    | true => rw [CarConf.refusesOrders, hp, hrelay hp]; rfl
  have hrange : ¬ (127 < landing.toNat ∨ landing.toNat < (s.toBlock.conf i).lowest ∨
      (s.toBlock.conf i).highest < landing.toNat) := by omega
  rw [Block.onDispatchOrder_named, if_neg hrange, if_neg (by rw [hlets]; decide)]

/-- An order that fails one of checks 1 to 3 is dropped (R138). -/
theorem State.onDispatchOrder_fails (h : ¬ s.OrderPasses i landing) :
    s.toBlock.onDispatchOrder (dispatchFrame dst src i landing) = s.toBlock.dropOrder (dispatchFrame dst src i landing) := by
  rw [Block.onDispatchOrder_named]
  by_cases hrange : 127 < landing.toNat ∨ landing.toNat < (s.toBlock.conf i).lowest ∨
      (s.toBlock.conf i).highest < landing.toNat
  · rw [if_pos hrange]
  · have hrefuses : (s.toBlock.conf i).refusesOrders = true := by
      rw [CarConf.refusesOrders, Bool.and_eq_true, decide_eq_true_eq]
      by_contra hlets
      exact h ⟨by omega, by omega, by omega, fun hp => not_not.mp fun hr => hlets ⟨hp, hr⟩⟩
    rw [if_neg hrange, if_pos hrefuses]

/-- An order for a car number outside 1 to 16 is dropped (R138). -/
theorem Block.onDispatchOrder_unnamed {b : Block} {f : Frame} {car landing : Byte} (hf : f.payload = [car, landing])
    (h : car.toNat = 0 ∨ 16 < car.toNat) : b.onDispatchOrder f = b.dropOrder f := by
  unfold Block.onDispatchOrder orderFields
  rw [hf]
  dsimp only
  rw [carIx?_eq_none h]

/-- A forwarded order is offered to the C-port (R138, R139, R148). -/
theorem State.onDispatchOrder_forwards (h : s.OrderPasses i landing)
    (hpass : (s.plan = .normal ∧ s.active.plan.relay.dispatchNormal = true) ∨
      (s.plan ≠ .normal ∧ (s.toBlock.car i).state = .serving)) :
    s.toBlock.onDispatchOrder (dispatchFrame dst src i landing) =
      { s.toBlock with cport := s.cport.offered (dispatchFrame dst src i landing) } := by
  have hrelay := s.toBlock.relayTo_eq_offered .c (dispatchFrame dst src i landing)
  rw [State.onDispatchOrder_passes h]
  rcases hpass with ⟨hp, hcell⟩ | ⟨hp, hs⟩
  · rw [if_pos hp, if_pos hcell, hrelay]
    rfl
  · rw [if_neg hp, Block.orderByState, if_pos hs, hrelay]
    rfl

/-- An order that passes checks 1 to 3 is dropped under DROP in NORMAL, and in every other plan for a car that neither serves nor
awaits (R138, R139). -/
theorem State.onDispatchOrder_drops (h : s.OrderPasses i landing)
    (hdrop : (s.plan = .normal ∧ s.active.plan.relay.dispatchNormal = false) ∨
      (s.plan ≠ .normal ∧ (s.toBlock.car i).state ≠ .serving ∧ s.toBlock.awaiting i = false)) :
    s.toBlock.onDispatchOrder (dispatchFrame dst src i landing) = s.toBlock.dropOrder (dispatchFrame dst src i landing) := by
  rw [State.onDispatchOrder_passes h]
  rcases hdrop with ⟨hp, hcell⟩ | ⟨hp, hs, ha⟩
  · rw [if_pos hp, hcell]
    rfl
  · rw [if_neg hp, Block.orderByState, if_neg hs, ha]
    rfl

/-- The block with an order put into a car's slot, and its source told so (R139, R142). -/
def State.holdsOrder (s : State) (i : CarIx) (dst src landing : Byte) (p : Port) : Block :=
  { s.toBlock.setSlot i (.holding (dispatchFrame dst src i landing)) with
    gport := p.noticed src (s.noticeItem (byteOf (carNo i)) src landing 1) }

/-- An order for an awaiting car with an empty slot is held (R139). -/
theorem State.onDispatchOrder_holds (h : s.OrderPasses i landing) (hp : s.plan ≠ .normal)
    (hs : (s.toBlock.car i).state ≠ .serving) (ha : s.toBlock.awaiting i = true) (hslot : (s.toBlock.car i).slot = .empty) :
    s.toBlock.onDispatchOrder (dispatchFrame dst src i landing) = s.holdsOrder i dst src landing s.gport := by
  rw [State.onDispatchOrder_passes h, if_neg hp, Block.orderByState, if_neg hs, if_pos ha, hslot]
  exact Block.orderNotice_eq_noticed _ _ _ _ _

/-- An order for an awaiting car takes the place of the one held before, whose source is told first (R139, R142). -/
theorem State.onDispatchOrder_replaces {dst' src' landing' : Byte} (h : s.OrderPasses i landing) (hp : s.plan ≠ .normal)
    (hs : (s.toBlock.car i).state ≠ .serving) (ha : s.toBlock.awaiting i = true)
    (hslot : (s.toBlock.car i).slot = .holding (dispatchFrame dst' src' i landing')) :
    s.toBlock.onDispatchOrder (dispatchFrame dst src i landing) = s.holdsOrder i dst src landing
      (s.gport.noticed src' (s.noticeItem (byteOf (carNo i)) src' landing' 2)) := by
  have hreplaced : s.toBlock.announce (dispatchFrame dst' src' i landing') .replaced =
      { s.toBlock with gport := s.gport.noticed src' (s.noticeItem (byteOf (carNo i)) src' landing' 2) } :=
    Block.orderNotice_eq_noticed _ _ _ _ _
  rw [State.onDispatchOrder_passes h, if_neg hp, Block.orderByState, if_neg hs, if_pos ha, hslot]
  dsimp only
  rw [hreplaced]
  exact Block.orderNotice_eq_noticed _ _ _ _ _

/-- Only the slot of its car and the G-port change when an order is held (R139). -/
theorem State.completes_holdsOrder {p : Port}
    (h : exec .dispatchOrder s = .next { s with toBlock := s.headTaken.holdsOrder i dst src landing p }) :
    Completes .dispatchOrder s (fun t =>
      t = { s with gport := p.noticed src (s.noticeItem (byteOf (carNo i)) src landing 1), cars := t.cars } ∧
      t.toBlock.car i = { s.toBlock.car i with slot := .holding (dispatchFrame dst src i landing) } ∧
      ∀ j, j ≠ i → t.toBlock.car j = s.toBlock.car j) :=
  ⟨_, h, rfl, s.toBlock.car_modCar_same i fun c => { c with slot := .holding (dispatchFrame dst src i landing) },
    fun _ hj => s.toBlock.car_modCar_other (fun c => { c with slot := .holding (dispatchFrame dst src i landing) }) hj⟩

end

end Sys2Proof.Machine

open Sys2Proof Sys2Proof.Machine

/-- Settles O36: checks 1 to 3 first, then the plan, the car's state and its slot, one rule for each outcome. -/
theorem dispatchOrderByCarState : Obligations.DispatchOrderByCarState := by
  unfold Obligations.DispatchOrderByCarState
  refine ⟨?_, ?_⟩
  · intro s i dst src landing f ht
    have hexec := exec_dispatchOrder ht
    have hdrop := s.headTaken.dropOrder_eq (f := f) rfl
    refine ⟨fun ho hpass => ?_, fun ho hp hs ha hslot => ?_, fun dst' src' landing' ho hp hs ha hslot => ?_, fun h => ?_⟩
    · rw [hexec, State.onDispatchOrder_forwards (s := s.headTaken) ho hpass]
      rfl
    · exact State.completes_holdsOrder
        (by rw [hexec, State.onDispatchOrder_holds (s := s.headTaken) ho hp hs ha hslot]; rfl)
    · exact State.completes_holdsOrder
        (by rw [hexec, State.onDispatchOrder_replaces (s := s.headTaken) ho hp hs ha hslot]; rfl)
    · have hdrops : s.headTaken.toBlock.onDispatchOrder f = s.headTaken.toBlock.dropOrder f := by
        by_cases ho : s.OrderPasses i landing
        · exact State.onDispatchOrder_drops (s := s.headTaken) ho (h.resolve_left (not_not.mpr ho))
        · exact State.onDispatchOrder_fails (s := s.headTaken) ho
      rw [hexec, hdrops, hdrop]
      rfl
  · intro s dst src car landing ht hcar
    rw [exec_dispatchOrder ht, Block.onDispatchOrder_unnamed rfl hcar, s.headTaken.dropOrder_eq rfl]
    rfl

end

section
/-! What a step sends on the G-port beside relayed frames: own frames behind those that are there (R144, R148). -/

namespace Sys2Proof.Machine

/-! ### Own frames behind those of a port -/

/-- A port has sent no more than own frames: they stand behind those it had, and no relayed frame has been discarded (R148). -/
structure Port.OwnBehind (p q : Port) : Prop where
  up        : q.up = p.up
  tx        : ∃ l, (∀ x ∈ l, x.own = true) ∧ q.tx = p.tx ++ l
  txDiscard : q.errors.txDiscard = p.errors.txDiscard

theorem Port.OwnBehind.of_tx {p q : Port} (hup : q.up = p.up) (htx : q.tx = p.tx)
    (herr : q.errors.txDiscard = p.errors.txDiscard) : p.OwnBehind q :=
  ⟨hup, ⟨[], List.forall_mem_nil _, by rw [htx, List.append_nil]⟩, herr⟩

theorem Port.OwnBehind.refl (p : Port) : p.OwnBehind p := .of_tx rfl rfl rfl

theorem Port.OwnBehind.trans {p q r : Port} (h : p.OwnBehind q) (k : q.OwnBehind r) : p.OwnBehind r where
  up := k.up.trans h.up
  tx := by
    obtain ⟨l, hl, htx⟩ := h.tx
    obtain ⟨m, hm, htx'⟩ := k.tx
    exact ⟨l ++ m, List.forall_mem_append.mpr ⟨hl, hm⟩, by rw [htx', htx, List.append_assoc]⟩
  txDiscard := k.txDiscard.trans h.txDiscard

theorem Port.ownBehind_append (p : Port) {l : List TxItem} (hl : ∀ x ∈ l, x.own = true) :
    p.OwnBehind { p with tx := p.tx ++ l } := ⟨rfl, ⟨l, hl, rfl⟩, rfl⟩

theorem Port.ownBehind_ownItem (p : Port) (f : Frame) : p.OwnBehind { p with tx := p.tx ++ [ownItem f] } :=
  p.ownBehind_append (by simp [ownItem])

/-- Own frames take no relayed place (R148). -/
theorem Port.OwnBehind.roomRelayed {p q : Port} (h : p.OwnBehind q) : q.roomRelayed = p.roomRelayed := by
  obtain ⟨l, hl, htx⟩ := h.tx
  have hnone : l.filter (fun x => !x.own) = [] := List.filter_eq_nil_iff.mpr fun x hx => by simp [hl x hx]
  rw [Port.roomRelayed, Port.roomRelayed, Port.relayedCount, Port.relayedCount, h.up, htx, List.filter_append, hnone,
    List.append_nil]

/-- A frame offered between own frames stands between them if its place is free, and else is recorded as discarded (R148). -/
theorem Port.OwnBehind.offered {p q r : Port} {f : Frame} {pass : Bool} (h : p.OwnBehind q)
    (k : (if pass then q.offered f else q).OwnBehind r) :
    (∃ l m, (∀ x ∈ l ++ m, x.own = true) ∧
      r.tx = p.tx ++ l ++ (if pass && p.roomRelayed then [relayedItem f] else []) ++ m) ∧
    r.errors.txDiscard = (p.errors.txDiscard || (pass && !p.roomRelayed)) := by
  obtain ⟨l, hl, htx⟩ := h.tx
  obtain ⟨m, hm, htx'⟩ := k.tx
  have hsent : (if pass then q.offered f else q).tx = q.tx ++ (if pass && p.roomRelayed then [relayedItem f] else []) ∧
      (if pass then q.offered f else q).errors.txDiscard = (q.errors.txDiscard || (pass && !p.roomRelayed)) := by
    rw [← h.roomRelayed]
    cases pass
    · simp
    · cases hroom : q.roomRelayed <;> simp [Port.offered, hroom]
  refine ⟨⟨l, m, List.forall_mem_append.mpr ⟨hl, hm⟩, ?_⟩, ?_⟩
  · rw [htx', hsent.1, htx]
  · rw [k.txDiscard, hsent.2, h.txDiscard]

/-! ### The operations of a step -/

/-- The G-port has sent no more than own frames. -/
def Block.OwnUp (b c : Block) : Prop := b.gport.OwnBehind c.gport

theorem Block.OwnUp.refl (b : Block) : b.OwnUp b := Port.OwnBehind.refl _

theorem Block.OwnUp.trans {b c d : Block} (h : b.OwnUp c) (k : c.OwnUp d) : b.OwnUp d := Port.OwnBehind.trans h k

section
variable {b c : Block}

/-- An operation that leaves the G-port alone. -/
theorem Block.OwnUp.keep {d : Block} (h : b.OwnUp c) (hg : d.gport = c.gport) : b.OwnUp d := by
  unfold Block.OwnUp
  rw [hg]
  exact h

theorem Block.OwnUp.modCar (h : b.OwnUp c) (i : CarIx) (f : Car → Car) : b.OwnUp (c.modCar i f) := h.keep rfl

theorem Block.OwnUp.sendNotice (h : b.OwnUp c) (dst : Byte) (k : FrameKind) (payload : List Byte) :
    b.OwnUp (c.sendNotice dst k payload) := by
  refine h.trans ?_
  unfold Block.sendNotice Block.placeOwn
  cases hroom : (c.port .g).roomOwn
  · exact Port.OwnBehind.of_tx rfl rfl rfl
  · exact c.gport.ownBehind_ownItem _

theorem Block.OwnUp.carNotice (h : b.OwnUp c) (i : CarIx) (r : NoticeReason) : b.OwnUp (c.carNotice i r) := h.sendNotice _ _ _

theorem Block.OwnUp.announce (h : b.OwnUp c) (f : Frame) (o : NoticeOutcome) : b.OwnUp (c.announce f o) := by
  unfold Block.announce Block.orderNotice
  split
  · exact h
  · exact h.sendNotice _ _ _

/-- A frame for the car bus sends its copy up (R144). -/
theorem Block.OwnUp.sendCar (h : b.OwnUp c) (dst : Byte) (k : FrameKind) (payload : List Byte) :
    b.OwnUp (c.sendCar dst k payload).1 := by
  refine h.trans ?_
  rw [c.sendCar_eq]
  unfold Block.OwnUp
  dsimp only
  split
  · exact c.gport.ownBehind_ownItem _
  · exact .refl _

theorem Block.OwnUp.sendCarOrLose (h : b.OwnUp c) (dst : Byte) (k : FrameKind) (payload : List Byte) :
    b.OwnUp (c.sendCarOrLose dst k payload) := by
  obtain ⟨l, -, hl, hg⟩ := c.gport_sendCarOrLose dst k payload
  refine h.trans ?_
  unfold Block.OwnUp
  rw [hg]
  exact c.gport.ownBehind_append hl

theorem Block.OwnUp.boundNode (h : b.OwnUp c) (i : CarIx) : b.OwnUp (c.boundNode i).1 := by
  unfold Block.boundNode
  split
  · exact h
  · exact h.keep rfl

theorem Block.OwnUp.refuseBound (h : b.OwnUp c) (i : CarIx) (tag : Byte) (r : RefusalReason) : b.OwnUp (c.refuseBound i tag r) :=
  (h.boundNode i).sendCarOrLose _ _ _

theorem Block.OwnUp.sendGrant (h : b.OwnUp c) (i : CarIx) (tag : Byte) (window : Nat) : b.OwnUp (c.sendGrant i tag window) :=
  (h.boundNode i).sendCarOrLose _ _ _

theorem Block.OwnUp.sendOrder (h : b.OwnUp c) (i : CarIx) : b.OwnUp (c.sendOrder i) := by
  unfold Block.sendOrder
  split
  · exact h
  · dsimp only
    split
    · exact (h.sendCar _ _ _).modCar _ _
    · exact (h.sendCar _ _ _).modCar _ _

/-! ### Moves -/

/-- A released order leaves by the C-port (R141). -/
theorem Block.OwnUp.releaseSlot (h : b.OwnUp c) (i : CarIx) : b.OwnUp (c.releaseSlot i) := by
  unfold Block.releaseSlot
  split
  · rw [Block.relayTo_eq_offered]
    refine Block.OwnUp.announce ?_ _ _
    exact h.keep rfl
  · exact h.modCar i _

theorem Block.OwnUp.dropSlot (h : b.OwnUp c) (i : CarIx) : b.OwnUp (c.dropSlot i) := by
  unfold Block.dropSlot
  split
  · exact (h.modCar i _).announce _ _
  · exact h.modCar i _

theorem Block.OwnUp.tellRelay (h : b.OwnUp c) (i : CarIx) : b.OwnUp (c.tellRelay i) := by
  unfold Block.tellRelay
  repeat' split
  · exact h.modCar i _
  · exact h
  · exact h
  · exact h.releaseSlot i
  · exact h
  · exact h.dropSlot i

theorem Block.OwnUp.setEntryKind (h : b.OwnUp c) (i : CarIx) (k : RunKind) : b.OwnUp (c.setEntryKind i k) := by
  unfold Block.setEntryKind
  dsimp only
  repeat' split
  · exact h
  · exact h.keep rfl
  · exact h.keep rfl

theorem Block.OwnUp.rejudge (h : b.OwnUp c) (i : CarIx) : b.OwnUp (c.rejudge i).1 := by
  have hremove : ∀ (tag : Byte) (r : RefusalReason), b.OwnUp ((c.removeEntry i).refuseBound i tag r) := fun tag r =>
    (h.keep (d := c.removeEntry i) rfl).refuseBound i tag r
  unfold Block.rejudge
  dsimp only
  repeat' split
  · exact h
  · exact hremove _ _
  · exact h
  · exact h.setEntryKind i _
  · exact (hremove _ _).sendOrder i
  · exact hremove _ _

theorem Block.OwnUp.sendOrderOnce (h : b.OwnUp c) (i : CarIx) (wanted sent : Bool) : b.OwnUp (c.sendOrderOnce i wanted sent) := by
  unfold Block.sendOrderOnce
  split
  · exact h.sendOrder i
  · exact h

theorem Block.OwnUp.tellSelection (h : b.OwnUp c) (old dest : RState) : b.OwnUp (c.tellSelection old dest) := by
  unfold Block.tellSelection
  split
  · exact h.keep rfl
  · exact h

theorem Block.OwnUp.tellRecallWork (h : b.OwnUp c) (n : Nat) : b.OwnUp (c.tellRecallWork n) := by
  unfold Block.tellRecallWork
  split
  · exact h.keep rfl
  · exact h

/-- A move hands on notices, orders, copies and refusals (R106). -/
theorem Block.OwnUp.move (h : b.OwnUp c) (i : CarIx) (dest : RState) (r : Reason) (send : Bool) :
    b.OwnUp (c.move i dest r send) := by
  unfold Block.move
  split
  · exact h.sendOrderOnce i send false
  · unfold Block.changeState
    exact ((((((h.modCar i _).carNotice _ _).rejudge _).sendOrderOnce _ _ _).tellRelay _).tellSelection _ _).tellRecallWork _

theorem Block.OwnUp.park (h : b.OwnUp c) (i : CarIx) (alarm : Bool) : b.OwnUp (c.park i alarm) := by
  unfold Block.park
  dsimp only
  split
  · exact (h.modCar i _).move _ _ _ _
  · exact h.move _ _ _ _

theorem Block.OwnUp.land (h : b.OwnUp c) (i : CarIx) : b.OwnUp (c.land i) := by
  unfold Block.land
  split
  · exact (h.move _ _ _ _).park _ _
  · exact (h.modCar i _).move _ _ _ _

theorem Block.OwnUp.arrivalCheck (h : b.OwnUp c) (i : CarIx) : b.OwnUp (c.arrivalCheck i) := by
  unfold Block.arrivalCheck
  split
  · exact h.land i
  · exact h

theorem Block.OwnUp.place (h : b.OwnUp c) (i : CarIx) : b.OwnUp (c.place i) := by
  unfold Block.place
  repeat' split
  · exact h.move _ _ _ _
  · exact h.move _ _ _ _
  · exact h.move _ _ _ _
  · exact ((h.modCar i _).move _ _ _ _).arrivalCheck i
  · exact h.move _ _ _ _

/-! ### The Restoration Controller's stage (R27) -/

theorem Block.OwnUp.countAttempt (h : b.OwnUp c) (i : CarIx) : b.OwnUp (c.countAttempt i) := by
  unfold Block.countAttempt
  dsimp only
  split
  · exact (h.modCar i _).move _ _ _ _
  · exact (h.modCar i _).move _ _ _ _

theorem Block.OwnUp.afterRelease (h : b.OwnUp c) (i : CarIx) : b.OwnUp (c.afterRelease i) := by
  unfold Block.afterRelease
  split
  · exact (h.sendOrder i).arrivalCheck i
  · exact h.arrivalCheck i

theorem Block.OwnUp.takeEnd_stopped (h : b.OwnUp c) (i : CarIx) (k : Commitment) : b.OwnUp (c.takeEnd i k .stopped) := by
  unfold Block.takeEnd
  dsimp only
  repeat' split
  · exact h
  · exact h
  · exact h.move _ _ _ _
  · exact h.land i
  · exact h.countAttempt i
  · exact h.afterRelease i
  · exact h

theorem Block.OwnUp.takeResult (h : b.OwnUp c) (i : CarIx) (res : BudgetResult) : b.OwnUp (c.takeResult i res) := by
  cases res with
  | quiet => exact h
  | ended k => exact h.takeEnd_stopped i k
  | unauthorized =>
    unfold Block.takeResult Block.noteMotion
    dsimp only
    split
    · exact h.modCar i _
    · exact h

theorem Block.OwnUp.stageBefore (h : b.OwnUp c) (i : CarIx) (res : BudgetResult) : b.OwnUp (c.stageBefore i res) := by
  have hplace : b.OwnUp (if (c.car i).state.unplaced then c.place i else c) := by
    split
    · exact h.place i
    · exact h
  have hfault : ∀ {d : Block}, b.OwnUp d → b.OwnUp (d.noteFault i) := fun k => by
    unfold Block.noteFault
    split
    · exact k.modCar i _
    · exact k
  have hpark : ∀ {d : Block}, b.OwnUp d → b.OwnUp (d.parkIfOpen i) := fun k => by
    unfold Block.parkIfOpen
    split
    · exact k.park i false
    · exact k
  exact (hpark ((hfault hplace).takeResult i res)).arrivalCheck i

theorem Block.OwnUp.modeComparison (h : b.OwnUp c) (i : CarIx) (was : ModeGroup) : b.OwnUp (c.modeComparison i was) := by
  have houtside : ∀ m : CarMode, b.OwnUp (if m.group = .automatic then c else c.move i m.group.state) := fun m => by
    split
    · exact h
    · exact h.move _ _ _ _
  have hback : ∀ (stays automatic : Prop) [Decidable stays] [Decidable automatic] (dest : RState),
      b.OwnUp (if stays then c else if automatic then c.place i else c.move i dest) := fun _ _ _ _ dest => by
    split
    · exact h
    · split
      · exact h.place i
      · exact h.move _ _ _ _
  unfold Block.modeComparison
  dsimp only
  split
  · exact h
  · cases (c.car i).state with
    | standing | recallPending | landed | parked | parkedAway | serving | excluded => exact houtside _
    | firefighter | heldOut => exact hback _ _ _
    | failed =>
      dsimp only
      split
      · exact h
      · exact (h.modCar i _).move _ _ _ _
    | _ => exact h

/-! ### The evaluation and the end of a step -/

theorem Block.OwnUp.evaluateCar (h : b.OwnUp c) (set : List CarIx) (i : CarIx) : b.OwnUp (Block.evaluateCar set c i) := by
  unfold Block.evaluateCar Block.selectCar Block.releaseCar
  dsimp only
  repeat' split
  · exact (h.modCar i _).move _ _ _ _
  · exact h
  · exact h
  · exact (h.modCar i _).move _ _ _ _
  · exact ((h.modCar i _).move _ _ _ _).arrivalCheck i
  · exact h

theorem Block.OwnUp.takeEvaluation (h : b.OwnUp c) : b.OwnUp c.takeEvaluation := by
  unfold Block.takeEvaluation Block.evaluate
  split
  · split
    · have hfold : c.OwnUp (allCars.foldl (Block.evaluateCar c.serviceSet) c) :=
        foldl_rel .refl .trans (fun d i => (Block.OwnUp.refl d).evaluateCar _ i) _ _
      generalize allCars.foldl (Block.evaluateCar c.serviceSet) c = d at hfold
      exact (h.trans hfold).keep rfl
    · exact h.keep rfl
  · exact h

theorem Block.OwnUp.restoreStage (h : b.OwnUp c) (i : CarIx) (res : BudgetResult) (was : ModeGroup) :
    b.OwnUp (c.restoreStage i res was) := by
  rw [Block.restoreStage_eq]
  exact (h.stageBefore i res).takeEvaluation.modeComparison i was

theorem Block.OwnUp.takeGrant (h : b.OwnUp c) (i : CarIx) (k : RunKind) : b.OwnUp (c.takeGrant i k) := by
  unfold Block.takeGrant
  dsimp only
  repeat' split
  · exact (h.modCar i _).move _ _ _ _
  · exact h.modCar i _
  · exact h

theorem Block.OwnUp.takeTrigger (h : b.OwnUp c) : b.OwnUp c.takeTrigger := by
  rcases c.takeTrigger_cases with ⟨x, hx⟩ | ⟨e, noted, -, hx⟩
  · exact h.keep (by rw [hx])
  · have hgrant : b.OwnUp (c.grantEntry e noted) := by
      rw [c.grantEntry_committed]
      exact ((h.keep (d := c.committed e noted) rfl).sendGrant _ _ _).takeGrant _ _
    exact hgrant.keep (by rw [hx])

/-- The end of a step sends grants, orders, notices and copies (R101, R126). -/
theorem Block.OwnUp.finish (h : b.OwnUp c) : b.OwnUp c.finish := h.takeEvaluation.takeTrigger.keep (Block.gport_resendAll _)

/-! ### Hearing a report (R37) -/

theorem Block.OwnUp.reportHeard (h : b.OwnUp c) (i : CarIx) (node : Nat) (fields : List Byte) :
    b.OwnUp (c.reportHeard i node fields) := by
  have hlearn : b.OwnUp (c.learnReport i node fields) := h.keep (by rw [c.learnReport_eq, c.makePresent_eq]; rfl)
  unfold Block.reportHeard
  split
  · exact (hlearn.carNotice i .heard).keep rfl
  · exact hlearn

end

end Sys2Proof.Machine
end

section
/-! Relayed frames (R134, R135, R137), the relay of an accepted report (R136), and their statement. -/

namespace Sys2Proof.Machine

/-! ### Frames that no block takes (R134) -/

/-- The row of the relay action table in force for a frame of a relayed route (R135); a frame turned away by its addresses has
none. -/
def Block.relayCell (b : Block) : Route → Bool
  | .management => b.mgmtCell
  | .other => b.otherCell
  | _ => false

/-- A frame of this route passes: its cell holds PASS and its source is not barred (R135, R137). -/
def Block.passes (b : Block) (p : PortId) (f : Frame) (r : Route) : Bool :=
  b.relayCell r && !(decide (p = .c) && b.barred f.src.toNat)

theorem Block.relayFrame_eq {b : Block} {p : PortId} {f : Frame} {r : Route} (hroute : b.route p f = r) :
    b.relayFrame p f = if b.passes p f r then b.relayTo (opposite p) f else b := by
  unfold Block.relayFrame
  rw [hroute]
  cases r <;> rfl

/-- A port has no part in how a frame is examined. -/
theorem Block.route_modPort (b : Block) (p q : PortId) (g : Port → Port) (f : Frame) : (b.modPort p g).route q f = b.route q f := by
  cases p <;> rfl

theorem Block.passes_modPort (b : Block) (p q : PortId) (g : Port → Port) (f : Frame) (r : Route) :
    (b.modPort p g).passes q f r = b.passes q f r := by
  cases p <;> rfl

/-- A frame that neither a block takes nor is a dispatch order is relayed to the opposite port or discarded (R134). -/
theorem exec_relayedFrame {s : State} {p : PortId} {f : Frame} {r : Route} (h : s.Takes p f r) (hr : r.relayed = true) :
    exec (.relayedFrame p) s = .next { s with
      toBlock := if s.toBlock.passes p f r then (s.toBlock.modPort p Port.takeHead).relayTo (opposite p) f
        else s.toBlock.modPort p Port.takeHead } := by
  have htake := Block.takeFrame_takes h hr (Block.relayFrame p)
  obtain ⟨-, -, hroute⟩ := h
  rw [Block.relayFrame_eq ((s.toBlock.route_modPort p p Port.takeHead f).trans hroute), Block.passes_modPort] at htake
  exact congrArg (fun b : Block => Host.Outcome.next { s with toBlock := b }) htake

theorem Block.relayTo_room {b : Block} {p : PortId} (h : (b.port p).roomRelayed = true) (f : Frame) :
    b.relayTo p f = b.modPort p (fun q => { q with tx := q.tx ++ [relayedItem f] }) := if_pos h

theorem Block.relayTo_noRoom {b : Block} {p : PortId} (h : (b.port p).roomRelayed = false) (f : Frame) :
    b.relayTo p f = b.modPort p (fun q => { q with errors := { q.errors with txDiscard := true } }) :=
  if_neg (by rw [h]; decide)

/-! ### Accepted reports (R136) -/

/-- An accepted report of a car passes: the car-report cell in force holds PASS, its source is not barred, and its car's relay mode
does not withhold it (R135, R136, R137). -/
def Block.reportPasses (b : Block) (i : CarIx) (node : Nat) : Bool :=
  (if b.plan = .normal then b.active.plan.relay.reportNormal else b.active.plan.relay.reportEmergency) && !b.barred node &&
    (decide ((b.conf i).relay = .forward) || decide ((b.conf i).relay = .listen))

/-- What the Relay Unit makes of the G-port for an accepted report (R136). -/
theorem Block.gport_relayReport (b : Block) (i : CarIx) (f : Frame) :
    (b.relayReport i f).gport = if b.reportPasses i f.src.toNat then b.gport.offered f else b.gport := by
  have hcell : b.reportCell =
      if b.plan = .normal then b.active.plan.relay.reportNormal else b.active.plan.relay.reportEmergency := by
    simp only [Block.reportCell, Block.normalColumn, decide_eq_true_eq]
  have hbarred : b.barredSource .c f = b.barred f.src.toNat := rfl
  unfold Block.relayReport Block.relayUnder Block.reportPasses
  rw [Block.relayTo_eq_offered, hcell, hbarred, ← Bool.decide_or]
  generalize (if b.plan = .normal then b.active.plan.relay.reportNormal else b.active.plan.relay.reportEmergency) = cell
  by_cases hmode : (b.conf i).relay = .forward ∨ (b.conf i).relay = .listen
  · rw [if_pos hmode, decide_eq_true hmode, Bool.and_true]
    split
    · rfl
    · rfl
  · rw [if_neg hmode, decide_eq_false hmode, Bool.and_false]
    rfl

theorem Block.barred_congr {b c : Block} (h : ∀ j, (c.car j).foreign = (b.car j).foreign) (node : Nat) :
    c.barred node = b.barred node := by
  unfold Block.barred
  simp only [h]

theorem Block.reportPasses_congr {b c : Block} {i : CarIx} (hp : c.plan = b.plan) (ha : c.active.plan = b.active.plan)
    (hc : (c.conf i).relay = (b.conf i).relay) (hf : ∀ j, (c.car j).foreign = (b.car j).foreign) (node : Nat) :
    c.reportPasses i node = b.reportPasses i node := by
  unfold Block.reportPasses
  rw [hp, ha, hc, Block.barred_congr hf]

/-- Hearing a report leaves what its relay depends on: it binds no node as foreign, and in fallback mode changes no more of the
configured part than presence (R22, R27). -/
theorem Block.Hears.reportPasses {b h : Block} {i : CarIx} {node : Nat} {l : Learned} (hh : b.Hears i node l h) (n : Nat) :
    h.reportPasses i n = b.reportPasses i n := by
  refine Block.reportPasses_congr hh.plan ?_ ?_ (fun j => ?_) n
  · rw [hh.active]
    split
    · rfl
    · rfl
  · unfold Block.conf
    rw [hh.active]
    split
    · simp [Block.conf, Vector.get_eq_getElem]
    · rfl
  · by_cases hj : j = i
    · rw [hj, hh.car]
    · rw [hh.others j hj]

/-- The step of an accepted report offers it to the G-port between own frames, if it passes (R27, R136). -/
theorem Block.acceptReport_relays (b : Block) (i : CarIx) (node : Nat) (fields : List Byte) (f : Frame) : ∃ p : Port,
    b.gport.OwnBehind p ∧ (if b.reportPasses i f.src.toNat then p.offered f else p).OwnBehind
      (b.acceptReport i node fields f).gport := by
  have hh := b.reportHeard_hears i node fields
  have hup := (Block.OwnUp.refl b).reportHeard i node fields
  rw [b.acceptReport_eq]
  generalize b.reportHeard i node fields = h at hh hup
  have hbudget := h.budgetStage_budgets i
  generalize h.budgetStage i = x at hbudget
  have hkeeps := x.1.restoreStage_keeps i x.2 (b.car i).learned.mode.group
  have hstage := (hup.keep hbudget.gport).restoreStage i x.2 (b.car i).learned.mode.group
  unfold Block.reportStage
  generalize x.1.restoreStage i x.2 (b.car i).learned.mode.group = d at hkeeps hstage
  have hactive : d.active = h.active := hkeeps.active.trans hbudget.active
  have hpass : d.reportPasses i f.src.toNat = b.reportPasses i f.src.toNat :=
    (Block.reportPasses_congr (hkeeps.plan.trans hbudget.plan) (by rw [hactive]) (by unfold Block.conf; rw [hactive])
      (fun j => (hkeeps.known j).foreign.trans (by rw [hbudget.cars])) _).trans (hh.reportPasses _)
  have hend : (d.relayReport i f).gport.OwnBehind (d.relayReport i f).finish.gport := (Block.OwnUp.refl _).finish
  rw [d.gport_relayReport, hpass] at hend
  exact ⟨d.gport, hstage, hend⟩

end Sys2Proof.Machine

open Sys2Proof Sys2Proof.Machine

/-- Settles O37: a relayed frame is its FIFO's head taken and one offer, by `Block.passes`; an accepted report is one offer between
the own frames of the stages before it and of the end of the step. -/
theorem relayedFramePasses : Obligations.RelayedFramePasses := by
  unfold Obligations.RelayedFramePasses
  refine ⟨fun s p f ht => exec_relayedFrame ht rfl, ?_, ?_⟩
  · intro s p f r ht hr cell pass taken
    have hpass : s.toBlock.passes p f r = pass := by
      have hcell : s.toBlock.relayCell r = cell := by
        rcases hr with rfl | rfl
        · cases hplan : s.plan <;> simp [cell, hplan, Block.relayCell, Block.mgmtCell, Block.normalColumn]
        · cases hplan : s.plan <;> simp [cell, hplan, Block.relayCell, Block.otherCell, Block.normalColumn]
      exact congrArg (fun x => x && !(decide (p = .c) && s.toBlock.barred f.src.toNat)) hcell
    have hrelayed : r.relayed = true := by rcases hr with rfl | rfl <;> rfl
    have hexec := exec_relayedFrame ht hrelayed
    rw [hpass] at hexec
    have hroom : (taken.port (opposite p)).roomRelayed = (s.toBlock.port (opposite p)).roomRelayed := by
      rw [Block.port_modPort_opposite]
    refine ⟨fun hp hr => ?_, fun hp hr => ?_, fun hp => ?_⟩
    · rw [hexec, if_pos hp, Block.relayTo_room (hroom.trans hr)]
    · rw [hexec, if_pos hp, Block.relayTo_noRoom (hroom.trans hr)]
    · rw [hexec, if_neg (by rw [hp]; decide)]
  · intro s i dst src landing between motion dir door load mode fault ack f cell pass ht hh hbound
    obtain ⟨p, hup, hend⟩ := s.carHeadTaken.acceptReport_relays i src.toNat
      (reportFields landing between motion dir door load mode fault ack) f
    exact ⟨_, exec_carReport_accepted rfl ht hh hbound, hup.offered hend⟩

end

section
/-! Every operation of a port keeps it in order (R146 to R150). -/

namespace Sys2Proof.Machine

variable {p q : Port}

/-! ### The assembly buffer and the hold-off output -/

theorem Port.held_waiting {f : Frame} (h : p.assembly = .waiting f) : p.held = p.rx.length + 1 := by
  rw [Port.held, h]

theorem Port.held_notWaiting (h : ∀ f, p.assembly ≠ .waiting f) : p.held = p.rx.length := by
  unfold Port.held
  split
  · exact absurd ‹_› (h _)
  · rfl

/-- A port that only sends stays in order (R148). -/
theorem Port.Ok.sends (h : p.Ok) (k : p.Sends q) : q.Ok := by
  have hheld : q.held = p.held := by rw [Port.held, k.rx, k.assembly, Port.held]
  obtain ⟨l, hl⟩ := k.grows
  refine ⟨k.rx ▸ h.fifo, fun f hf => k.rx ▸ h.waiting f (k.assembly ▸ hf), k.own h.own, k.relayed h.relayed, fun hu => ?_,
    fun hs => ?_, fun hh => ?_, fun hh => ?_⟩
  · have hup : p.up = false := k.up ▸ hu
    obtain ⟨htx, hsending⟩ := h.fault hup
    exact ⟨(k.faulty hup).trans htx, k.sending.trans hsending⟩
  · rw [hl]
    exact List.append_ne_nil_of_left_ne_nil (h.sending (k.sending ▸ hs)) l
  · exact k.holdOut.trans (h.holdHigh (hheld ▸ hh))
  · exact k.holdOut.trans (h.holdLow (hheld ▸ hh))

/-- A port whose receiving side has changed within its places is in order once its hold-off output follows (R146, R147). -/
theorem Port.Ok.refilled (h : p.Ok) (hfifo : q.rx.length ≤ Config.fifoDepth)
    (hwaiting : ∀ f, q.assembly = .waiting f → q.rx.length = Config.fifoDepth) (htx : q.tx = p.tx)
    (hsending : q.sending = p.sending) (hup : q.up = p.up) : q.updateHold.Ok := by
  refine ⟨hfifo, hwaiting, ?_, ?_, fun hu => ?_, fun hs => ?_, fun hh => if_pos hh, fun hh => ?_⟩
  · have hcount : q.updateHold.ownCount = p.ownCount := by rw [Port.ownCount, q.tx_updateHold, htx, Port.ownCount]
    exact hcount ▸ h.own
  · have hcount : q.updateHold.relayedCount = p.relayedCount := by
      rw [Port.relayedCount, q.tx_updateHold, htx, Port.relayedCount]
    exact hcount ▸ h.relayed
  · obtain ⟨hempty, hidle⟩ := h.fault (hup.symm.trans hu)
    exact ⟨htx.trans hempty, hsending.trans hidle⟩
  · rw [q.tx_updateHold, htx]
    exact h.sending (hsending.symm.trans hs)
  · have hlow : q.held ≤ Config.holdOffLow := hh
    have hhigh : ¬ Config.holdOffHigh ≤ q.held := by
      simp only [Config.holdOffLow, Config.holdOffHigh] at *
      omega
    exact (if_neg hhigh).trans (if_pos hlow)

/-- Only a waiting frame counts for the hold-off, so any other use of the assembly buffer keeps a port in order (R147). -/
theorem Port.Ok.assembled (h : p.Ok) {a : Assembly} (hp : ∀ f, p.assembly ≠ .waiting f) (ha : ∀ f, a ≠ .waiting f) :
    ({ p with assembly := a } : Port).Ok := by
  have hheld : ({ p with assembly := a } : Port).held = p.held := by
    rw [Port.held_notWaiting ha, Port.held_notWaiting hp]
  exact ⟨h.fifo, fun f hf => absurd hf (ha f), h.own, h.relayed, h.fault, h.sending, fun hh => h.holdHigh (hheld ▸ hh),
    fun hh => h.holdLow (hheld ▸ hh)⟩

/-! ### Receiving (R145, R146) -/

/-- A good frame takes a place of the FIFO, or waits before the full one (R146). -/
theorem Port.Ok.deliver (h : p.Ok) (f : Frame) : (p.deliver f).Ok := by
  unfold Port.deliver
  split
  · rename_i hroom
    exact h.refilled (by simpa using hroom) nofun rfl rfl rfl
  · rename_i hroom
    exact h.refilled h.fifo (fun _ _ => Nat.le_antisymm h.fifo (Nat.le_of_not_lt hroom)) rfl rfl rfl

theorem Port.Ok.takeHead (h : p.Ok) : p.takeHead.Ok := by
  unfold Port.takeHead
  split
  · rename_i f hf
    have hfull := h.waiting f hf
    exact h.refilled (by simp [hfull, Config.fifoDepth]) nofun rfl rfl rfl
  · rename_i hf
    exact h.refilled (by simpa using (Nat.sub_le _ 1).trans h.fifo) (fun f ha => absurd ha (hf f)) rfl rfl rfl

theorem Port.Ok.endFrame (h : p.Ok) (hp : ∀ f, p.assembly ≠ .waiting f) (j : Judged) : (p.endFrame j).Ok := by
  cases j with
  | discarded k => exact (h.assembled (a := .empty) hp nofun).sends (Port.record_sends _ k)
  | good f => exact h.deliver f

theorem Port.Ok.frameEnd (h : p.Ok) (rest : List Byte) : (p.frameEnd rest).Ok := by
  unfold Port.frameEnd
  split
  · rename_i hb
    exact h.endFrame (fun f hf => by rw [hb] at hf; cases hf) _
  · exact h

theorem Port.Ok.beginFrame (h : p.Ok) (x : Byte) : (p.beginFrame x).Ok := by
  unfold Port.beginFrame
  split
  · split
    · rename_i he
      exact h.assembled (fun f hf => by rw [he] at hf; cases hf) nofun
    · have hlost : ({ p with assembly := .building [x] } : Port).updateHold.Ok := h.refilled h.fifo nofun rfl rfl rfl
      exact hlost.sends (Port.record_sends _ .overrun)
    · exact h
  · exact h

/-! ### Sending, fault and recovery (R148 to R150) -/

theorem Port.Ok.holdIn (h : p.Ok) (v : Bool) : ({ p with holdIn := v } : Port).Ok :=
  ⟨h.fifo, h.waiting, h.own, h.relayed, h.fault, h.sending, h.holdHigh, h.holdLow⟩

theorem Port.canSend_iff (p : Port) : p.canSend = true ↔
    p.up = true ∧ p.holdIn = false ∧ p.sending = false ∧ p.receiving = false ∧ p.tx ≠ [] := by
  simp [Port.canSend, and_assoc]

/-- A frame is begun only in a port that is UP and has one (R149). -/
theorem Port.Ok.sendStart (h : p.Ok) : (if p.canSend then { p with sending := true } else p : Port).Ok := by
  split
  · rename_i hc
    obtain ⟨hup, -, -, -, htx⟩ := p.canSend_iff.mp hc
    exact ⟨h.fifo, h.waiting, h.own, h.relayed, fun hu => absurd (hup.symm.trans hu) (by decide), fun _ => htx,
      h.holdHigh, h.holdLow⟩
  · exact h

/-- A port in FAULT has nothing to send, so its queue stays empty when a frame leaves it (R150). -/
theorem Port.Ok.sent (h : p.Ok) : p.sent.Ok := by
  have hcount : ∀ f : TxItem → Bool, (p.tx.tail.filter f).length ≤ (p.tx.filter f).length := fun f =>
    ((List.tail_sublist p.tx).filter f).length_le
  refine ⟨h.fifo, h.waiting, (hcount _).trans h.own, (hcount _).trans h.relayed, fun hu => ⟨?_, rfl⟩, nofun, h.holdHigh,
    h.holdLow⟩
  exact congrArg List.tail (h.fault hu).1

/-- The assembly buffer after a line fault: a waiting frame is kept (R150). -/
def Assembly.faulted : Assembly → Assembly
  | .building _ => .empty
  | a => a

theorem Port.fault_eq (p : Port) : p.fault = { p with
    assembly := p.assembly.faulted, tx := [], sending := false, up := false,
    errors := { p.errors with lineFault := true } } := by
  unfold Port.fault Assembly.faulted
  cases p.assembly <;> rfl

theorem Port.Ok.faulted (h : p.Ok) : p.fault.Ok := by
  have hkept : ({ p with assembly := p.assembly.faulted } : Port).Ok := by
    cases ha : p.assembly with
    | empty => exact h.assembled (by simp [ha]) nofun
    | building bytes => exact h.assembled (by simp [ha]) nofun
    | waiting f =>
      rw [show (Assembly.waiting f).faulted = p.assembly from ha.symm]
      exact h
  rw [p.fault_eq]
  exact ⟨hkept.fifo, hkept.waiting, Nat.zero_le _, Nat.zero_le _, fun _ => ⟨rfl, rfl⟩, nofun, hkept.holdHigh, hkept.holdLow⟩

theorem Port.Ok.recovered (h : p.Ok) : ({ p with up := true } : Port).Ok :=
  ⟨h.fifo, h.waiting, h.own, h.relayed, nofun, h.sending, h.holdHigh, h.holdLow⟩

end Sys2Proof.Machine
end

section
/-! Every operation of a step keeps both ports in order (R146 to R150): most only send, and the ports' own commands are covered
port by port. -/

namespace Sys2Proof.Machine

variable {b c : Block}

/-! ### The invariant -/

/-- Both ports only send. -/
structure Block.PortsSend (b c : Block) : Prop where
  gport : b.gport.Sends c.gport
  cport : b.cport.Sends c.cport

theorem Block.PortsSend.of_ports (hg : c.gport = b.gport) (hc : c.cport = b.cport) : b.PortsSend c :=
  ⟨hg ▸ .refl _, hc ▸ .refl _⟩

theorem Block.PortsSend.refl (b : Block) : b.PortsSend b := .of_ports rfl rfl

theorem Block.PortsSend.trans {d : Block} (h : b.PortsSend c) (k : c.PortsSend d) : b.PortsSend d :=
  ⟨h.gport.trans k.gport, h.cport.trans k.cport⟩

theorem Block.KeepsBase.portsSend (h : b.KeepsBase c) : b.PortsSend c := ⟨h.gport, h.cport⟩

theorem Block.OnlySends.portsSend (h : b.OnlySends c) : b.PortsSend c := h.toKeepsBase.portsSend

theorem Block.KeepsBudget.portsSend (h : b.KeepsBudget c) : b.PortsSend c := h.toKeepsBase.portsSend

/-- A change of the record of a car is no change of a port. -/
theorem Block.modCar_portsSend (b : Block) (i : CarIx) (f : Car → Car) : b.PortsSend (b.modCar i f) := .of_ports rfl rfl

theorem Block.modMgmt_portsSend (b : Block) (f : Mgmt → Mgmt) : b.PortsSend (b.modMgmt f) := .of_ports rfl rfl

theorem Block.finish_portsSend (b : Block) : b.PortsSend b.finish := b.finish_keeps.toKeepsBase.portsSend

theorem Block.PortsSend.ended (h : b.PortsSend c) : b.PortsSend c.finish := h.trans c.finish_portsSend

/-- Ports that only send stay in order. -/
theorem Block.PortsOk.sends (h : b.PortsOk) (k : b.PortsSend c) : c.PortsOk := by
  obtain ⟨hg, hc⟩ := h
  exact ⟨hg.sends k.gport, hc.sends k.cport⟩

/-- A change of one port that keeps it in order. -/
theorem Block.PortsOk.modPort (h : b.PortsOk) (p : PortId) {f : Port → Port} (hf : ∀ q : Port, q.Ok → (f q).Ok) :
    (b.modPort p f).PortsOk := by
  obtain ⟨hg, hc⟩ := h
  cases p with
  | g => exact ⟨hf _ hg, hc⟩
  | c => exact ⟨hg, hf _ hc⟩

theorem Block.resetWith_portsOk (b : Block) (m : Mgmt) : (b.resetWith m).PortsOk := ⟨Port.reset_ok _, Port.reset_ok _⟩

/-- A command that takes a frame does so in a block that has only lost it (R146). -/
theorem Block.PortsOk.takeFrame (h : b.PortsOk) {act : Block → Frame → Block} (p : PortId) (want : Route → Bool)
    (hact : ∀ (c : Block) (f : Frame), c.PortsOk → (act c f).PortsOk) : (b.takeFrame p want act).PortsOk := by
  unfold Block.takeFrame
  split
  · split
    · exact h
    · split
      · exact hact _ _ (h.modPort p fun _ hq => hq.takeHead)
      · exact h
  · exact h

/-! ### Frames taken from the FIFOs -/

theorem Block.learnReport_portsSend (b : Block) (i : CarIx) (node : Nat) (fields : List Byte) :
    b.PortsSend (b.learnReport i node fields) := by
  unfold Block.learnReport Block.makePresent
  split
  · exact .of_ports rfl rfl
  · exact b.modCar_portsSend i _

theorem Block.bindingConflict_portsSend (b : Block) (i : CarIx) (node : Nat) : b.PortsSend (b.bindingConflict i node) := by
  unfold Block.bindingConflict
  dsimp only
  split
  · exact b.modCar_portsSend i _
  · exact ((b.modCar_portsSend i _).trans (Block.modCar_portsSend _ i _)).trans
      ((Block.removeInConflict_keeps _ i).trans (Block.move_keeps _ _ _ _ _)).portsSend

theorem Block.onCarReport_portsSend (b : Block) (f : Frame) : b.PortsSend (b.onCarReport f) := by
  have haccept : ∀ i node fields, b.PortsSend (b.acceptReport i node fields f) := fun i node fields =>
    (b.learnReport_portsSend i node fields).trans (b.acceptReport_keepBase i node fields f).portsSend
  unfold Block.onCarReport
  dsimp only
  split
  · exact .refl b
  · split
    · exact .refl b
    · split
      · exact (b.relayUnder_only _ _ _).portsSend
      · split
        · exact (b.relayUnder_only _ _ _).portsSend
        · unfold Block.reportForCar
          split
          · exact .refl b
          · split
            · split
              · exact haccept _ _ _
              · exact (b.bindingConflict_portsSend _ _).ended
            · exact haccept _ _ _

theorem Block.onStartRequest_portsSend (b : Block) (f : Frame) : b.PortsSend (b.onStartRequest f) := by
  unfold Block.onStartRequest
  split
  · split
    · split
      · exact .refl b
      · unfold Block.requestFor
        dsimp only
        split
        · exact ((b.modCar_portsSend _ _).trans (Block.judgeRequest_keepBase _ _ _ _ _ _ _ _).portsSend).ended
        · exact (b.judgeRequest_keepBase _ _ _ _ _ _ _).portsSend.ended
    · exact .refl b
  · exact .refl b

theorem Block.onStartCancel_portsSend (b : Block) (f : Frame) : b.PortsSend (b.onStartCancel f) := by
  unfold Block.onStartCancel
  split
  · split
    · split
      · exact .refl b
      · exact (b.cancelFor_keepBase _ _ _).portsSend
    · exact .refl b
  · exact .refl b

theorem Block.orderByState_portsSend (b : Block) (i : CarIx) (f : Frame) : b.PortsSend (b.orderByState i f) := by
  have hhold : ∀ c : Block, c.PortsSend ((c.setSlot i (.holding f)).announce f .held) := fun c =>
    (c.modCar_portsSend i _).trans (Block.announce_only _ _ _).portsSend
  unfold Block.orderByState
  split
  · exact (b.relayTo_only .c f).portsSend
  · split
    · split
      · exact (b.announce_only _ _).portsSend.trans (hhold _)
      · exact hhold b
    · exact (b.announce_only f _).portsSend

theorem Block.onDispatchOrder_portsSend (b : Block) (f : Frame) : b.PortsSend (b.onDispatchOrder f) := by
  have hdrop : b.PortsSend (b.dropOrder f) := (b.announce_only f _).portsSend
  unfold Block.onDispatchOrder
  dsimp only
  split
  · exact hdrop
  · split
    · exact hdrop
    · split
      · exact hdrop
      · split
        · split
          · exact (b.relayTo_only .c f).portsSend
          · exact hdrop
        · exact b.orderByState_portsSend _ f

/-! ### Responses (R154) -/

theorem Block.placePart_portsSend (b : Block) : b.PortsSend b.placePart := by
  have hplace : ∀ (f : Frame) (g : Mgmt → Mgmt),
      b.PortsSend (if (b.placeOwn .g f).2 then (b.placeOwn .g f).1.modMgmt g else b) := fun f g => by
    split
    · exact (b.placeOwn_only .g f false).portsSend.trans (Block.modMgmt_portsSend _ _)
    · exact .refl b
  unfold Block.placePart
  split
  · exact hplace _ _
  · exact hplace _ _
  · exact .refl b

theorem Block.placeParts_portsSend (n : Nat) (b : Block) : b.PortsSend (Block.placeParts n b) := by
  induction n generalizing b with
  | zero => exact .refl b
  | succ n ih => exact b.placePart_portsSend.trans (ih b.placePart)

theorem Block.respond_portsSend (b : Block) (dst : Node) (kind : Byte) (r : Reply) : b.PortsSend (b.respond dst kind r) :=
  (b.modMgmt_portsSend _).trans (Block.placeParts_portsSend _ _)

theorem Block.storeDone_portsSend (b : Block) (image : Image) (requester : Node) (kind : Byte) (ok : Bool) :
    b.PortsSend (b.storeDone image requester kind ok) :=
  (b.modMgmt_portsSend _).trans (Block.placeParts_portsSend _ _)

/-! ### The effects of the requests -/

theorem Block.readCarRecords_portsSend (b : Block) (l : List CarIx) : b.PortsSend (b.readCarRecords l).1 := by
  obtain ⟨n, rs, hread, -⟩ := b.readCarRecords_spec l
  rw [hread]
  exact .of_ports rfl rfl

theorem Block.commitmentRecords_portsSend (b : Block) (l : List Commitment) : b.PortsSend (b.commitmentRecords l).1 := by
  obtain ⟨n, rs, hread, -⟩ := b.commitmentRecords_spec l
  rw [hread]
  exact .of_ports rfl rfl

theorem Block.doReadCars_portsSend (b : Block) (start count : Byte) : b.PortsSend (b.doReadCars start count).1 := by
  unfold Block.doReadCars
  split
  · exact .refl b
  · split
    · exact .refl b
    · exact b.readCarRecords_portsSend _

/-- READ_LINK clears the error summaries and nothing else of a port (R151). -/
theorem Block.clearSummaries_portsSend (b : Block) : b.PortsSend b.clearSummaries :=
  ⟨⟨rfl, rfl, rfl, rfl, rfl, rfl, ⟨[], (List.append_nil _).symm⟩, fun _ => rfl, id, id⟩,
    ⟨rfl, rfl, rfl, rfl, rfl, rfl, ⟨[], (List.append_nil _).symm⟩, fun _ => rfl, id, id⟩⟩

theorem Block.doWriteCars_portsSend (b : Block) (start count : Byte) (records : List Byte) :
    b.PortsSend (b.doWriteCars start count records).1 := by
  unfold Block.doWriteCars
  dsimp only
  split
  · exact .refl b
  · exact .of_ports rfl rfl

theorem Block.doWritePlan_portsSend (b : Block) (record : List Byte) : b.PortsSend (b.doWritePlan record).1 := by
  unfold Block.doWritePlan
  split
  · exact .refl b
  · split
    · exact .refl b
    · exact .of_ports rfl rfl

theorem Block.doUnlock_portsSend (b : Block) (level : Byte) (key : Key) : b.PortsSend (b.doUnlock level key).1 := by
  unfold Block.doUnlock
  split
  · exact .refl b
  · split
    · exact .refl b
    · split
      · exact .of_ports rfl rfl
      · exact .of_ports rfl rfl

theorem Block.doSetKey_portsSend (b : Block) (level : Byte) (key : Key) : b.PortsSend (b.doSetKey level key).1 := by
  unfold Block.doSetKey
  split
  · exact .refl b
  · exact .of_ports rfl rfl
  · exact .of_ports rfl rfl

theorem Block.recomputeAEff_portsSend (b : Block) : b.PortsSend b.recomputeAEff := by
  unfold Block.recomputeAEff
  dsimp only
  split
  · exact .refl b
  · exact .of_ports rfl rfl

theorem Block.commitCar_portsSend (old : Table) (b : Block) (i : CarIx) : b.PortsSend (b.commitCar old i) := by
  have hmove : ∀ f dest, b.PortsSend ((b.modCar i f).move i dest) := fun f _ =>
    (b.modCar_portsSend i f).trans (Block.move_keeps _ _ _ _ _).portsSend
  unfold Block.commitCar
  split
  · exact hmove _ _
  · exact hmove _ _
  · exact hmove _ _
  · exact .refl b

/-- A COMMIT moves cars, and ends like a step (R158). -/
theorem Block.doCommit_portsSend (b : Block) (src : Node) : b.PortsSend (b.doCommit src) := by
  have hcars : ∀ c : Block, b.PortsSend c → b.PortsSend (allCars.foldl (Block.commitCar b.active) c) := fun c hc =>
    hc.trans (foldl_rel .refl .trans (fun c i => Block.commitCar_portsSend b.active c i) allCars c)
  unfold Block.doCommit
  refine Block.PortsSend.ended (.trans (hcars _ ?_) (Block.recomputeAEff_portsSend _))
  exact .of_ports rfl rfl

theorem Block.setManual_portsSend (b : Block) (m : Option (List CarIx)) : b.PortsSend (b.setManual m) := by
  have hmanual : b.PortsSend { b with manual := m } := .of_ports rfl rfl
  have hrelay := hmanual.trans (Block.tellRelayAll_keeps { b with manual := m }).portsSend
  exact (hrelay.trans (Block.raiseEvaluation_keeps _).portsSend).ended

theorem Block.doSelect_portsSend (b : Block) (form : Byte) (cars : List Byte) : b.PortsSend (b.doSelect form cars).1 := by
  unfold Block.doSelect
  split
  · dsimp only
    exact b.setManual_portsSend none
  · split
    · exact .refl b
    · dsimp only
      exact b.setManual_portsSend _

theorem Block.retry_portsSend (b : Block) (i : CarIx) : b.PortsSend (b.retry i) := by
  have hcleared : ∀ f, b.PortsSend
      ((if (b.car i).state = .conflict then b.modCar i (fun c => c.clearConflict (b.conf i)) else b).modCar i f) := fun f => by
    split
    · exact (b.modCar_portsSend i _).trans (Block.modCar_portsSend _ i f)
    · exact b.modCar_portsSend i f
  unfold Block.retry
  dsimp only
  split
  · exact (hcleared _).trans (Block.move_keeps _ _ _ _ _).portsSend
  · split
    · exact (hcleared _).trans (Block.move_keeps _ _ _ _ _).portsSend
    · split
      · exact (hcleared _).trans (Block.move_keeps _ _ _ _ _).portsSend
      · split
        · exact (hcleared _).trans (Block.move_keeps _ _ _ _ _).portsSend
        · exact (hcleared _).trans (Block.orderRecall_keeps _ _).portsSend

theorem Block.doRetryCar_portsSend (b : Block) (car : Byte) : b.PortsSend (b.doRetryCar car).1 := by
  unfold Block.doRetryCar
  split
  · exact .refl b
  · split
    · dsimp only
      exact (b.retry_portsSend _).ended
    · exact .refl b

theorem Block.PortsOk.doRestart (h : b.PortsOk) (src : Node) : (b.doRestart src).PortsOk := by
  unfold Block.doRestart
  dsimp only
  split
  · exact h.sends ((b.placeParts_portsSend _).trans (Block.placeOwn_only _ _ _ _).portsSend)
  · exact Block.resetWith_portsOk _ _

/-- The effect of a request, and its answer (R153, R154). -/
theorem Block.PortsOk.perform (h : b.PortsOk) (src : Node) (r : Request) : (b.perform src r).PortsOk := by
  have answer : ∀ x : Block × Reply, b.PortsSend x.1 → (x.1.respond src r.kindByte x.2).PortsOk := fun x hx =>
    h.sends (hx.trans (Block.respond_portsSend _ _ _ _))
  have unchanged : ∀ reply : Reply, (b.respond src r.kindByte reply).PortsOk := fun reply => answer (b, reply) (.refl b)
  cases r with
  | readPlan => exact unchanged _
  | readCars start count => exact answer _ (b.doReadCars_portsSend start count)
  | readQueue => exact unchanged _
  | readCommitments => exact answer b.doReadCommitments (b.commitmentRecords_portsSend _)
  | readLink => exact answer (b.clearSummaries, _) b.clearSummaries_portsSend
  | writeCars start count records => exact answer _ (b.doWriteCars_portsSend start count records)
  | writePlan record => exact answer _ (b.doWritePlan_portsSend record)
  | commit => exact h.sends (b.doCommit_portsSend src)
  | discard => exact answer b.doDiscard (.of_ports rfl rfl)
  | select form cars => exact answer _ (b.doSelect_portsSend form cars)
  | retryCar car => exact answer _ (b.doRetryCar_portsSend car)
  | restart => exact h.doRestart src
  | unlock level key => exact answer _ (b.doUnlock_portsSend level key)
  | lock => exact answer b.doLock (.of_ports rfl rfl)
  | setKey level key => exact answer _ (b.doSetKey_portsSend level key)
  | freeze => exact answer b.doFreeze (.of_ports rfl rfl)
  | wipePrepare => exact answer b.doWipePrepare (.of_ports rfl rfl)
  | wipe => exact h.sends (.of_ports rfl rfl)
  | malformed kind => exact unchanged _

theorem Block.PortsOk.takeRequest (h : b.PortsOk) (src : Node) (r : Request) : (b.takeRequest src r).PortsOk := by
  unfold Block.takeRequest
  dsimp only
  split
  · split
    · exact h.sends (b.modMgmt_portsSend _)
    · unfold Block.serveRequest
      have hbegun := (b.modMgmt_portsSend fun m => { m with request := none }).trans
        (Block.modMgmt_portsSend _ _ : Block.PortsSend _ (Block.beginRequest _))
      split
      · exact h.sends (hbegun.trans (Block.respond_portsSend _ _ _ _))
      · exact (h.sends hbegun).perform src r
  · exact h

theorem Block.PortsOk.joined (h : b.PortsOk) (src : Node) (n : Nat) (last : Bool) (data : List Byte) :
    (b.joined src n last data).PortsOk := by
  unfold Block.joined
  split
  · exact h.takeRequest src _
  · exact h.sends (b.modMgmt_portsSend _)

theorem Block.assemblyError_portsSend (b : Block) (src : Node) (held : List Byte) : b.PortsSend (b.assemblyError src held) := by
  unfold Block.assemblyError
  dsimp only
  split
  · exact b.modMgmt_portsSend _
  · exact (b.modMgmt_portsSend _).trans (Block.respond_portsSend _ _ _ _)

theorem Block.PortsOk.onRequestPart (h : b.PortsOk) (f : Frame) : (b.onRequestPart f).PortsOk := by
  unfold Block.onRequestPart
  split
  · exact h
  · unfold Block.takePart
    split
    · exact h.joined _ _ _ _
    · split
      · exact h
      · split
        · exact h
        · split
          · exact h.sends (b.assemblyError_portsSend _ _)
          · exact h.joined _ _ _ _

/-! ### Ports -/

theorem Block.PortsOk.frameSent (h : b.PortsOk) (p : PortId) : (b.frameSent p).PortsOk := by
  unfold Block.frameSent
  split
  · exact h
  · split
    · have hsent := h.modPort p fun _ hq => hq.sent
      unfold Block.afterSent
      split
      · exact Block.resetWith_portsOk _ _
      · split
        · exact hsent.sends (Block.trigger_keeps _).portsSend.ended
        · exact hsent
    · exact h

theorem Block.PortsOk.faultG (h : b.PortsOk) : b.faultG.PortsOk := by
  unfold Block.faultG
  dsimp only
  split
  · exact Block.resetWith_portsOk _ _
  · exact (h.modPort .g fun _ hq => hq.faulted).sends (.of_ports rfl rfl)

theorem Block.lineNotice_portsSend (b : Block) (r : NoticeReason) : b.PortsSend (b.lineNotice r).trigger.finish :=
  ((b.lineNotice_only r).toKeepsBudget.trans (Block.trigger_keeps _)).portsSend.ended

theorem Block.PortsOk.faultC (h : b.PortsOk) : b.faultC.PortsOk := by
  have hlost : b.KeepsBudget (allCars.foldl Block.loseServe b) := foldl_rel .refl .trans Block.loseServe_keeps allCars b
  exact ((h.sends hlost.portsSend).modPort .c fun _ hq => hq.faulted).sends (Block.lineNotice_portsSend _ .linkFault)

theorem Block.PortsOk.lineUp (h : b.PortsOk) (p : PortId) : (b.lineUp p).PortsOk := by
  have hup := h.modPort p fun _ hq => hq.recovered
  cases p with
  | g => exact hup
  | c => exact hup.sends (Block.lineNotice_portsSend _ .linkUp)

end Sys2Proof.Machine
end

section
/-! Every command, and so every step, keeps both ports in order (R146 to R150). -/

namespace Sys2Proof.Machine

/-- Whatever state a command answers has its ports in order. -/
def EndsPortsOk (o : Host.Outcome State Fault Refusal) : Prop := ∀ t, o = .next t → t.toBlock.PortsOk

theorem EndsPortsOk.next {b : Block} (h : b.PortsOk) {q : List Instr} : EndsPortsOk (.next { toBlock := b, pending := q }) :=
  fun _ ht => by
    cases ht
    exact h

variable {s : State}

/-! ### Lines and plan timers -/

theorem execXferEmergTakenAsserted_portsOk (h : s.toBlock.PortsOk) : EndsPortsOk (execXferEmergTakenAsserted s) := by
  unfold execXferEmergTakenAsserted
  split
  · exact .next h
  · have hline : Block.PortsOk { s.toBlock with xfer := Line.took true } := h
    exact .next (hline.sends (Block.onXferAsserted_keepBase _).portsSend.ended)

theorem execXferEmergTakenNegated_portsOk (h : s.toBlock.PortsOk) : EndsPortsOk (execXferEmergTakenNegated s) := by
  unfold execXferEmergTakenNegated
  split
  · have hline : Block.PortsOk { s.toBlock with xfer := Line.took false } := h
    exact .next (hline.sends (Block.onXferNegated_keepBase _).portsSend.ended)
  · exact .next h

theorem execGenReadyTakenAsserted_portsOk (h : s.toBlock.PortsOk) : EndsPortsOk (execGenReadyTakenAsserted s) := by
  unfold execGenReadyTakenAsserted
  split
  · exact .next h
  · have hline : Block.PortsOk { s.toBlock with gen := Line.took true, transferTimer := some s.active.plan.tGen } := h
    exact .next hline

theorem execGenReadyTakenNegated_portsOk (h : s.toBlock.PortsOk) : EndsPortsOk (execGenReadyTakenNegated s) := by
  unfold execGenReadyTakenNegated
  split
  · have hline : Block.PortsOk { s.toBlock with gen := Line.took false, transferTimer := none, genSettled := false } := h
    exact .next (hline.sends (Block.onGenNegated_keepBase _).portsSend.ended)
  · exact .next h

theorem execGenDerateTaken_portsOk (h : s.toBlock.PortsOk) (v : Bool) : EndsPortsOk (execGenDerateTaken v s) := by
  unfold execGenDerateTaken
  split
  · exact .next h
  · have hline : Block.PortsOk { s.toBlock with derate := Line.took v } := h
    exact .next (hline.sends ((Block.recomputeAEff_portsSend _).trans (Block.raiseEvaluation_keeps _).portsSend).ended)

theorem execTransferSettleExpiry_portsOk (h : s.toBlock.PortsOk) : EndsPortsOk (execTransferSettleExpiry s) := by
  unfold execTransferSettleExpiry
  split
  · have hset : Block.PortsOk { s.toBlock with transferTimer := none, genSettled := true } := h
    refine .next ?_
    dsimp only
    split
    · exact hset.sends (Block.enterRecall_keepBase _).portsSend.ended
    · exact hset
  · exact .next h

theorem execAdoptionExpiry_portsOk (h : s.toBlock.PortsOk) : EndsPortsOk (execAdoptionExpiry s) := by
  unfold execAdoptionExpiry
  split
  · have hset : Block.PortsOk { s.toBlock with adoptionTimer := none } := h
    refine .next ?_
    dsimp only
    split
    · exact hset.sends (Block.leaveAdopt_keepBase _).portsSend.ended
    · exact hset
  · exact .next h

theorem execModeRepeatExpiry_portsOk (h : s.toBlock.PortsOk) : EndsPortsOk (execModeRepeatExpiry s) := by
  unfold execModeRepeatExpiry
  split
  · have hset : Block.PortsOk { s.toBlock with modeTimer := some Config.modeRepeat } := h
    exact .next (hset.sends (Block.sendMode_only _).portsSend)
  · exact .next h

theorem execRecallWorkEmpties_portsOk (h : s.toBlock.PortsOk) : EndsPortsOk (execRecallWorkEmpties s) := by
  have hset : Block.PortsOk { s.toBlock with recallReports := s.recallReports - 1 } := h
  refine .next ?_
  dsimp only
  split
  · exact hset.sends (Block.enterService_keepBase _).portsSend.ended
  · exact hset

theorem execCommitmentListEmpties_portsOk (h : s.toBlock.PortsOk) : EndsPortsOk (execCommitmentListEmpties s) := by
  have hset : Block.PortsOk { s.toBlock with listReports := s.listReports - 1 } := h
  refine .next ?_
  dsimp only
  split
  · exact hset.sends (Block.enterNormal_keepBase _).portsSend.ended
  · exact hset

/-! ### Expiries of cars and commitments -/

theorem execReportTimerExpiry_portsOk (h : s.toBlock.PortsOk) (i : CarIx) : EndsPortsOk (execReportTimerExpiry i s) := by
  unfold execReportTimerExpiry
  split
  · have hheld : s.toBlock.PortsSend ((s.toBlock.modCar i Car.silenced).holdSilent i).trigger := .of_ports rfl rfl
    exact .next (h.sends (hheld.trans (Block.carNotice_only _ _ _).portsSend).ended)
  · exact .next h

theorem execGrantTimerExpiry_portsOk (h : s.toBlock.PortsOk) (i : CarIx) : EndsPortsOk (execGrantTimerExpiry i s) := by
  unfold execGrantTimerExpiry
  split
  · split
    · exact .next (h.sends (Block.lapse_keepBase _ i _).portsSend)
    · exact .next h
  · exact .next h

theorem execAccelerationTimerExpiry_portsOk (h : s.toBlock.PortsOk) (i : CarIx) :
    EndsPortsOk (execAccelerationTimerExpiry i s) := by
  unfold execAccelerationTimerExpiry
  split
  · split
    · exact .next (h.sends (Block.slowStart_keepBase _ i).portsSend)
    · exact .next h
  · exact .next h

theorem execRunTimerExpiry_portsOk (h : s.toBlock.PortsOk) (i : CarIx) : EndsPortsOk (execRunTimerExpiry i s) := by
  unfold execRunTimerExpiry
  split
  · split
    · exact .next (h.sends
        ((Block.modCommitment_keepBase _ i _).trans (Block.takeRunLimit_keeps _ i).toKeepsBase).portsSend.ended)
    · exact .next h
  · exact .next h

theorem execSilentReleaseExpiry_portsOk (h : s.toBlock.PortsOk) (i : CarIx) : EndsPortsOk (execSilentReleaseExpiry i s) := by
  unfold execSilentReleaseExpiry
  split
  · split
    · exact .next (h.sends
        ((Block.dropCommitment_keepBase _ i).trans (Block.takeEnd_keeps _ i _ _).toKeepsBase).portsSend.ended)
    · exact .next h
  · exact .next h

theorem execSettleTimerExpiry_portsOk (h : s.toBlock.PortsOk) : EndsPortsOk (execSettleTimerExpiry s) := by
  unfold execSettleTimerExpiry
  split
  · exact .next (h.sends s.toBlock.settleExpired_keepBase.portsSend.ended)
  · exact .next h

theorem execOrderResendExpiry_portsOk (h : s.toBlock.PortsOk) (i : CarIx) : EndsPortsOk (execOrderResendExpiry i s) := by
  unfold execOrderResendExpiry
  split
  · exact .next (h.sends (Block.sendOrder_keeps _ i).portsSend.ended)
  · exact .next h

theorem execDoorTimerExpiry_portsOk (h : s.toBlock.PortsOk) (i : CarIx) : EndsPortsOk (execDoorTimerExpiry i s) := by
  unfold execDoorTimerExpiry
  split
  · exact .next (h.sends (Block.doorExpired_keeps _ i).toKeepsBase.portsSend)
  · exact .next h

/-! ### Ports, load and store -/

theorem execLineFault_portsOk (h : s.toBlock.PortsOk) (p : PortId) : EndsPortsOk (execLineFault p s) := by
  unfold execLineFault
  split
  · cases p with
    | g => exact .next h.faultG
    | c => exact .next h.faultC
  · exact .next h

theorem execLineUp_portsOk (h : s.toBlock.PortsOk) (p : PortId) : EndsPortsOk (execLineUp p s) := by
  unfold execLineUp
  split
  · exact .next h
  · exact .next (h.lineUp p)

theorem execImageLoadComplete_portsOk (h : s.toBlock.PortsOk) : EndsPortsOk (execImageLoadComplete s) := by
  unfold execImageLoadComplete
  split
  · exact .next h
  · refine .next (h.sends ?_)
    unfold Block.completeLoad
    split
    · exact .of_ports rfl rfl
    · exact .of_ports rfl rfl

theorem execIdleTimerExpiry_portsOk (h : s.toBlock.PortsOk) : EndsPortsOk (execIdleTimerExpiry s) := by
  unfold execIdleTimerExpiry
  split
  · exact .next (h.sends (Block.modMgmt_portsSend _ _))
  · exact .next h

theorem execStoreWriteComplete_portsOk (h : s.toBlock.PortsOk) (matched : Bool) :
    EndsPortsOk (execStoreWriteComplete matched s) := by
  unfold execStoreWriteComplete
  split
  · exact .next (h.sends (Block.storeDone_portsSend _ _ _ _ _))
  · exact .next h

theorem execEraseComplete_portsOk (h : s.toBlock.PortsOk) (blank : Bool) : EndsPortsOk (execEraseComplete blank s) := by
  unfold execEraseComplete
  split
  · exact .next (h.sends (Block.storeDone_portsSend _ _ _ _ _))
  · exact .next h

/-! ### Every command -/

/-- Every command keeps both ports in order. -/
theorem exec_portsOk (h : s.toBlock.PortsOk) (c : Instr) : EndsPortsOk (exec c s) := by
  have hrequest : ∀ src r, EndsPortsOk (request src r s) := fun src r => .next (h.takeRequest src r)
  cases c with
  | powerOnReset => exact .next (Block.resetWith_portsOk _ _)
  | resetN => exact .next (Block.resetWith_portsOk _ _)
  | restartReset => exact .next (Block.resetWith_portsOk _ _)
  | imageLoadComplete => exact execImageLoadComplete_portsOk h
  | xferEmergTakenAsserted => exact execXferEmergTakenAsserted_portsOk h
  | xferEmergTakenNegated => exact execXferEmergTakenNegated_portsOk h
  | genReadyTakenAsserted => exact execGenReadyTakenAsserted_portsOk h
  | genReadyTakenNegated => exact execGenReadyTakenNegated_portsOk h
  | genDerateTaken v => exact execGenDerateTaken_portsOk h v
  | transferSettleExpiry => exact execTransferSettleExpiry_portsOk h
  | adoptionExpiry => exact execAdoptionExpiry_portsOk h
  | modeRepeatExpiry => exact execModeRepeatExpiry_portsOk h
  | recallWorkEmpties => exact execRecallWorkEmpties_portsOk h
  | commitmentListEmpties => exact execCommitmentListEmpties_portsOk h
  | carReport => exact .next (h.takeFrame .c _ fun c f hc => hc.sends (c.onCarReport_portsSend f))
  | reportTimerExpiry i => exact execReportTimerExpiry_portsOk h i
  | startRequest => exact .next (h.takeFrame .c _ fun c f hc => hc.sends (c.onStartRequest_portsSend f))
  | startCancel => exact .next (h.takeFrame .c _ fun c f hc => hc.sends (c.onStartCancel_portsSend f))
  | grantTimerExpiry i => exact execGrantTimerExpiry_portsOk h i
  | accelerationTimerExpiry i => exact execAccelerationTimerExpiry_portsOk h i
  | runTimerExpiry i => exact execRunTimerExpiry_portsOk h i
  | silentReleaseExpiry i => exact execSilentReleaseExpiry_portsOk h i
  | settleTimerExpiry => exact execSettleTimerExpiry_portsOk h
  | orderResendExpiry i => exact execOrderResendExpiry_portsOk h i
  | doorTimerExpiry i => exact execDoorTimerExpiry_portsOk h i
  | dispatchOrder => exact .next (h.takeFrame .g _ fun c f hc => hc.sends (c.onDispatchOrder_portsSend f))
  | relayedFrame p => exact .next (h.takeFrame p _ fun c f hc => hc.sends (Block.relayFrame_only p c f).portsSend)
  | frameEnd p rest => exact .next (h.modPort p fun _ hq => hq.frameEnd rest)
  | nextFrameBegins p first => exact .next (h.modPort p fun _ hq => hq.beginFrame first)
  | holdInChange p v => exact .next (h.modPort p fun _ hq => hq.holdIn v)
  | frameSendStart p => exact .next (h.modPort p fun _ hq => hq.sendStart)
  | frameSent p => exact .next (h.frameSent p)
  | lineFault p => exact execLineFault_portsOk h p
  | lineUp p => exact execLineUp_portsOk h p
  | managementRequestPart => exact .next (h.takeFrame .g _ fun _ f hc => hc.onRequestPart f)
  | readPlan src => exact hrequest src _
  | readCars src start count => exact hrequest src _
  | readQueue src => exact hrequest src _
  | readCommitments src => exact hrequest src _
  | readLink src => exact hrequest src _
  | writeCars src start count records => exact hrequest src _
  | writePlan src record => exact hrequest src _
  | commit src => exact hrequest src _
  | discard src => exact hrequest src _
  | select src form cars => exact hrequest src _
  | retryCar src car => exact hrequest src _
  | restart src => exact hrequest src _
  | unlock src level key => exact hrequest src _
  | lock src => exact hrequest src _
  | setKey src level key => exact hrequest src _
  | freeze src => exact hrequest src _
  | wipePrepare src => exact hrequest src _
  | wipe src => exact hrequest src _
  | idleTimerExpiry => exact execIdleTimerExpiry_portsOk h
  | storeWriteComplete matched => exact execStoreWriteComplete_portsOk h matched
  | eraseComplete blank => exact execEraseComplete_portsOk h blank
  | responsePartPlaced => exact .next (h.sends (Block.placePart_portsSend _))
  | firstByteAfterIdleLine p first => exact .next (h.modPort p fun _ hq => hq.beginFrame first)

/-- Idling counts, samples and puts commands in the queue, but touches no port (assumption 3). -/
theorem State.idle_portsSend (s : State) : s.toBlock.PortsSend s.idle.toBlock := by
  unfold State.idle
  split
  · unfold State.sample
    dsimp only
    split
    · exact .of_ports rfl rfl
    · exact .of_ports rfl rfl
  · exact .refl _

theorem step_portsOk (h : s.toBlock.PortsOk) : EndsPortsOk (step s) := by
  unfold step
  split
  · exact .next (h.sends s.idle_portsSend)
  · rename_i c rest _
    exact exec_portsOk (s := { toBlock := s.toBlock, pending := rest }) h c

end Sys2Proof.Machine

open Sys2Proof Sys2Proof.Machine

/-- Settles O57: every block but the ports only sends, which a port in order allows, and each command of a port keeps it in
order. -/
theorem everyStepKeepsPorts : Obligations.EveryStepKeepsPorts := by
  unfold Obligations.EveryStepKeepsPorts
  exact fun s t h ht => step_portsOk h t ht

end

section
/-! What a run of bytes is judged to be (R145): a good frame is the wire form of a frame (12.1), and each discard has its kind. -/

namespace Sys2Proof.Machine

variable {dst src kind len : Byte} {more : List Byte} {f : Frame}

/-! ### The wire form (12.1) -/

@[simp] theorem byteOf_toNat (x : Byte) : byteOf x.toNat = x := BitVec.ofNat_toNat 8 x

theorem toNat_byteOf {n : Nat} (h : n < 256) : (byteOf n).toNat = n := by
  rw [byteOf, BitVec.toNat_ofNat]
  exact Nat.mod_eq_of_lt h

/-- The frame that a run of bytes holds behind its length byte (12.1). -/
def frameIn (dst src kind len : Byte) (more : List Byte) : Frame :=
  { dst := dst, src := src, kind := kind, payload := more.take len.toNat }

theorem Frame.wire_eq (f : Frame) :
    f.wire = f.dst :: f.src :: f.kind :: byteOf f.payload.length :: (f.payload ++ be16 (checkOf f.body).toNat) := rfl

/-- With every payload byte there, the body of the frame is what stands before the check. -/
theorem body_frameIn (h : len.toNat ≤ more.length) :
    (frameIn dst src kind len more).body = dst :: src :: kind :: len :: more.take len.toNat := by
  have hlength : (frameIn dst src kind len more).payload.length = len.toNat := List.length_take_of_le h
  rw [Frame.body, hlength, byteOf_toNat]
  rfl

/-! ### Judgements 2 to 6 of R145 -/

/-- The two bytes behind the payload are the frame's check (R165). -/
def checksOut (dst src kind len : Byte) (more : List Byte) : Prop :=
  more.drop len.toNat = be16 (checkOf (frameIn dst src kind len more).body).toNat

theorem judgeBody_eq (dst src kind len : Byte) (more : List Byte) : judgeBody dst src kind len more =
    if 32 < len.toNat then .discarded .length
    else if more.length < len.toNat + 2 then .discarded .truncated
    else if len.toNat + 2 < more.length then .discarded .length
    else if more.drop len.toNat = be16 (checkOf (frameIn dst src kind len more).body).toNat then
      .good (frameIn dst src kind len more)
    else .discarded .check := rfl

theorem judgeBody_length (h : 32 < len.toNat ∨ len.toNat + 2 < more.length) :
    judgeBody dst src kind len more = .discarded .length := by
  rw [judgeBody_eq]
  rcases h with h | h
  · exact if_pos h
  · rw [if_neg (show ¬ more.length < len.toNat + 2 by omega), if_pos h]
    exact ite_self _

theorem judgeBody_truncated (h32 : len.toNat ≤ 32) (h : more.length < len.toNat + 2) :
    judgeBody dst src kind len more = .discarded .truncated := by
  rw [judgeBody_eq, if_neg (Nat.not_lt.mpr h32), if_pos h]

theorem judgeBody_full (h32 : len.toNat ≤ 32) (h : more.length = len.toNat + 2) : judgeBody dst src kind len more =
    if more.drop len.toNat = be16 (checkOf (frameIn dst src kind len more).body).toNat then
      .good (frameIn dst src kind len more)
    else .discarded .check := by
  rw [judgeBody_eq, if_neg (Nat.not_lt.mpr h32), if_neg (by omega), if_neg (by omega)]

theorem judgeBody_check (h32 : len.toNat ≤ 32) (h : more.length = len.toNat + 2) (hc : ¬ checksOut dst src kind len more) :
    judgeBody dst src kind len more = .discarded .check := (judgeBody_full h32 h).trans (if_neg hc)

theorem judgeBody_good (h32 : len.toNat ≤ 32) (h : more.length = len.toNat + 2) (hc : checksOut dst src kind len more) :
    judgeBody dst src kind len more = .good (frameIn dst src kind len more) := (judgeBody_full h32 h).trans (if_pos hc)

/-- The four outcomes of judgements 2 to 6, each with the case it has. -/
theorem judgeBody_cases (dst src kind len : Byte) (more : List Byte) :
    ((32 < len.toNat ∨ len.toNat + 2 < more.length) ∧ judgeBody dst src kind len more = .discarded .length) ∨
    ((len.toNat ≤ 32 ∧ more.length < len.toNat + 2) ∧ judgeBody dst src kind len more = .discarded .truncated) ∨
    ((len.toNat ≤ 32 ∧ more.length = len.toNat + 2 ∧ ¬ checksOut dst src kind len more) ∧
      judgeBody dst src kind len more = .discarded .check) ∨
    ((len.toNat ≤ 32 ∧ more.length = len.toNat + 2 ∧ checksOut dst src kind len more) ∧
      judgeBody dst src kind len more = .good (frameIn dst src kind len more)) := by
  by_cases hlong : 32 < len.toNat ∨ len.toNat + 2 < more.length
  · exact .inl ⟨hlong, judgeBody_length hlong⟩
  · have h32 : len.toNat ≤ 32 := by omega
    by_cases hshort : more.length < len.toNat + 2
    · exact .inr (.inl ⟨⟨h32, hshort⟩, judgeBody_truncated h32 hshort⟩)
    · have hfull : more.length = len.toNat + 2 := by omega
      by_cases hc : checksOut dst src kind len more
      · exact .inr (.inr (.inr ⟨⟨h32, hfull, hc⟩, judgeBody_good h32 hfull hc⟩))
      · exact .inr (.inr (.inl ⟨⟨h32, hfull, hc⟩, judgeBody_check h32 hfull hc⟩))

theorem judgeBody_truncated_iff : judgeBody dst src kind len more = .discarded .truncated ↔
    len.toNat ≤ 32 ∧ more.length < len.toNat + 2 := by
  refine ⟨fun h => ?_, fun ⟨h32, hshort⟩ => judgeBody_truncated h32 hshort⟩
  rcases judgeBody_cases dst src kind len more with ⟨hcase, hj⟩ | ⟨hcase, hj⟩ | ⟨hcase, hj⟩ | ⟨hcase, hj⟩
  all_goals cases hj.symm.trans h
  exact hcase

theorem judgeBody_length_iff : judgeBody dst src kind len more = .discarded .length ↔
    32 < len.toNat ∨ len.toNat + 2 < more.length := by
  refine ⟨fun h => ?_, judgeBody_length⟩
  rcases judgeBody_cases dst src kind len more with ⟨hcase, hj⟩ | ⟨hcase, hj⟩ | ⟨hcase, hj⟩ | ⟨hcase, hj⟩
  all_goals cases hj.symm.trans h
  exact hcase

theorem judgeBody_check_iff : judgeBody dst src kind len more = .discarded .check ↔
    len.toNat ≤ 32 ∧ more.length = len.toNat + 2 ∧ ¬ checksOut dst src kind len more := by
  refine ⟨fun h => ?_, fun ⟨h32, hfull, hc⟩ => judgeBody_check h32 hfull hc⟩
  rcases judgeBody_cases dst src kind len more with ⟨hcase, hj⟩ | ⟨hcase, hj⟩ | ⟨hcase, hj⟩ | ⟨hcase, hj⟩
  all_goals cases hj.symm.trans h
  exact hcase

theorem judgeBody_good_iff : judgeBody dst src kind len more = .good f ↔
    (len.toNat ≤ 32 ∧ more.length = len.toNat + 2 ∧ checksOut dst src kind len more) ∧ f = frameIn dst src kind len more := by
  refine ⟨fun h => ?_, fun ⟨⟨h32, hfull, hc⟩, hf⟩ => hf ▸ judgeBody_good h32 hfull hc⟩
  rcases judgeBody_cases dst src kind len more with ⟨hcase, hj⟩ | ⟨hcase, hj⟩ | ⟨hcase, hj⟩ | ⟨hcase, hj⟩
  all_goals cases hj.symm.trans h
  exact ⟨hcase, rfl⟩

/-! ### A run of bytes -/

/-- Fewer bytes than the length field needs are TRUNCATED (R145, judgement 1). -/
theorem judgeFrame_short {bytes : List Byte} (h : bytes.length < 4) : judgeFrame bytes = .discarded .truncated := by
  unfold judgeFrame
  split
  · simp only [List.length_cons] at h
    omega
  · rfl

/-- A run of bytes that reaches its length field. -/
theorem exists_cons_of_getElem? {bytes : List Byte} (h : bytes[3]? = some len) :
    ∃ dst src kind more, bytes = dst :: src :: kind :: len :: more := by
  match bytes, h with
  | dst :: src :: kind :: x :: more, h =>
    obtain rfl : x = len := by simpa using h
    exact ⟨dst, src, kind, more, rfl⟩

/-- The check of the bytes before it, in the words of a run of bytes (R165). -/
theorem checksOut_iff (h : more.length = len.toNat + 2) : checksOut dst src kind len more ↔
    (dst :: src :: kind :: len :: more).drop (len.toNat + 4) =
      be16 (checkOf ((dst :: src :: kind :: len :: more).take (len.toNat + 4))).toNat := by
  rw [checksOut, body_frameIn (by omega)]
  rfl

/-- A good frame is the wire form of a frame of at most 32 payload bytes (R145, R165, 12.1). -/
theorem judgeFrame_good_iff (bytes : List Byte) (f : Frame) :
    judgeFrame bytes = .good f ↔ f.payload.length ≤ 32 ∧ bytes = f.wire := by
  constructor
  · intro h
    match bytes, h with
    | dst :: src :: kind :: len :: more, h =>
      obtain ⟨⟨h32, hfull, hc⟩, rfl⟩ := judgeBody_good_iff.mp h
      have hlength : (frameIn dst src kind len more).payload.length = len.toNat := List.length_take_of_le (by omega)
      refine ⟨hlength.trans_le h32, ?_⟩
      rw [Frame.wire_eq, hlength, byteOf_toNat, ← show more.drop len.toNat = _ from hc]
      exact congrArg (fun l => dst :: src :: kind :: len :: l) (List.take_append_drop _ _).symm
  · rintro ⟨h32, rfl⟩
    have hlen : (byteOf f.payload.length).toNat = f.payload.length := toNat_byteOf (by omega)
    have hframe : frameIn f.dst f.src f.kind (byteOf f.payload.length) (f.payload ++ be16 (checkOf f.body).toNat) = f := by
      rw [frameIn, hlen, List.take_left]
    rw [f.wire_eq, judgeFrame]
    refine judgeBody_good_iff.mpr ⟨⟨hlen.trans_le h32, ?_, ?_⟩, hframe.symm⟩
    · rw [hlen, List.length_append]
      rfl
    · rw [checksOut, hframe, hlen, List.drop_left]

end Sys2Proof.Machine

open Sys2Proof Sys2Proof.Machine

/-- Settles O38. -/
theorem goodFrameIsWireForm : Obligations.GoodFrameIsWireForm := by
  unfold Obligations.GoodFrameIsWireForm
  exact judgeFrame_good_iff

end

section
/-! The statement about received frames (R145 to R147): the first byte, and the ending gap. -/

namespace Sys2Proof.Machine

variable {p : Port} {x : Byte} {f : Frame}

/-! ### The first byte of a frame -/

theorem Port.canReceive_iff (p : Port) : p.canReceive = true ↔ p.up = true ∧ p.sending = false := by
  simp [Port.canReceive]

theorem Port.beginFrame_deaf (h : p.up = false ∨ p.sending = true) (x : Byte) : p.beginFrame x = p := by
  refine if_neg fun hc => ?_
  obtain ⟨hup, hidle⟩ := p.canReceive_iff.mp hc
  rcases h with h | h
  · exact Bool.false_ne_true (h.symm.trans hup)
  · exact Bool.false_ne_true (hidle.symm.trans h)

theorem Port.beginFrame_empty (hup : p.up = true) (hidle : p.sending = false) (ha : p.assembly = .empty) (x : Byte) :
    p.beginFrame x = { p with assembly := .building [x] } := by
  rw [Port.beginFrame, if_pos (p.canReceive_iff.mpr ⟨hup, hidle⟩), ha]

/-- Behind a waiting frame the FIFO is full, so its loss does not move the hold-off output (R146, R147). -/
theorem Port.beginFrame_waiting (hup : p.up = true) (hidle : p.sending = false) (ha : p.assembly = .waiting f) (h : p.Ok)
    (x : Byte) : p.beginFrame x = { p with assembly := .building [x], errors := { p.errors with overrun := true } } := by
  have hfull : p.rx.length = 16 := h.waiting f ha
  have hheld : Config.holdOffHigh ≤ ({ p with assembly := .building [x] } : Port).held := by
    show 14 ≤ p.rx.length
    omega
  have hout : p.holdOut = true := h.holdHigh (by rw [Port.held_waiting ha, hfull]; decide)
  have hkept : ({ p with assembly := .building [x] } : Port).updateHold = { p with assembly := .building [x] } := by
    rw [Port.updateHold, if_pos hheld, ← hout]
  rw [Port.beginFrame, if_pos (p.canReceive_iff.mpr ⟨hup, hidle⟩), ha]
  exact congrArg (fun q => Port.record q .overrun) hkept

/-! ### The ending gap of a frame -/

theorem Port.frameEnd_building (ha : p.assembly = .building [x]) (rest : List Byte) :
    p.frameEnd rest = p.endFrame (judgeFrame (x :: rest)) := by
  rw [Port.frameEnd, ha]
  rfl

/-- The wire form of a frame, once ended, is delivered (R145). -/
theorem Port.frameEnd_wire {rest : List Byte} (ha : p.assembly = .building [x]) (hw : x :: rest = f.wire)
    (h32 : f.payload.length ≤ 32) : p.frameEnd rest = p.deliver f := by
  rw [Port.frameEnd_building ha, (judgeFrame_good_iff _ f).mpr ⟨h32, hw⟩]
  rfl

theorem Port.deliver_room (h : p.rx.length < 16) (f : Frame) : p.deliver f =
    { p with rx := p.rx ++ [f], assembly := .empty,
             holdOut := if 14 ≤ p.rx.length + 1 then true else if p.rx.length + 1 ≤ 8 then false else p.holdOut } := by
  have hheld : ({ p with rx := p.rx ++ [f], assembly := .empty } : Port).held = p.rx.length + 1 := List.length_append
  rw [Port.deliver, if_pos (show p.rx.length < Config.fifoDepth from h), Port.updateHold, hheld]
  rfl

theorem Port.deliver_full (h : 16 ≤ p.rx.length) (f : Frame) :
    p.deliver f = { p with assembly := .waiting f, holdOut := true } := by
  have hheld : Config.holdOffHigh ≤ ({ p with assembly := .waiting f } : Port).held := by
    rw [Port.held_waiting rfl, Config.holdOffHigh]
    exact Nat.le_succ_of_le (le_trans (by decide) h)
  rw [Port.deliver, if_neg (show ¬ p.rx.length < Config.fifoDepth from Nat.not_lt.mpr h), Port.updateHold, if_pos hheld]

theorem Port.frameEnd_discarded {rest : List Byte} {k : ErrKind} (ha : p.assembly = .building [x])
    (hj : judgeFrame (x :: rest) = .discarded k) :
    p.frameEnd rest = { p with assembly := .empty, errors := p.errors.add k } := by
  rw [Port.frameEnd_building ha, hj]
  rfl

/-! ### The commands -/

/-- A change of a port is known by what it makes of the port that it meets. -/
theorem Block.modPort_congr {b : Block} {p : PortId} {f g : Port → Port} (h : f (b.port p) = g (b.port p)) :
    b.modPort p f = b.modPort p g := by
  cases p with
  | g => exact congrArg (fun q => { b with gport := q }) h
  | c => exact congrArg (fun q => { b with cport := q }) h

theorem Block.modPort_same {b : Block} {p : PortId} {f : Port → Port} (h : f (b.port p) = b.port p) : b.modPort p f = b := by
  rw [Block.modPort_congr (g := id) h]
  cases p <;> rfl

/-- A command that changes one port is known by what it makes of that port. -/
theorem State.next_modPort {s : State} {p : PortId} {f g : Port → Port} (h : f (s.toBlock.port p) = g (s.toBlock.port p)) :
    (.next { s with toBlock := s.toBlock.modPort p f } : Host.Outcome State Fault Refusal) =
      .next { s with toBlock := s.toBlock.modPort p g } := by
  rw [Block.modPort_congr h]

theorem State.next_modPort_same {s : State} {p : PortId} {f : Port → Port} (h : f (s.toBlock.port p) = s.toBlock.port p) :
    (.next { s with toBlock := s.toBlock.modPort p f } : Host.Outcome State Fault Refusal) = .next s := by
  rw [Block.modPort_same h]

/-- Both commands of a first byte do the same (assumption 1). -/
theorem exec_firstByte {c : Instr} {p : PortId} {x : Byte} (hc : c = .firstByteAfterIdleLine p x ∨ c = .nextFrameBegins p x)
    (s : State) : exec c s = .next { s with toBlock := s.toBlock.modPort p (fun q => q.beginFrame x) } := by
  rcases hc with rfl | rfl
  · rfl
  · rfl

end Sys2Proof.Machine

open Sys2Proof Sys2Proof.Machine

/-- Settles O39: each command is one change of its port, by `Port.beginFrame` or by the outcome of the judgement. -/
theorem framesAreReceived : Obligations.FramesAreReceived := by
  unfold Obligations.FramesAreReceived
  refine ⟨fun s p x c hc => ⟨fun hup hidle ha => ?_, fun f hup hidle ha hok => ?_, fun hdeaf => ?_⟩,
    fun s p x rest f ha hw h32 hroom => ?_, fun s p x rest f ha hw h32 hfull => ?_, fun s p x rest k ha hj => ?_,
    fun bytes => ⟨judgeFrame_short, fun n hn => ?_⟩⟩
  · exact (exec_firstByte hc s).trans (State.next_modPort (Port.beginFrame_empty hup hidle ha x))
  · exact (exec_firstByte hc s).trans (State.next_modPort (Port.beginFrame_waiting hup hidle ha hok x))
  · exact (exec_firstByte hc s).trans (State.next_modPort_same (Port.beginFrame_deaf hdeaf x))
  · exact State.next_modPort ((Port.frameEnd_wire ha hw h32).trans (Port.deliver_room hroom f))
  · exact State.next_modPort ((Port.frameEnd_wire ha hw h32).trans (Port.deliver_full hfull f))
  · exact State.next_modPort (Port.frameEnd_discarded ha hj)
  · obtain ⟨dst, src, kind, more, rfl⟩ := exists_cons_of_getElem? hn
    have hlength : (dst :: src :: kind :: n :: more).length = more.length + 4 := rfl
    rw [hlength]
    refine ⟨judgeBody_truncated_iff.trans ?_, judgeBody_length_iff.trans ?_, judgeBody_check_iff.trans ?_⟩
    · omega
    · omega
    · refine and_congr_right fun _ => ⟨fun ⟨hm, hc⟩ => ⟨by omega, (checksOut_iff hm).not.mp hc⟩, fun ⟨hm, hc⟩ => ?_⟩
      have hfull : more.length = n.toNat + 2 := by omega
      exact ⟨hfull, (checksOut_iff hfull).not.mpr hc⟩

end

section
/-! The statement about sending: a frame begun under the hold-off and sent (R148, R149), and the pass behind an own frame on the
C-port (R83). -/

namespace Sys2Proof.Machine

variable {p : Port} {b : Block} {s : State}

/-! ### A frame is begun (R149) -/

theorem Port.receiving_iff (p : Port) : p.receiving = true ↔ ∃ l, p.assembly = .building l := by
  unfold Port.receiving
  cases p.assembly <;> simp

/-! ### A frame has been sent (R148) -/

theorem Port.sent_eq {x : TxItem} {rest : List TxItem} (h : p.tx = x :: rest) :
    p.sent = { p with tx := rest, sending := false } := by
  rw [Port.sent, h]
  rfl

theorem Block.frameSent_eq {p : PortId} {x : TxItem} {rest : List TxItem} (hs : (b.port p).sending = true)
    (ht : (b.port p).tx = x :: rest) : b.frameSent p = (b.modPort p Port.sent).afterSent p x := by
  rw [Block.frameSent, ht]
  exact if_pos hs

/-- Without a mark and without a trigger a sent frame only frees its place (R148). -/
theorem Block.afterSent_quiet {p : PortId} {x : TxItem} (hr : x.restart = false) (h : p = .g ∨ x.own = false) :
    b.afterSent p x = b := by
  have hno : ¬ (p = .c ∧ x.own = true) := by
    rintro ⟨rfl, ho⟩
    rcases h with h | h
    · cases h
    · exact Bool.false_ne_true (h.symm.trans ho)
  rw [Block.afterSent, if_neg (by rw [hr]; decide), if_neg hno]

/-- An own frame sent on the C-port is a trigger, taken at once (R83). -/
theorem Block.afterSent_own {x : TxItem} (hr : x.restart = false) (ho : x.own = true) : b.afterSent .c x = b.trigger.finish := by
  rw [Block.afterSent, if_neg (by rw [hr]; decide), if_pos ⟨rfl, ho⟩]

/-! ### The pass behind the trigger (R82, R83) -/

/-- What only sends does not change what decides a pass, and raising the trigger does not either. -/
theorem Block.OnlySends.samePass {c : Block} (h : b.OnlySends c) : b.SamePass c.trigger :=
  ⟨h.plan, h.active, h.fallback, h.aEff, h.settleTimer, h.commitments, h.sameQueue, h.cport.up,
    fun j => congrArg (fun c => c.learned.silent) (h.car_eq j), fun j => congrArg Car.bound (h.car_eq j)⟩

/-- The block of an own frame sent on the C-port, with the trigger raised. -/
def Block.ownSent (b : Block) : Block := (b.modPort .c Port.sent).trigger

theorem Block.ownSent_samePass (b : Block) : b.SamePass b.ownSent :=
  ⟨rfl, rfl, rfl, rfl, rfl, rfl, rfl, rfl, fun _ => rfl, fun _ => rfl⟩

/-- A sent own frame has freed an own place (R148). -/
theorem Port.ownCount_tail {x : TxItem} {rest : List TxItem} (ht : p.tx = x :: rest) (ho : x.own = true) (h : p.ownCount ≤ 8) :
    (rest.filter fun x => x.own).length < 8 := by
  rw [Port.ownCount, ht, List.filter_cons, ho] at h
  simpa using h

theorem exec_frameSent {p : PortId} {c : Block} (h : s.toBlock.frameSent p = c) :
    exec (.frameSent p) s = .next { s with toBlock := c } := by
  subst h
  rfl

end Sys2Proof.Machine

open Sys2Proof Sys2Proof.Machine

/-- Settles O40: all but an own frame sent on the C-port is one change of the port; that one raises the trigger, and
`SamePass.thenPass` says what its pass leaves. -/
theorem framesAreSent : Obligations.FramesAreSent := by
  unfold Obligations.FramesAreSent
  refine ⟨fun _ _ _ => rfl, fun s p hup hin hidle hbuild htx => ?_, fun s p hno => ?_, fun s p x rest hs ht hr hquiet => ?_,
    fun s x rest hs ht hr ho hsettled => ?_⟩
  · have hreceiving : (s.toBlock.port p).receiving = false := by
      rw [← Bool.not_eq_true, Port.receiving_iff]
      exact fun ⟨l, hl⟩ => hbuild l hl
    exact State.next_modPort (if_pos ((Port.canSend_iff _).mpr ⟨hup, hin, hidle, hreceiving, htx⟩))
  · refine State.next_modPort_same (if_neg ?_)
    rw [Port.canSend_iff]
    rw [← Port.receiving_iff] at hno
    rintro ⟨hup, hin, hidle, hreceiving, htx⟩
    simp [hup, hin, hidle, hreceiving, htx] at hno
  · exact (exec_frameSent ((Block.frameSent_eq hs ht).trans (Block.afterSent_quiet hr hquiet))).trans
      (State.next_modPort (Port.sent_eq ht))
  · have hexec : exec (.frameSent .c) s = .next { s with toBlock := s.toBlock.ownSent.finish } :=
      exec_frameSent ((Block.frameSent_eq (p := .c) hs ht).trans (Block.afterSent_own hr ho))
    have hthen : s.toBlock.ThenPass 0 s.toBlock.ownSent.cport.tx s.toBlock.ownSent.finish :=
      s.toBlock.ownSent_samePass.thenPass (fun _ _ => rfl) rfl hsettled.2
    have hkeeps := s.toBlock.ownSent.finish_keeps
    have htx : s.toBlock.ownSent.cport.tx = rest := congrArg List.tail ht
    have hsending : s.toBlock.ownSent.finish.cport.sending = false := hkeeps.cport.sending
    have hrx : s.toBlock.ownSent.finish.cport.rx = s.cport.rx := hkeeps.cport.rx
    have hplan : s.toBlock.ownSent.finish.plan = s.plan := hkeeps.plan
    have hmgmt : s.toBlock.ownSent.finish.mgmt = s.mgmt := hkeeps.mgmt
    obtain ⟨l, hl⟩ := hkeeps.cport.grows
    rw [htx] at hthen hl
    generalize s.toBlock.ownSent.finish = t at hexec hthen hsending hrx hplan hmgmt hl
    exact ⟨_, hexec, hsending, ⟨l, hl.symm⟩, hthen.list, hthen.one, hplan, hmgmt, hrx, fun e queue hhead hok hset hup hcount =>
      hthen.fits e queue hhead hok hset ⟨hup, Port.ownCount_tail ht ho hcount⟩⟩

end

section
/-! The statement about a line fault and its recovery (R150): the notice of a port's line, the SERVE orders that a C-port fault
removes, and the end of a step in which no pass can be made. -/

namespace Sys2Proof.Machine

variable {b c : Block} {v : Vector Car 16} {i : CarIx} {s : State}

/-! ### The G-port -/

theorem exec_lineFault_g (hup : s.gport.up = true) :
    exec (.lineFault .g) s = .next { s with toBlock := s.toBlock.faultG } := if_pos hup

theorem exec_lineFault_c (hup : s.cport.up = true) :
    exec (.lineFault .c) s = .next { s with toBlock := s.toBlock.faultC } := if_pos hup

theorem exec_lineUp (p : PortId) (hdown : (s.toBlock.port p).up = false) :
    exec (.lineUp p) s = .next { s with toBlock := s.toBlock.lineUp p } := if_neg (by rw [hdown]; decide)

/-- A G-port fault without a RESTART's answer in the queue drops the waiting response parts (R150, R154). -/
theorem Block.faultG_eq (h : ∀ x ∈ b.gport.tx, x.restart = false) :
    b.faultG = { b with gport := b.gport.fault, mgmt := { b.mgmt with response := [] } } := by
  have hno : b.restartQueued = false := List.any_eq_false.mpr fun x hx => by simp [h x hx]
  rw [Block.faultG, hno]
  rfl

/-! ### The notice of the C-port's line (R143, R150) -/

@[simp] theorem Block.cport_lineNotice (b : Block) (r : NoticeReason) : (b.lineNotice r).cport = b.cport := by
  unfold Block.lineNotice
  split
  · exact b.cport_planNotice r
  · rfl

theorem Block.gport_lineNotice_unloaded (h : b.loaded = false) (r : NoticeReason) : (b.lineNotice r).gport = b.gport := by
  rw [Block.lineNotice, h]
  rfl

/-- A notice that names no car queues its frame where the G-port has room (R143). -/
theorem Block.gport_lineNotice_loaded (h : b.loaded = true) (hr : b.gport.roomOwn = true) (r : NoticeReason) :
    (b.lineNotice r).gport =
      { b.gport with tx := b.gport.tx ++ [ownItem (b.ownFrame 0 .planNotice [b.plan.code, 0, 0, r.code])] } := by
  rw [Block.lineNotice, h]
  unfold Block.planNotice Block.sendNotice Block.placeOwn
  rw [if_pos (show (b.port .g).roomOwn = true from hr)]
  rfl

/-! ### The SERVE orders that a fault removes (R150, R101) -/

theorem loseServe_carWise : CarWise Block.loseServe :=
  ⟨fun b i => b.loseServe_keeps i, fun b i _ h => (b.loseServe_touches i).others _ h⟩

theorem Block.loseServe_cars (b : Block) (i : CarIx) : ∃ v, b.loseServe i = { b with cars := v } := by
  unfold Block.loseServe
  split
  · exact ⟨_, rfl⟩
  · exact ⟨b.cars, rfl⟩

/-- The block with the marks of its lost SERVE orders set. -/
def Block.serveLost (b : Block) : Block := allCars.foldl Block.loseServe b

/-- Marking lost SERVE orders changes no more than the cars. -/
theorem Block.serveLost_cars (b : Block) : ∃ v, b.serveLost = { b with cars := v } := by
  refine foldl_rel (R := fun b c : Block => ∃ v, c = { b with cars := v }) (fun b => ⟨b.cars, rfl⟩) (fun h k => ?_)
    Block.loseServe_cars allCars b
  obtain ⟨v, rfl⟩ := h
  obtain ⟨w, rfl⟩ := k
  exact ⟨w, rfl⟩

theorem Block.serveLost_marks (b : Block) (i : CarIx) : (b.car i).SameButMarks (b.serveLost.car i) := by
  obtain ⟨c, -, hc, hr⟩ := loseServe_carWise.car_allCars b i
  rw [Block.serveLost, hr, ← hc]
  exact (c.loseServe_touches i).this

/-- The order of a SERVING car whose order is SERVE is a SERVE order on the line (12.3). -/
theorem Block.orderItem_isServe (h : (b.car i).order = some .serve) : (b.orderItem i).isServe i = true := by
  simp [TxItem.isServe, Block.orderItem, h, ownItem, Block.ownFrame, CarOrder.landingByte]

theorem Block.serveQueued_of_mem (hs : (b.car i).state = .serving) (ho : (b.car i).order = some .serve)
    (hm : b.orderItem i ∈ b.cport.tx) : b.serveQueued i = true := by
  have hany : b.cport.tx.any (fun x => x.isServe i) = true := List.any_eq_true.mpr ⟨_, hm, Block.orderItem_isServe ho⟩
  simp [Block.serveQueued, hs, hany]

theorem Block.serveQueued_keeps (k : b.KeepsBudget c) (hc : c.car i = b.car i) (h : b.serveQueued i = true) :
    c.serveQueued i = true := by
  obtain ⟨l, hl⟩ := k.cport.grows
  simp only [Block.serveQueued, Bool.and_eq_true, decide_eq_true_eq] at h ⊢
  obtain ⟨hs, hany⟩ := h
  exact ⟨hc ▸ hs, by rw [hl, List.any_append, hany]; rfl⟩

/-- A SERVE order that the fault removes is marked as not sent (R101). -/
theorem Block.car_serveLost (h : b.serveQueued i = true) :
    b.serveLost.car i = { b.car i with serveUnsent := true } := by
  obtain ⟨c, hk, hc, hr⟩ := loseServe_carWise.car_allCars b i
  rw [Block.serveLost, hr, Block.loseServe, if_pos (Block.serveQueued_keeps hk hc h), Block.car_modCar_same, hc]

/-! ### The end of a step without a pass (R82, R101) -/

/-- With no evaluation due and no pass allowed, the end of a step only clears its trigger and follows the order-resend timers. -/
theorem Block.finish_barred (he : b.evalDue = false) (hp : b.passAllowed = false) :
    ∃ x, b.finish = allCars.foldl Block.syncResend { b with arbDue := x } := by
  have heval : b.takeEvaluation = b := if_neg (by rw [he]; decide)
  obtain ⟨x, hx⟩ := Block.takeTrigger_barred hp
  exact ⟨x, by rw [Block.finish, heval, hx]⟩

/-- A SERVING car whose SERVE order is unsent has its stopped order-resend timer started (R101). -/
theorem Block.syncResend_starts (hs : (b.car i).state = .serving) (hu : (b.car i).serveUnsent = true)
    (ht : (b.car i).resendTimer = none) :
    (b.syncResend i).car i = { b.car i with resendTimer := some b.active.plan.tSilent } := by
  have hruns : b.resendRuns i = true := by simp [Block.resendRuns, hs, hu]
  rw [Block.syncResend, if_pos hruns, ht, Option.isSome_none, if_neg (by decide), Block.car_modCar_same]

theorem Block.resendAll_starts (hs : (b.car i).state = .serving) (hu : (b.car i).serveUnsent = true)
    (ht : (b.car i).resendTimer = none) :
    (allCars.foldl Block.syncResend b).car i = { b.car i with resendTimer := some b.active.plan.tSilent } := by
  obtain ⟨c, hk, hc, hr⟩ := syncResend_carWise.car_allCars b i
  rw [hr, Block.syncResend_starts (hc.symm ▸ hs) (hc.symm ▸ hu) (hc.symm ▸ ht), hc, hk.active]

/-! ### A C-port fault (R150) -/

/-- The block of a C-port fault before its notice: the port in FAULT, and the cars as their marks leave them. -/
def Block.cportDown (b : Block) (v : Vector Car 16) : Block := { b with cport := b.cport.fault, cars := v }

/-- The block of a C-port fault before the end of its step. -/
def Block.faultedC (b : Block) (v : Vector Car 16) : Block := ((b.cportDown v).lineNotice .linkFault).trigger

/-- A C-port fault marks the lost SERVE orders, and ends its step behind the notice. -/
theorem Block.faultC_eq (b : Block) : ∃ v, (∀ i, v.get i = b.serveLost.car i) ∧ b.faultC = (b.faultedC v).finish := by
  obtain ⟨v, hv⟩ := b.serveLost_cars
  refine ⟨v, fun i => by rw [hv]; rfl, ?_⟩
  have hfault : b.faultC = ((b.serveLost.modPort .c Port.fault).lineNotice .linkFault).trigger.finish := rfl
  rw [hfault, hv]
  rfl

/-- What a C-port fault leaves before the end of its step, with the cars as their marks leave them. -/
structure Block.FaultsC (b : Block) (v : Vector Car 16) (c : Block) : Prop where
  cport       : c.cport = b.cport.fault
  commitments : c.commitments = b.commitments
  queue       : c.queue = b.queue
  plan        : c.plan = b.plan
  mgmt        : c.mgmt = b.mgmt
  active      : c.active = b.active
  evalDue     : c.evalDue = b.evalDue
  cars        : c.cars = v
  unloaded    : b.loaded = false → c.gport = b.gport
  notice      : b.loaded = true → b.gport.roomOwn = true → c.gport =
    { b.gport with tx := b.gport.tx ++ [ownItem (b.ownFrame 0 .planNotice [b.plan.code, 0, 0, 10])] }

/-- The trigger is none of what a fault leaves. -/
theorem Block.FaultsC.triggered (h : b.FaultsC v c) : b.FaultsC v c.trigger :=
  ⟨h.cport, h.commitments, h.queue, h.plan, h.mgmt, h.active, h.evalDue, h.cars, h.unloaded, h.notice⟩

theorem Block.faultedC_faults (b : Block) (v : Vector Car 16) : b.FaultsC v (b.faultedC v) := by
  have hsends := (b.cportDown v).lineNotice_only .linkFault
  have hunloaded := fun h => Block.gport_lineNotice_unloaded (b := b.cportDown v) h .linkFault
  have hnotice := fun h hr => Block.gport_lineNotice_loaded (b := b.cportDown v) h hr .linkFault
  have hcport := (b.cportDown v).cport_lineNotice .linkFault
  refine Block.FaultsC.triggered ?_
  generalize (b.cportDown v).lineNotice .linkFault = c at hsends hcport hunloaded hnotice
  exact ⟨hcport, hsends.commitments, hsends.sameQueue, hsends.plan, hsends.mgmt, hsends.active, hsends.evalDue, hsends.cars,
    hunloaded, hnotice⟩

/-- A port in FAULT lets no pass be made (R82, R150). -/
theorem Block.FaultsC.barred (h : b.FaultsC v c) : c.passAllowed = false := by
  have hdown : c.cport.up = false := by rw [h.cport]; rfl
  rw [← Bool.not_eq_true, c.passAllowed_iff, Port.roomOwn_iff]
  exact fun hall => Bool.false_ne_true (hdown.symm.trans hall.2.2.2.1)

theorem Block.FaultsC.car (h : b.FaultsC v c) (hv : ∀ i, v.get i = b.serveLost.car i) (i : CarIx) :
    c.car i = b.serveLost.car i := (congrArg (fun v => v.get i) h.cars).trans (hv i)

/-- No car moves at a fault (R150). -/
theorem Block.FaultsC.sameButMarks (h : b.FaultsC v c) (hv : ∀ i, v.get i = b.serveLost.car i) (x : Bool) (i : CarIx) :
    (b.car i).SameButMarks ((allCars.foldl Block.syncResend { c with arbDue := x }).car i) := by
  have hlost := b.serveLost_marks i
  rw [← h.car hv i] at hlost
  exact hlost.trans ((Block.resendAll { c with arbDue := x }).sameButMarks i)

/-- A SERVING car whose SERVE order the fault removes tries it again after T_silent (R101, R150). -/
theorem Block.FaultsC.resends (h : b.FaultsC v c) (hv : ∀ i, v.get i = b.serveLost.car i)
    (hs : (b.car i).state = .serving) (ht : (b.car i).resendTimer = none) (ho : (b.car i).order = some .serve)
    (hm : b.orderItem i ∈ b.cport.tx) (x : Bool) :
    (allCars.foldl Block.syncResend { c with arbDue := x }).car i =
      { b.car i with resendTimer := some b.active.plan.tSilent, serveUnsent := true } := by
  have hcar : ({ c with arbDue := x } : Block).car i = { b.car i with serveUnsent := true } :=
    (h.car hv i).trans (Block.car_serveLost (Block.serveQueued_of_mem hs ho hm))
  rw [Block.resendAll_starts (by rw [hcar]; exact hs) (by rw [hcar]) (by rw [hcar]; exact ht), hcar, h.active]

/-! ### The recovery of the C-port (R150) -/

/-- The block of the C-port brought back UP. -/
def Block.cportUp (b : Block) : Block := b.modPort .c fun q => { q with up := true }

/-- The block of a C-port's recovery with its notice sent and its trigger raised. -/
def Block.recoveredC (b : Block) : Block := (b.cportUp.lineNotice .linkUp).trigger

/-- What the recovery of the C-port leaves: the line UP, the notice, and the pass behind the trigger (R82, R83). -/
theorem Block.recoveredC_thenPass (h : b.evalDue = false) : b.cportUp.ThenPass 0 b.cport.tx b.recoveredC.finish := by
  have hsends := b.cportUp.lineNotice_only .linkUp
  have hthen : b.cportUp.ThenPass 0 b.recoveredC.cport.tx b.recoveredC.finish :=
    hsends.samePass.thenPass (fun j _ => hsends.car_eq j) rfl (hsends.evalDue.trans h)
  rwa [Block.recoveredC, Block.cport_trigger, Block.cport_lineNotice] at hthen

/-- The line's state is no part of what a grant of the head leaves. -/
theorem Block.GrantsHead.of_cportUp {e : Entry} {rest : List Entry} {tx : List TxItem} (h : b.cportUp.GrantsHead e rest tx c) :
    b.GrantsHead e rest tx c := ⟨h.queue, h.list, h.slot, h.grant⟩

theorem Block.HeadFits.cportUp {e : Entry} {rest : List Entry} (h : b.HeadFits e rest) : b.cportUp.HeadFits e rest :=
  ⟨h.queue, h.plan, h.slot, h.heard, h.fits⟩

end Sys2Proof.Machine

open Sys2Proof Sys2Proof.Machine

/-- Settles O41: a fault at the C-port leaves no pass to be made, so its step ends with the order-resend timers; a recovery is a
notice and a trigger, whose pass `SamePass.thenPass` describes. -/
theorem lineFaultAndRecovery : Obligations.LineFaultAndRecovery := by
  unfold Obligations.LineFaultAndRecovery
  refine ⟨fun s hup hrestart => ?_, fun s hdown => exec_lineUp .g hdown, fun s hup hsettled => ?_, fun s hdown hsettled => ?_⟩
  · rw [exec_lineFault_g hup, Block.faultG_eq hrestart, Port.fault_eq]
    rfl
  · obtain ⟨v, hv, hfaultC⟩ := s.toBlock.faultC_eq
    have hexec := exec_lineFault_c hup
    have hfault := s.toBlock.faultedC_faults v
    obtain ⟨x, hx⟩ := Block.finish_barred (hfault.evalDue.trans hsettled.2) hfault.barred
    have hres := Block.resendAll { s.toBlock.faultedC v with arbDue := x }
    have hgport := Block.gport_resendAll { s.toBlock.faultedC v with arbDue := x }
    have hresends := fun i => hfault.resends hv (i := i) (x := x)
    rw [hfaultC, hx] at hexec
    generalize s.toBlock.faultedC v = c at hfault hexec hres hgport hresends
    have hmarks := fun i => hfault.sameButMarks hv x i
    generalize allCars.foldl Block.syncResend { c with arbDue := x } = t at hexec hres hgport hresends hmarks
    exact ⟨_, hexec, hres.cport.trans (hfault.cport.trans (Port.fault_eq _)), hres.keeps.commitments.trans hfault.commitments,
      hres.queue.trans hfault.queue, hres.keeps.plan.trans hfault.plan, hres.keeps.mgmt.trans hfault.mgmt, hmarks,
      fun i hs ht ho hm => ⟨congrArg Car.resendTimer (hresends i hs ht ho hm), congrArg Car.serveUnsent (hresends i hs ht ho hm)⟩,
      fun hl => hgport.trans (hfault.unloaded hl), fun hl hr => hgport.trans (hfault.notice hl hr)⟩
  · have hexec : exec (.lineUp .c) s = .next { s with toBlock := s.toBlock.recoveredC.finish } := by
      rw [exec_lineUp .c hdown]
      rfl
    have hthen := Block.recoveredC_thenPass (b := s.toBlock) hsettled.2
    have hkeeps := s.toBlock.recoveredC.finish_keeps
    have hport : s.toBlock.recoveredC.cport = s.toBlock.cportUp.cport := by
      rw [Block.recoveredC, Block.cport_trigger, Block.cport_lineNotice]
    have hsends := s.toBlock.cportUp.lineNotice_only .linkUp
    have hup : s.toBlock.recoveredC.finish.cport.up = true := hkeeps.cport.up.trans (congrArg Port.up hport)
    have hplan : s.toBlock.recoveredC.finish.plan = s.plan := hkeeps.plan.trans hsends.plan
    have hmgmt : s.toBlock.recoveredC.finish.mgmt = s.mgmt := hkeeps.mgmt.trans hsends.mgmt
    have hnotice : s.loaded = true → s.gport.roomOwn = true → ∃ l, s.toBlock.recoveredC.finish.gport.tx = s.gport.tx ++
        ownItem (s.toBlock.ownFrame 0 .planNotice [s.plan.code, 0, 0, 11]) :: l := fun hl hr =>
      hkeeps.gport.behind (p := s.gport)
        (congrArg Port.tx (Block.gport_lineNotice_loaded (b := s.toBlock.cportUp) hl hr .linkUp))
    generalize s.toBlock.recoveredC.finish = t at hexec hthen hup hplan hmgmt hnotice
    exact ⟨_, hexec, hup, hthen.list, hplan, hmgmt, hnotice, fun e queue hhead hok hset hcount =>
      (hthen.fits e queue hhead.cportUp (hok.congr rfl rfl) hset ⟨rfl, hcount⟩).of_cportUp⟩

end
